-- ==== Sys2Proof/Word.lean ====
section
/-! DEFINITION. The words of the part: bytes of a frame, 16-bit table, slot and sensor words, and the
number of a channel. -/

namespace Sys2Proof

/-- One byte of a frame on the drive ring. -/
abbrev Byte := BitVec 8

/-- A 16-bit word: table fields, slot words, sensor words, status words (00, Numeric conventions). -/
abbrev Word := BitVec 16

/-- The six bits of a control word (R134). -/
abbrev Control := BitVec 6

/-- A channel number, CH0 to CH7. -/
abbrev Chan := Fin 8

end Sys2Proof
end

