-- ==== Sys2Proof/Syntax.lean ====
section
/-! DEFINITION. The commands of the block: one constructor for each row of spec/opcode_table.json,
with the values the outside brings along. -/

namespace Sys2Proof

/-- One leg of a channel's bridge (chapter 3). -/
inductive Leg where
  | a
  | b
  | c
  deriving DecidableEq, Repr

/-- What the Sense Interface presents for one channel at one sample event (R26): the two raw current
codes, the mechanical angle word and its valid flag. -/
structure SenseIn where
  aRaw : Word
  bRaw : Word
  angle : Word
  valid : Bool
  deriving DecidableEq, Repr

/-- What is presented to the part at one period start: the bus value and each channel's codes (R26, R73). -/
structure SampleInputs where
  vbus : Word
  chans : Vector SenseIn 8
  deriving DecidableEq, Repr

/-- The order the rules leave open inside one sample event: for each pair, whether the odd channel's
sample is taken first (R113), and whether the trace record is written before the samples (R177). -/
structure SampleOrder where
  oddFirst : BitVec 4
  recordFirst : Bool
  deriving DecidableEq, Repr

/-- What can happen to one channel of a pair position, the odd or the even one, at the instant of a
station-wide detection (R80, R114): its own detection, the reaction on its partner's FAULT entry reaching it,
and the end of its rampdown. -/
inductive PairEvent where
  | detect (odd : Bool)
  | react (odd : Bool)
  | rampEnd (odd : Bool)
  deriving DecidableEq, Repr

/-- The order of the events of one pair position (R80, R114). An event that does not come about is passed
over, and detections and reactions that the order leaves out follow it (log 17). -/
abbrev PairOrder := List PairEvent

/-- One order per pair position. -/
abbrev PairOrders := Vector PairOrder 4

/-- Bytes 1 to 5 of a frame (R131). -/
structure Header where
  summary : Byte
  cycleCount : Word
  slotCount : Byte
  servicePresent : Byte
  deriving DecidableEq, Repr

/-- A service record without its COMMAND byte (R132). -/
structure RecordBody where
  station : Byte
  replier : Byte
  flags : Byte
  wordCount : Byte
  argument : BitVec 32
  data : Vector Word 8
  check : Byte
  deriving DecidableEq, Repr

/-- The commands. Each docstring names the row of spec/opcode_table.json. `at_` is the tick of an event
that comes from outside (log 1). -/
inductive Instr where
  /-- RESETN_ASSERTED (R124). -/
  | resetnAsserted (at_ : Nat)
  /-- RESETN_RELEASED (R50): with the strap pins as they stand. -/
  | resetnReleased (at_ : Nat) (straps : Byte)
  /-- INHN_ASSERTED (R77). -/
  | inhnAsserted (at_ : Nat) (order : PairOrders)
  /-- INHN_RELEASED (R60). -/
  | inhnReleased (at_ : Nat)
  /-- PERIOD_START (R50), with its sample event (R25). -/
  | periodStart (inputs : SampleInputs) (order : SampleOrder)
  /-- ANGLE_LOST (R71). -/
  | angleLost (c : Chan)
  /-- CALIBRATION_COMPLETE (R15). -/
  | calibrationComplete (c : Chan)
  /-- COMPUTATION_COMPLETE (R25). -/
  | computationComplete (c : Chan)
  /-- LEG_LEVEL_CHANGE (R56). -/
  | legLevelChange (c : Chan) (leg : Leg)
  /-- DEAD_TIME_END (R57). -/
  | deadTimeEnd (c : Chan) (leg : Leg)
  /-- BUS_STATE_CHANGE (R74). -/
  | busStateChange (order : PairOrders)
  /-- RAMPDOWN_END (R11). -/
  | rampdownEnd (c : Chan)
  /-- BANK_VALIDATION_COMPLETE (R98). -/
  | bankValidationComplete
  /-- BANK_SWITCH (R99). -/
  | bankSwitch
  /-- STREAM_DISCARD_TIMEOUT (R170). -/
  | streamDiscardTimeout
  /-- DEADLINE_EXPIRY (R128). -/
  | deadlineExpiry
  /-- FRAME_START (R117): the first byte of a frame. -/
  | frameStart (kind : Byte)
  /-- HEADER (R118): bytes 1 to 5. -/
  | header (h : Header)
  /-- SUMMARY (R120): bytes 0 and 1 of the frame at TXL leave. -/
  | summary
  /-- CONSUME_WORD (R139): the next slot word of the frame is received. -/
  | consumeWord (value : Word)
  /-- PRODUCE_WORD (R148): the next slot word of the frame at TXL leaves. -/
  | produceWord
  /-- END_OF_RECEPTION (R121): the bytes after the last part that came by a row of its own, the trailer
  last, and then the idle line. -/
  | endOfReception (at_ : Nat) (rest : List Byte)
  /-- TRACE_ARMED_ENTRY (R173). -/
  | traceArmedEntry
  /-- SEGMENT_COMPLETE (R176). -/
  | segmentComplete
  /-- UNKNOWN (R154): a record with a code outside the command table. -/
  | unknown (code : Byte) (body : RecordBody)
  /-- NOP (R157). -/
  | nop (body : RecordBody)
  /-- GET_STATUS (R161). -/
  | getStatus (body : RecordBody)
  /-- SET_CHECK (R157). -/
  | setCheck (body : RecordBody)
  /-- GO_OPERATIONAL (R158). -/
  | goOperational (body : RecordBody)
  /-- LEAVE_OPERATIONAL (R159). -/
  | leaveOperational (body : RecordBody)
  /-- RESET_STATION (R160). -/
  | resetStation (body : RecordBody)
  /-- SET_WINDOW (R166). -/
  | setWindow (body : RecordBody)
  /-- WRITE_START (R167). -/
  | writeStart (body : RecordBody)
  /-- WRITE_CONTINUE (R167). -/
  | writeContinue (body : RecordBody)
  /-- READ_START (R168). -/
  | readStart (body : RecordBody)
  /-- READ_CONTINUE (R168). -/
  | readContinue (body : RecordBody)
  /-- STOP_STREAM (R169). -/
  | stopStream (body : RecordBody)
  /-- COMMIT_BANK (R96). -/
  | commitBank (body : RecordBody)
  /-- COPY_ACTIVE_TO_STAGED (R102). -/
  | copyActiveToStaged (body : RecordBody)
  /-- TAG_FIRST (R162). -/
  | tagFirst (body : RecordBody)
  /-- TAG_LAST (R162). -/
  | tagLast (body : RecordBody)
  /-- GROUP_ACTION with argument 0 (R13, R163). -/
  | groupActionCalibrate (body : RecordBody)
  /-- GROUP_ACTION with argument 1 (R18, R163). -/
  | groupActionClearFault (body : RecordBody)
  /-- GROUP_ACTION with argument 2 (R85, R163). -/
  | groupActionAckNotice (body : RecordBody)
  /-- GROUP_ACTION with argument 3 (R20, R163). -/
  | groupActionRampdown (body : RecordBody)
  /-- TRACE_ARM (R172). -/
  | traceArm (body : RecordBody)
  /-- TRACE_STOP (R177). -/
  | traceStop (body : RecordBody)
  /-- TRACE_TRIGGER (R177). -/
  | traceTrigger (body : RecordBody)
  /-- LINE_IDLE_AFTER_RESET (R124). -/
  | lineIdleAfterReset
  /-- TRAILER_SENT (R116). -/
  | trailerSent
  deriving DecidableEq, Repr

end Sys2Proof
end

