-- ==== Sys2Proof/Decode.lean ====
section
/-! DEFINITION. Words of the opcode table. The block has no instruction words: no row of
spec/opcode_table.json has bits, so no word spells a command (log 11). -/

namespace Sys2Proof

/-- The command a word of the opcode table spells: none, for every word. -/
def decodeTableWord (_nbits _w : Nat) : Option Instr := none

end Sys2Proof
end

