-- ==== Sys2Proof/Config.lean ====
section
/-! DEFINITION. What is fixed for the part, and the values the spec leaves open. -/

namespace Sys2Proof.Config

/-- FAMILY of the STATION table (R165). -/
def family : Nat := 21

/-- REVISION of the STATION table (R165). -/
def revision : Nat := 1

/-- CHANNELS of the STATION table (R165). -/
def channels : Nat := 8

/-- FREE VALUE (log 10): what leaves on TXL for a CYCLE or SERVICE frame of one byte, which has no two
bytes of trailer. The spec gives such a frame its counters and its discard (R118, R123) and not its
bytes on TXL. Applied to the count of free values used so far, it has no body and no statement can
rest on it. -/
opaque oneByteFrameSent : Nat → List Byte

end Sys2Proof.Config
end

