-- ==== Sys2Proof/Machine/State.lean ====
section
/-! DEFINITION. The state of the part as plain data, and its values after reset. Every group of fields
names the rule that gives it. Default values are the values after pin reset. -/

namespace Sys2Proof.Machine

open Sys2Proof

/-! ## Channels (chapters 1, 2 and 4) -/

/-- The seven states of a channel (R1); their order is that of the state codes 0 to 6. -/
inductive ChState where
  | off
  | calibrate
  | ready
  | run
  | hold
  | rampdown
  | fault
  deriving DecidableEq, Repr

/-- The nine fault causes (R78); their order is that of the codes 1 to 9. -/
inductive Cause where
  | overcurrent
  | overrange
  | offsetRange
  | angleLost
  | busUnder
  | busOver
  | inhibit
  | refLoss
  | partner
  deriving DecidableEq, Repr

/-- PAIR_ROLE (section 1.2, field 8). -/
inductive PairRole where
  | none
  | leader
  | follower
  deriving DecidableEq, Repr

/-- The writable fields of the channel record with their defaults (section 1.2, fields 0 to 16). -/
structure ChannelRecord where
  pp : Nat := 1
  angOffs : Nat := 0
  spdFilt : Nat := 4
  trip : Nat := 32767
  peak : Nat := 0
  cont : Nat := 0
  i2tLim : Nat := 0
  ramp : Nat := 100
  pairRole : PairRole := .none
  share : Nat := 32768
  subMask : BitVec 5 := 0
  frzMask : BitVec 5 := 0
  subIqRef : Int := 0
  subIdRef : Int := 0
  subIlimScale : Nat := 32768
  subYawCorr : Int := 0
  subControl : Control := 0
  deriving DecidableEq, Repr

/-- The last results of a channel (R48). -/
structure LastResults where
  ia : Int := 0
  ib : Int := 0
  id : Int := 0
  iq : Int := 0
  idRef : Int := 0
  iqRef : Int := 0
  vd : Int := 0
  vq : Int := 0
  speed : Int := 0
  angle : Nat := 0
  vbus : Nat := 0
  i2t : Nat := 0
  state : ChState := .off
  status : Word := 0
  deriving DecidableEq, Repr

/-- Three compare values, one for each leg (R54). -/
structure Triple where
  a : Nat
  b : Nat
  c : Nat
  deriving DecidableEq, Repr

/-- A computation between its sample event and its completion (R25): the results it will publish, its
flags (R49), its compare values, and whether they may still be handed on. -/
structure Computation where
  results : LastResults
  triple : Triple
  currentLimited : Bool
  voltageLimited : Bool
  foldback : Bool
  band : Nat
  busNotNormal : Bool
  handOn : Bool
  deriving DecidableEq, Repr

/-- The fault record of a channel (R81, R83). Its NOTICE field is a view of the channel's notice. -/
structure FaultRecord where
  firstCause : Option Cause := none
  stamp : Nat := 0
  tripState : ChState := .off
  tripIa : Int := 0
  tripIb : Int := 0
  tripVbus : Nat := 0
  alsoSeen : Word := 0
  laterCount : Nat := 0
  lastLater : Option Cause := none
  totalCount : Nat := 0
  holdCount : Nat := 0
  deriving DecidableEq, Repr

/-- A channel: its context (R1, reset values of R23), its record and its fault record. -/
structure Channel where
  state : ChState := .off
  calibrated : Bool := false
  offA : Int := 0
  offB : Int := 0
  calCount : Nat := 0
  sumA : Int := 0
  sumB : Int := 0
  accD : Int := 0
  accQ : Int := 0
  lastRefD : Int := 0
  lastRefQ : Int := 0
  rampD : Int := 0
  rampQ : Int := 0
  rampComplete : Bool := false
  pendRefLoss : Bool := false
  pendPartner : Bool := false
  enableRefused : Bool := false
  clearRefused : Bool := false
  band : Nat := 0
  speed : Int := 0
  prevAngle : Nat := 0
  invalidCount : Nat := 0
  i2t : Nat := 0
  foldback : Bool := false
  noticeArmed : Bool := true
  noticePending : Bool := false
  last : LastResults := {}
  comp : Option Computation := none
  record : ChannelRecord := {}
  fault : FaultRecord := {}
  deriving DecidableEq, Repr

/-! ## Carrier and Gate Unit (chapter 3) -/

/-- The commanded level of a leg (R56). -/
inductive Level where
  | high
  | low
  deriving DecidableEq, Repr

/-- One leg: its commanded level, its two switches, and the tick of each switch's last turn-off (R57). -/
structure LegState where
  level : Option Level := none
  highOn : Bool := false
  lowOn : Bool := false
  highOffAt : Nat := 0
  lowOffAt : Nat := 0
  deriving DecidableEq, Repr

/-- What the Carrier and Gate Unit holds for one channel (R55). -/
structure Gate where
  enable : Bool := false
  pendingTriple : Option Triple := none
  activeTriple : Option Triple := none
  legA : LegState := {}
  legB : LegState := {}
  legC : LegState := {}
  deriving DecidableEq, Repr

/-- The carrier (R50): the tick at which the present period started, the tick of the next period start,
and the settings in force for the present period (R51). -/
structure Carrier where
  periodAt : Nat := 0
  nextPeriod : Nat := 0
  h : Nat := 3125
  deadTime : Nat := 100
  minp : Nat := 50
  deriving DecidableEq, Repr

/-! ## Bus Monitor (R73 to R76) -/

/-- The classes of a bus value, which are also the bus states (R73, R74). -/
inductive BusClass where
  | normal
  | under
  | over
  deriving DecidableEq, Repr

structure BusMonitor where
  state : BusClass := .normal
  candidate : BusClass := .normal
  count : Nat := 0
  last : Nat := 0
  deriving DecidableEq, Repr

/-! ## Table Store: station settings (R165) and banks (chapter 5) -/

/-- The two phases of the station (chapter 9.2). -/
inductive Phase where
  | config
  | operational
  deriving DecidableEq, Repr

/-- Fields 5 to 19 of the STATION table (R165). -/
structure StationSettings where
  carrierH : Nat := 3125
  deadTime : Nat := 100
  minp : Nat := 50
  cycleRatio : Nat := 4
  cycleTol : Nat := 1000
  missLimit : Nat := 3
  underLim : Nat := 0
  overLim : Nat := 65535
  vnom : Nat := 32768
  winFirst : Nat := 0
  winLast : Nat := 127
  matchState : Nat := 0
  matchFlags : BitVec 6 := 0
  matchCare : BitVec 6 := 0
  discardShort : Bool := false
  deriving DecidableEq, Repr

/-- A gain set (R87). -/
structure GainSet where
  kpD : Nat := 0
  kiD : Nat := 0
  kpQ : Nat := 0
  kiQ : Nat := 0
  vlim : Nat := 31130
  decL : Nat := 0
  ke : Nat := 0
  deriving DecidableEq, Repr

/-- A speed schedule (R88). -/
structure Schedule where
  used : Nat := 1
  t1 : Nat := 0
  t2 : Nat := 0
  t3 : Nat := 0
  hy : Nat := 0
  g0 : Fin 16 := 0
  g1 : Fin 16 := 0
  g2 : Fin 16 := 0
  g3 : Fin 16 := 0
  deriving DecidableEq, Repr

/-- One bank (R94): 16 gain sets and eight schedules. -/
structure Bank where
  gains : Vector GainSet 16 := Vector.replicate 16 {}
  scheds : Vector Schedule 8 := Vector.replicate 8 {}
  deriving DecidableEq, Repr

/-- The commit state (R95). -/
inductive CommitState where
  | idle
  | validating
  | switchPending
  | doneOk
  | doneRejected
  deriving DecidableEq, Repr

/-- The bank commit (R95), and how many period starts have been taken since the commit of the frame
that carried COMMIT_BANK (R98). -/
structure BankCommit where
  state : CommitState := .idle
  rejChannel : Nat := 0
  reason : Nat := 0
  periods : Nat := 0
  deriving DecidableEq, Repr

/-! ## Cycle Timer (R126) and link counters (R130) -/

/-- The Cycle Timer. `deadline` is none while there is no deadline. -/
structure CycleTimer where
  running : Bool := false
  lastArrival : Nat := 0
  deadline : Option Nat := none
  missCount : Nat := 0
  missed : Bool := false
  stamp : Nat := 0
  deriving DecidableEq, Repr

/-- The ten link counters (R130). -/
structure Counters where
  frames : Nat := 0
  crcErrors : Nat := 0
  formatErrors : Nat := 0
  foreign : Nat := 0
  missed : Nat := 0
  late : Nat := 0
  early : Nat := 0
  short : Nat := 0
  service : Nat := 0
  checkFails : Nat := 0
  deriving DecidableEq, Repr

/-! ## Slot Engine (chapter 8) -/

/-- A slot map entry (R136). -/
structure SlotEntry where
  valid : Bool := false
  offset : Nat := 0
  produce : Bool := false
  channel : Chan := 0
  item : Fin 7 := 0
  shift : Nat := 0
  increment : Bool := false
  deriving DecidableEq, Repr

/-- The five reference latches of one channel (R137). -/
structure Latches where
  iqRef : Int := 0
  idRef : Int := 0
  ilimScale : Nat := 0
  yawCorr : Int := 0
  control : Control := 0
  deriving DecidableEq, Repr

/-- A pending value for one reference latch of one channel (R144). -/
inductive LatchWrite where
  | iqRef (c : Chan) (v : Int)
  | idRef (c : Chan) (v : Int)
  | ilimScale (c : Chan) (v : Nat)
  | yawCorr (c : Chan) (v : Int)
  | control (c : Chan) (v : Control)
  deriving DecidableEq, Repr

/-! ## Service Unit (chapter 9) -/

/-- The commands of the command table (R133). -/
inductive Command where
  | nop
  | getStatus
  | setCheck
  | goOperational
  | leaveOperational
  | resetStation
  | setWindow
  | writeStart
  | writeContinue
  | readStart
  | readContinue
  | stopStream
  | commitBank
  | copyActiveToStaged
  | tagFirst
  | tagLast
  | groupAction
  | traceArm
  | traceStop
  | traceTrigger
  deriving DecidableEq, Repr

/-- The four group actions (R20, R157). -/
inductive GroupAction where
  | calibrate
  | clearFault
  | ackNotice
  | rampdown
  deriving DecidableEq, Repr

/-- The eleven tables, in the order of their codes 0 to 10 (R164). -/
inductive Table where
  | station
  | channel
  | slotMap
  | gainStaged
  | gainActive
  | schedStaged
  | schedActive
  | faults
  | counters
  | traceCfg
  | traceData
  deriving DecidableEq, Repr

/-- A window (R166). -/
structure Window where
  table : Table
  firstEntry : Nat
  lastEntry : Nat
  firstField : Nat
  lastField : Nat
  fieldMajor : Bool
  wrap : Bool
  deriving DecidableEq, Repr

/-- The direction of a stream. -/
inductive StreamDir where
  | read
  | write
  deriving DecidableEq, Repr

/-- An open stream: its direction and its position (R166). -/
structure Stream where
  dir : StreamDir
  pos : Nat
  deriving DecidableEq, Repr

/-- Last closure cause (R161, R169), in the order of the codes 0 to 3. -/
inductive Closure where
  | none
  | command
  | timeout
  | refused
  deriving DecidableEq, Repr

/-- One word accepted for writing: entry, field and the word as sent (R167). -/
structure WordWrite where
  entry : Nat
  field : Nat
  word : Word
  deriving DecidableEq, Repr

/-- The command of a taken record as it stands in the pending commit list (R116, R154): with the
provisional effects judged as the record was taken. -/
inductive PendCmd where
  /-- answered and not executed; forms an empty result -/
  | notExecuted
  | nop
  | getStatus
  | setCheck (on : Bool)
  | goOperational
  /-- GO_OPERATIONAL refused with VALUE: the three result words of R158 -/
  | goRefused (kind number reason : Nat)
  | leaveOperational
  | resetStation
  | setWindow (w : Window)
  /-- WRITE_START or WRITE_CONTINUE: the accepted words, the position after them, and whether a word
  met a field that is not writable -/
  | write (start : Bool) (words : List WordWrite) (endPos : Nat) (refused : Bool)
  /-- a write record answered BUSY -/
  | writeBusy (start : Bool)
  | read (start : Bool) (n : Nat)
  | stopStream
  | commitBank
  | copyActiveToStaged
  | tagFirst (c : Chan)
  | tagLast (c : Chan)
  | groupAction (action : GroupAction) (first last : Chan)
  | traceArm
  | traceStop
  | traceTrigger
  deriving DecidableEq, Repr

/-- A record this station took (R153): whether it answered it (an addressed record) or took it as a
broadcast, whether it was answered CHECK_FAIL, its command, and whether it clears the tags (R162). -/
structure TakenRecord where
  answered : Bool
  checkFail : Bool
  cmd : PendCmd
  clearTags : Bool
  deriving DecidableEq, Repr

/-- The Service Unit (R160). -/
structure ServiceUnit where
  checkMode : Bool := false
  tagFirst : Option Chan := none
  tagLast : Option Chan := none
  window : Option Window := none
  stream : Option Stream := none
  idle : Nat := 0
  closure : Closure := .none
  total : Nat := 0
  result : List Word := []
  deriving DecidableEq, Repr

/-! ## Ring Port (R116 to R124) -/

/-- The kind of a frame (R117). -/
inductive FrameKind where
  | cycle
  | service
  | foreign
  deriving DecidableEq, Repr

/-- What became of a frame at its end of reception: still arriving, good (committed), void (discarded),
or foreign (passed on as received). -/
inductive Verdict where
  | arriving
  | good
  | void
  | foreign
  deriving DecidableEq, Repr

/-- A frame-in-passage context (R116). `rx` holds the bytes received, so that its length is the position
of the byte being received; `tx` holds the bytes sent. `recordOut` is the service record as it leaves.
`latches`, and `taken` with it, are the pending commit list. -/
structure FrameCtx where
  kind : FrameKind
  phase : Phase
  rx : List Byte
  tx : List Byte := []
  crcIn : Word
  crcOut : Word := 0xFFFF
  header : Option Header := none
  badHeader : Bool := false
  recordOut : Option (List Byte) := none
  latches : List LatchWrite := []
  taken : Option TakenRecord := none
  verdict : Verdict := .arriving
  deriving DecidableEq, Repr

/-- The Ring Port: the wait for an idle line after reset (R124), the frame being received, the frames
received whose trailers have not been sent, in order of arrival (R116), and the bytes of the last frame
that has wholly left (the model's own, log 8). -/
structure RingPort where
  waiting : Bool := true
  receiving : Option FrameCtx := none
  leaving : List FrameCtx := []
  lastSent : List Byte := []
  deriving DecidableEq, Repr

/-! ## Trace Unit (chapter 10) -/

/-- TRACE_CFG (R171). -/
structure TraceCfg where
  sel0Ch : Chan := 0
  sel0Q : Nat := 13
  sel1Ch : Chan := 0
  sel1Q : Nat := 13
  sel2Ch : Chan := 0
  sel2Q : Nat := 13
  sel3Ch : Chan := 0
  sel3Q : Nat := 13
  decim : Nat := 1
  segmented : Bool := false
  preCount : Nat := 0
  source : Nat := 0
  threshold : Word := 0
  sourceArg : Byte := 0
  deriving DecidableEq, Repr

/-- The capture state (R172). -/
inductive CaptureState where
  | idle
  | pre
  | armed
  | post
  | done
  deriving DecidableEq, Repr

/-- One record of the trace memory: four words. -/
structure TraceRec where
  w0 : Word := 0
  w1 : Word := 0
  w2 : Word := 0
  w3 : Word := 0
  deriving DecidableEq, Repr

/-- The trace memory: (record number, record) pairs with rising numbers and no all-zero record; a number
that is not listed reads as the all-zero record. -/
abbrev TraceMem := List (Nat × TraceRec)

/-- The valid count V and oldest offset O of one segment (R172). -/
structure Segment where
  valid : Nat := 0
  oldest : Nat := 0
  deriving DecidableEq, Repr

/-- The Trace Unit: TRACE_CFG, the capture record (R172) and the trace memory. `armedCfg` is the
configuration copied at the arm. -/
structure TraceUnit where
  cfg : TraceCfg := {}
  capture : CaptureState := .idle
  armedCfg : TraceCfg := {}
  seg : Fin 4 := 0
  pointer : Nat := 0
  period : Nat := 0
  segs : Vector Segment 4 := Vector.replicate 4 {}
  mem : TraceMem := []
  deriving DecidableEq, Repr

/-! ## The work of one period-start instant (the model's own, log 3) -/

/-- One part of a sample event: a channel's sample, or the trace record. -/
inductive WalkItem where
  | sample (c : Chan)
  | record
  deriving DecidableEq, Repr

/-- What is still to be taken of the present period-start instant; `begun` says that an item of the sample
event has been taken. -/
structure InstantWork where
  vbus : Nat
  walk : List WalkItem
  begun : Bool
  rampEnds : List Chan
  validationDue : Bool
  switchDue : Bool
  timeoutDue : Bool
  angleDue : Option Chan
  deriving DecidableEq, Repr

/-! ## The whole state -/

/-- The state of the part, and the queue of commands that wait. -/
structure State where
  now : Nat := 0
  resetLow : Bool := true
  inhnLow : Bool := false
  address : Byte := 0
  phase : Phase := .config
  station : StationSettings := {}
  carrier : Carrier := {}
  gates : Vector Gate 8 := Vector.replicate 8 {}
  sense : Vector SenseIn 8 := Vector.replicate 8 ⟨0, 0, 0, false⟩
  bus : BusMonitor := {}
  channels : Vector Channel 8 := Vector.replicate 8 {}
  active : Bank := {}
  staged : Bank := {}
  commit : BankCommit := {}
  pairs : Vector Bool 4 := Vector.replicate 4 false
  timer : CycleTimer := {}
  counters : Counters := {}
  slotMap : Vector SlotEntry 48 := Vector.replicate 48 {}
  latches : Vector Latches 8 := Vector.replicate 8 {}
  prevControl : Vector Control 8 := Vector.replicate 8 0
  service : ServiceUnit := {}
  port : RingPort := {}
  trace : TraceUnit := {}
  freeUsed : Nat := 0
  moment : Option InstantWork := none
  pending : List Instr := []
  deriving DecidableEq, Repr

/-- The machine in pin reset, before RESETN is released (R23, R62, R76, R103, R106, R124, R126, R151,
R160, R172). Values the spec does not give are named in log 5, 6 and 7. -/
def State.reset : State := {}

/-- Why the block stops. No command of this block stops it: every row of the table has its effect, and
the spec's own faults are effects on a channel (R16). -/
inductive Fault where
  deriving DecidableEq, Repr

/-- Why a command has no meaning in the model. -/
inductive Refusal where
  /-- Raised by an arm of `exec` for a command without a meaning yet; no arm raises it. Safe: a claim
  about a next state says nothing then. -/
  | notModelled (mnemonic : String)
  deriving DecidableEq, Repr

end Sys2Proof.Machine
end

