-- ==== Sys2Proof/Machine/Numeric.lean ====
section
/-! DEFINITION. The numeric conventions of 00_scope.md, normative by R27: rounding shift, saturation,
clamping, floor square root, counters, and words read as numbers. -/

namespace Sys2Proof.Machine

open Sys2Proof

/-- "Clamped to a range": the lower bound below it, the upper bound above it. -/
def clamp (lo hi x : Int) : Int := if x < lo then lo else if hi < x then hi else x

/-- The same for counts. -/
def clampNat (lo hi x : Nat) : Nat := if x < lo then lo else if hi < x then hi else x

/-- "Saturated": clamped to -32767 to 32767. -/
def sat (x : Int) : Int := clamp (-32767) 32767 x

/-- The bound of an integrator accumulator (R45): 32,767 x 65,536. -/
def accBound : Int := 2147418112

/-- "Shifted down by n with rounding": halves go toward plus infinity. -/
def rshift (n : Nat) (x : Int) : Int :=
  match n with
  | 0 => x
  | m + 1 => (x + 2 ^ m) / 2 ^ (m + 1)

/-- The next bits of a floor square root, from the bit of weight 2^k downward, above the root `r` found
so far. -/
def sqrtBits : Nat → Nat → Nat → Nat
  | 0, r, _ => r
  | k + 1, r, n =>
    if (r + 2 ^ k) * (r + 2 ^ k) ≤ n then sqrtBits k (r + 2 ^ k) n else sqrtBits k r n

/-- The floor square root of a count below 2^32. -/
def floorSqrt (n : Nat) : Nat := sqrtBits 16 0 n

/-- A counter rises by 1 and stops at its bound. -/
def bumpTo (bound n : Nat) : Nat := if n < bound then n + 1 else n

/-- Every counter stops at 65535 instead of wrapping. -/
def bump (n : Nat) : Nat := bumpTo 65535 n

/-- A word read as a signed two's complement value, -32768 to 32767. -/
def signed (w : Word) : Int := w.toInt

/-- A word read as an unsigned value, 0 to 65535. -/
def unsigned (w : Word) : Nat := w.toNat

/-- A value as a word, signed values in two's complement. -/
def word (x : Int) : Word := BitVec.ofInt 16 x

/-- A yes/no value as a word. -/
def wordOfBool (b : Bool) : Word := if b then 1 else 0

/-- An angle: a sum or difference modulo 65536 (00, Numeric conventions). -/
def angleMod (x : Int) : Nat := (x % 65536).toNat

/-- A difference of angles read as a signed value from -32768 to 32767 (R33). -/
def angleDiff (a b : Nat) : Int :=
  let d := ((a : Int) - b) % 65536
  if d < 32768 then d else d - 65536

/-- Values of magnitude `step` or less become 0, others move toward 0 by `step` (R11). -/
def towardZero (step : Nat) (x : Int) : Int :=
  if x.natAbs ≤ step then 0 else if 0 < x then x - step else x + step

end Sys2Proof.Machine
end

