-- ==== Sys2Proof/Machine/Operands.lean ====
section
/-! DEFINITION. The operand forms: codes of states, causes, commands and tables, the bytes of headers and
service records (section 7.6), and the bits of a control word. -/

namespace Sys2Proof.Machine

open Sys2Proof

/-! ## Codes -/

/-- State codes 0 to 6 (R1). -/
def stateCode : ChState → Nat
  | .off => 0
  | .calibrate => 1
  | .ready => 2
  | .run => 3
  | .hold => 4
  | .rampdown => 5
  | .fault => 6

/-- Cause codes 1 to 9 (R78). -/
def causeCode : Cause → Nat
  | .overcurrent => 1
  | .overrange => 2
  | .offsetRange => 3
  | .angleLost => 4
  | .busUnder => 5
  | .busOver => 6
  | .inhibit => 7
  | .refLoss => 8
  | .partner => 9

/-- All nine causes in the order of their codes. -/
def allCauses : List Cause :=
  [.overcurrent, .overrange, .offsetRange, .angleLost, .busUnder, .busOver, .inhibit, .refLoss, .partner]

/-- Code 0 stands for no cause (R78). -/
def causeOptCode : Option Cause → Nat
  | none => 0
  | some c => causeCode c

/-- PAIR_ROLE codes (section 1.2). -/
def roleCode : PairRole → Nat
  | .none => 0
  | .leader => 1
  | .follower => 2

/-- PAIR_ROLE from a word, clamped into its range (R2: 7 becomes FOLLOWER). -/
def roleOfCode (n : Nat) : PairRole :=
  match n with
  | 0 => .none
  | 1 => .leader
  | _ => .follower

/-- Commit state codes 0 to 4 (R95). -/
def commitCode : CommitState → Nat
  | .idle => 0
  | .validating => 1
  | .switchPending => 2
  | .doneOk => 3
  | .doneRejected => 4

/-- Phase codes (R161, R165). -/
def phaseCode : Phase → Nat
  | .config => 0
  | .operational => 1

/-- Last closure cause codes (R161). -/
def closureCode : Closure → Nat
  | .none => 0
  | .command => 1
  | .timeout => 2
  | .refused => 3

/-- Stream codes of GET_STATUS word 5 (R161). -/
def streamCode : Option Stream → Nat
  | none => 0
  | some ⟨.read, _⟩ => 1
  | some ⟨.write, _⟩ => 2

/-- The command table (R133). -/
def commandOf (code : Byte) : Option Command :=
  match code.toNat with
  | 0x00 => some .nop
  | 0x01 => some .getStatus
  | 0x02 => some .setCheck
  | 0x03 => some .goOperational
  | 0x04 => some .leaveOperational
  | 0x05 => some .resetStation
  | 0x10 => some .setWindow
  | 0x11 => some .writeStart
  | 0x12 => some .writeContinue
  | 0x13 => some .readStart
  | 0x14 => some .readContinue
  | 0x15 => some .stopStream
  | 0x18 => some .commitBank
  | 0x19 => some .copyActiveToStaged
  | 0x20 => some .tagFirst
  | 0x21 => some .tagLast
  | 0x22 => some .groupAction
  | 0x30 => some .traceArm
  | 0x31 => some .traceStop
  | 0x32 => some .traceTrigger
  | _ => none

/-- The code of a command (R133). -/
def codeOf : Command → Byte
  | .nop => 0x00
  | .getStatus => 0x01
  | .setCheck => 0x02
  | .goOperational => 0x03
  | .leaveOperational => 0x04
  | .resetStation => 0x05
  | .setWindow => 0x10
  | .writeStart => 0x11
  | .writeContinue => 0x12
  | .readStart => 0x13
  | .readContinue => 0x14
  | .stopStream => 0x15
  | .commitBank => 0x18
  | .copyActiveToStaged => 0x19
  | .tagFirst => 0x20
  | .tagLast => 0x21
  | .groupAction => 0x22
  | .traceArm => 0x30
  | .traceStop => 0x31
  | .traceTrigger => 0x32

/-- The action of a GROUP_ACTION argument (R157). -/
def groupActionOf (n : Nat) : Option GroupAction :=
  match n with
  | 0 => some .calibrate
  | 1 => some .clearFault
  | 2 => some .ackNotice
  | 3 => some .rampdown
  | _ => none

/-- The table of a table code (R164). -/
def tableOf (n : Nat) : Option Table :=
  match n with
  | 0 => some .station
  | 1 => some .channel
  | 2 => some .slotMap
  | 3 => some .gainStaged
  | 4 => some .gainActive
  | 5 => some .schedStaged
  | 6 => some .schedActive
  | 7 => some .faults
  | 8 => some .counters
  | 9 => some .traceCfg
  | 10 => some .traceData
  | _ => none

/-- Entries of each table (R164). -/
def tableEntries : Table → Nat
  | .station => 1
  | .channel => 8
  | .slotMap => 48
  | .gainStaged => 16
  | .gainActive => 16
  | .schedStaged => 8
  | .schedActive => 8
  | .faults => 8
  | .counters => 1
  | .traceCfg => 1
  | .traceData => 4096

/-- Fields of each table's entries (R164). -/
def tableFields : Table → Nat
  | .station => 20
  | .channel => 22
  | .slotMap => 7
  | .gainStaged => 7
  | .gainActive => 7
  | .schedStaged => 9
  | .schedActive => 9
  | .faults => 12
  | .counters => 10
  | .traceCfg => 14
  | .traceData => 4

/-- A channel number from a count known to lie within 0 to 7. -/
def chanOf (n : Nat) : Chan := ⟨n % 8, Nat.mod_lt n (by decide)⟩

/-- The eight channels in ascending order. -/
def allChans : List Chan := [0, 1, 2, 3, 4, 5, 6, 7]

/-! ## Bytes of a frame (R131, R132); multi-byte fields most significant byte first -/

/-- The two bytes of a word. -/
def wordBytes (w : Word) : List Byte := [w.extractLsb' 8 8, w.extractLsb' 0 8]

/-- The word of two bytes. -/
def bytesWord (hi lo : Byte) : Word := hi ++ lo

/-- The kind of a frame by its first byte (R117). -/
def frameKindOf (kind : Byte) : FrameKind :=
  if kind = 0xC1 then .cycle else if kind = 0xC2 then .service else .foreign

/-- Bytes 1 to 5 of a frame (R131). -/
def headerBytes (h : Header) : List Byte :=
  h.summary :: wordBytes h.cycleCount ++ [h.slotCount, h.servicePresent]

/-- The 26 bytes of a service record with its COMMAND byte (R132). -/
def recordBytes (code : Byte) (b : RecordBody) : List Byte :=
  [b.station, code, b.replier, b.flags, b.wordCount,
    b.argument.extractLsb' 24 8, b.argument.extractLsb' 16 8, b.argument.extractLsb' 8 8,
    b.argument.extractLsb' 0 8] ++ (b.data.toList.flatMap wordBytes) ++ [b.check]

/-- The COMMAND byte of 26 record bytes (R132). -/
def recordCode (bs : List Byte) : Byte := bs.getD 1 0

/-- The fields of 26 record bytes (R132). -/
def recordBody (bs : List Byte) : RecordBody where
  station := bs.getD 0 0
  replier := bs.getD 2 0
  flags := bs.getD 3 0
  wordCount := bs.getD 4 0
  argument := bs.getD 5 0 ++ bs.getD 6 0 ++ bs.getD 7 0 ++ bs.getD 8 0
  data := Vector.ofFn fun i => bytesWord (bs.getD (9 + 2 * i.val) 0) (bs.getD (10 + 2 * i.val) 0)
  check := bs.getD 25 0

/-- The sum of bytes modulo 256. -/
def byteSum (bs : List Byte) : Byte := bs.foldl (· + ·) 0

/-- A record is sound by its check byte when all 26 bytes sum to 0 modulo 256 (R132). -/
def recordSound (code : Byte) (b : RecordBody) : Bool := byteSum (recordBytes code b) == 0

/-- A record with its check byte formed anew: two's complement of the sum of bytes 0 to 24 (R132). -/
def withCheck (code : Byte) (b : RecordBody) : RecordBody :=
  { b with check := -(byteSum ((recordBytes code b).take 25)) }

/-- The argument of a record as one unsigned number (R157). -/
def argumentOf (b : RecordBody) : Nat := b.argument.toNat

/-- The request data words that carry meaning: the first WORD_COUNT of them (R132). -/
def dataWords (b : RecordBody) : List Word := b.data.toList.take b.wordCount.toNat

/-! ## The control word (R134) -/

def enableBit (w : Control) : Bool := w.getLsbD 0
def quickstopBit (w : Control) : Bool := w.getLsbD 1
def faultAckBit (w : Control) : Bool := w.getLsbD 2
def noticeAckBit (w : Control) : Bool := w.getLsbD 3
def calibrateBit (w : Control) : Bool := w.getLsbD 4
def traceTrigBit (w : Control) : Bool := w.getLsbD 5

/-- A rising edge: previous 0, new 1 (R146). -/
def rising (prev new : Bool) : Bool := !prev && new

/-- A falling edge: previous 1, new 0 (R146). -/
def falling (prev new : Bool) : Bool := prev && !new

end Sys2Proof.Machine
end

