-- ==== Sys2Proof/Machine/Flags.lean ====
section
/-! DEFINITION. Flag computations: the response flags of a record (R132), sets of fault causes (R83), the
status word of a channel (R22, R86, R134) and the CRC of a frame (R121). -/

namespace Sys2Proof.Machine

open Sys2Proof

/-! ## The FLAGS byte (R132) -/

def flagStartup : Byte := 0x01
def flagSeqCleared : Byte := 0x02
def flagUnknown : Byte := 0x04
def flagCheckFail : Byte := 0x08
def flagSeqFault : Byte := 0x10
def flagRange : Byte := 0x20
def flagValue : Byte := 0x40
def flagBusy : Byte := 0x80

/-- A flag that is set on a condition. -/
def flagIf (cond : Bool) (flag : Byte) : Byte := if cond then flag else 0

/-! ## Sets of causes: bit (code - 1) is 1 when the cause is in the set (R83, field 6) -/

/-- The set that holds one cause. -/
def causeBit (c : Cause) : Word := BitVec.twoPow 16 (causeCode c - 1)

/-- A cause is in a set. -/
def causeIn (c : Cause) (s : Word) : Bool := s.getLsbD (causeCode c - 1)

/-- A cause on a condition, as a set. -/
def causeIf (cond : Bool) (c : Cause) : Word := if cond then causeBit c else 0

/-! ## The channel state -/

/-- The channel drives: RUN, HOLD or RAMPDOWN (R3). -/
def drives (s : ChState) : Bool :=
  match s with
  | .run | .hold | .rampdown => true
  | .off | .calibrate | .ready | .fault => false

/-- RUN or HOLD. -/
def runOrHold (s : ChState) : Bool :=
  match s with
  | .run | .hold => true
  | .off | .calibrate | .ready | .rampdown | .fault => false

/-- OFF, READY or FAULT: the states in which the guarded record fields are writable (R2) and in which
LEAVE_OPERATIONAL may be taken (R159). -/
def atRest (s : ChState) : Bool :=
  match s with
  | .off | .ready | .fault => true
  | .calibrate | .run | .hold | .rampdown => false

/-! ## The status word (R134) -/

/-- The hold field (R22): in HOLD, and in RAMPDOWN with REF_LOSS pending. -/
def holdField (ch : Channel) : Bool :=
  match ch.state with
  | .hold => true
  | .rampdown => ch.pendRefLoss
  | .off | .calibrate | .ready | .run | .fault => false

/-- The value of a yes/no field at a bit position. -/
def bitAt (b : Bool) (n : Nat) : Nat := if b then 2 ^ n else 0

/-- The status word of a computation at its completion (R22, R48, R86, R134). Channel fields are those at
the completion, the other fields those of the computation. -/
def statusWord (ch : Channel) (comp : Computation) (partnerNotReady : Bool) : Word :=
  BitVec.ofNat 16
    (stateCode ch.state + bitAt ch.calibrated 3 + bitAt ch.noticePending 4
      + bitAt comp.currentLimited 5 + bitAt comp.voltageLimited 6 + bitAt comp.foldback 7
      + bitAt ch.enableRefused 8 + bitAt ch.clearRefused 9 + comp.band * 1024
      + bitAt (ch.invalidCount != 0) 12 + bitAt comp.busNotNormal 13 + bitAt partnerNotReady 14
      + bitAt (holdField ch) 15)

/-! ## CRC-16 (R121): generator x^16 + x^12 + x^5 + 1, most significant bit first -/

/-- One shift of the CRC register. -/
def crcShift (r : Word) : Word := if r.msb then (r <<< 1) ^^^ 0x1021 else r <<< 1

/-- `n` shifts. -/
def crcShifts : Nat → Word → Word
  | 0, r => r
  | n + 1, r => crcShifts n (crcShift r)

/-- One byte into the register. -/
def crcByte (r : Word) (b : Byte) : Word := crcShifts 8 (r ^^^ (b.zeroExtend 16 <<< 8))

/-- Bytes into the register, in order. -/
def crcBytes (r : Word) (bs : List Byte) : Word := bs.foldl crcByte r

/-- The CRC of a run of bytes: the register starts at FFFF hex. -/
def crc16 (bs : List Byte) : Word := crcBytes 0xFFFF bs

end Sys2Proof.Machine
end

