-- ==== Sys2Proof/Machine/Ops.lean ====
section
/-! DEFINITION. The named operations over the state: reading and writing a channel, its gate, its latches
and its control word; pairs; and the trace memory. Every other definition reaches these parts of the state
through them. -/

namespace Sys2Proof.Machine

open Sys2Proof

/-! ## Channels, gates, latches -/

/-- Channel `c`. -/
def State.chan (s : State) (c : Chan) : Channel := s.channels[c]

/-- `s` with channel `c` replaced. -/
def State.setChan (s : State) (c : Chan) (ch : Channel) : State :=
  { s with channels := s.channels.set c ch }

/-- `s` with channel `c` changed by `f`. -/
def State.modChan (s : State) (c : Chan) (f : Channel → Channel) : State := s.setChan c (f (s.chan c))

/-- `s` with every channel changed by a function of its number and its content. -/
def State.mapChans (s : State) (f : Chan → Channel → Channel) : State :=
  { s with channels := Vector.ofFn fun c => f c (s.chan c) }

/-- The gates of channel `c`. -/
def State.gate (s : State) (c : Chan) : Gate := s.gates[c]

/-- `s` with the gates of channel `c` replaced. -/
def State.setGate (s : State) (c : Chan) (g : Gate) : State := { s with gates := s.gates.set c g }

/-- `s` with the gates of channel `c` changed by `f`. -/
def State.modGate (s : State) (c : Chan) (f : Gate → Gate) : State := s.setGate c (f (s.gate c))

/-- `s` with every channel's gates changed by `f`. -/
def State.mapGates (s : State) (f : Gate → Gate) : State :=
  { s with gates := Vector.ofFn fun c => f (s.gate c) }

/-- The reference latches of channel `c` (R137). -/
def State.latch (s : State) (c : Chan) : Latches := s.latches[c]

/-- `s` with the reference latches of channel `c` replaced. -/
def State.setLatch (s : State) (c : Chan) (l : Latches) : State :=
  { s with latches := s.latches.set c l }

/-- The previous control word of channel `c` (R145). -/
def State.prevCtrl (s : State) (c : Chan) : Control := s.prevControl[c]

/-- `s` at another tick. -/
def State.withNow (s : State) (t : Nat) : State := { s with now := t }

/-- `s` with another Service Unit. -/
def State.withService (s : State) (u : ServiceUnit) : State := { s with service := u }

/-- `s` with another Ring Port. -/
def State.withPort (s : State) (p : RingPort) : State := { s with port := p }

/-- `s` with another Trace Unit. -/
def State.withTrace (s : State) (t : TraceUnit) : State := { s with trace := t }

/-- `s` with other link counters. -/
def State.withCounters (s : State) (k : Counters) : State := { s with counters := k }

/-- `s` with another Cycle Timer. -/
def State.withTimer (s : State) (t : CycleTimer) : State := { s with timer := t }

/-- `s` with another bank commit. -/
def State.withCommit (s : State) (b : BankCommit) : State := { s with commit := b }

/-- `s` with other work left in the present period-start instant (log 3). -/
def State.withMoment (s : State) (m : Option InstantWork) : State := { s with moment := m }

/-- The carrier counter (R50): 0 while RESETN is asserted, up from 0 to H and down again in the period. -/
def carrierCounter (s : State) : Nat :=
  let tau := s.now - s.carrier.periodAt
  if s.resetLow then 0 else if tau ≤ s.carrier.h then tau else 2 * s.carrier.h - tau

/-! ## Pairs (R105, R106) -/

/-- The pair position of a channel: pair p joins channels 2p and 2p + 1. -/
def pairOf (c : Chan) : Fin 4 := ⟨c.val / 2, by omega⟩

/-- The even channel of a pair position. -/
def evenOf (p : Fin 4) : Chan := ⟨2 * p.val, by omega⟩

/-- The odd channel of a pair position. -/
def oddOf (p : Fin 4) : Chan := ⟨2 * p.val + 1, by omega⟩

/-- The other channel of the pair position. -/
def partnerOf (c : Chan) : Chan := if c.val % 2 = 0 then oddOf (pairOf c) else evenOf (pairOf c)

/-- The configured flag of the channel's pair is set (R106). -/
def paired (s : State) (c : Chan) : Bool := s.pairs[pairOf c]

/-- A paired leader: the even channel of a configured pair. -/
def pairedLeader (s : State) (c : Chan) : Bool := paired s c && c.val % 2 == 0

/-- A paired follower: the odd channel of a configured pair. -/
def pairedFollower (s : State) (c : Chan) : Bool := paired s c && c.val % 2 == 1

/-- Pair partner not ready (R22): a paired leader in READY whose follower is not in READY or has an
invalid-angle count other than 0. -/
def partnerNotReady (s : State) (c : Chan) : Bool :=
  pairedLeader s c && (s.chan c).state == .ready
    && !((s.chan (partnerOf c)).state == .ready && (s.chan (partnerOf c)).invalidCount == 0)

/-- The four pair positions. -/
def allPairs : List (Fin 4) := [0, 1, 2, 3]

/-- Some channel is in a state that `p` names. -/
def anyChan (s : State) (p : ChState → Bool) : Bool := allChans.any fun c => p (s.chan c).state

/-! ## The trace memory -/

/-- What a record number reads as: its record, or the all-zero record where none is listed. -/
def traceRead : TraceMem → Nat → TraceRec
  | [], _ => {}
  | (k, v) :: m, n => if k = n then v else traceRead m n

/-- The memory without an entry for a record number. -/
def traceErase (n : Nat) : TraceMem → TraceMem
  | [] => []
  | (k, v) :: m => if k = n then m else (k, v) :: traceErase n m

/-- The memory with a record at a number, in rising order. -/
def traceInsert (n : Nat) (r : TraceRec) : TraceMem → TraceMem
  | [] => [(n, r)]
  | (k, v) :: m =>
    if n < k then (n, r) :: (k, v) :: m
    else if n = k then (n, r) :: m
    else (k, v) :: traceInsert n r m

/-- Writing a record; an all-zero record is not listed. -/
def traceWrite (n : Nat) (r : TraceRec) (m : TraceMem) : TraceMem :=
  if r = {} then traceErase n m else traceInsert n r m

/-- The canonical form: record numbers strictly rising from `lo` on, no all-zero record listed. -/
def traceWfFrom : Nat → TraceMem → Bool
  | _, [] => true
  | lo, (k, v) :: m => decide (lo ≤ k) && !decide (v = {}) && traceWfFrom (k + 1) m

/-- The canonical form of the trace memory. -/
def TraceMem.wf (m : TraceMem) : Bool := traceWfFrom 0 m

end Sys2Proof.Machine
end

