-- ==== Sys2Proof/Machine/Banks.lean ====
section
/-! DEFINITION. The bank commit (R95 to R103): validation of the staged schedules, the switch, the copy. -/

namespace Sys2Proof.Machine

open Sys2Proof

/-- A commit is busy while its state is VALIDATING or SWITCH_PENDING (R95). -/
def commitBusy (s : State) : Bool :=
  match s.commit.state with
  | .validating | .switchPending => true
  | .idle | .doneOk | .doneRejected => false

/-- THRESHOLD_ORDER (R97): the thresholds of the used bands ascend strictly. -/
def thresholdOrder (sch : Schedule) : Bool :=
  (decide (sch.used < 3) || decide (sch.t1 < sch.t2)) && (decide (sch.used < 4) || decide (sch.t2 < sch.t3))

/-- HYSTERESIS (R97): for USED above 1, HY is below T1. -/
def hysteresisOk (sch : Schedule) : Bool := decide (sch.used ≤ 1) || decide (sch.hy < sch.t1)

/-- The reason of the first check a schedule fails (R95, R97). -/
def scheduleReason (sch : Schedule) : Option Nat :=
  if !thresholdOrder sch then some 1 else if !hysteresisOk sch then some 2 else none

/-- Validation of a bank (R97): the lowest-numbered channel whose schedule fails, and its reason. -/
def validateBank (b : Bank) : Option (Nat × Nat) :=
  allChans.findSome? fun c => (scheduleReason b.scheds[c]).map fun r => (c.val, r)

/-- Completion of the validation (R98). -/
def completeValidation (s : State) : State :=
  match validateBank s.staged with
  | none => s.withCommit ⟨.switchPending, 0, 0, 0⟩
  | some (c, r) => s.withCommit ⟨.doneRejected, c, r, 0⟩

/-- A band index above USED - 1 is set to USED - 1 (R99 step 2). -/
def clampBand (sch : Schedule) (ch : Channel) : Channel := { ch with band := min ch.band (sch.used - 1) }

/-- The switch (R99): ACTIVE takes the STAGED content, band indices are clamped, the commit is DONE_OK. -/
def switchBanks (s : State) : State :=
  ({ s with active := s.staged }.mapChans fun c ch => clampBand s.staged.scheds[c] ch).withCommit
    ⟨.doneOk, 0, 0, 0⟩

/-- The start of a commit (R96). -/
def startCommit (s : State) : State := s.withCommit ⟨.validating, 0, 0, 0⟩

/-- The copy (R102). -/
def copyBanks (s : State) : State := { s with staged := s.active }

/-- A period start counts for a commit in VALIDATING (R98). -/
def countPeriod (b : BankCommit) : BankCommit :=
  if b.state = .validating then { b with periods := b.periods + 1 } else b

end Sys2Proof.Machine
end

