-- ==== Sys2Proof/Machine/CurrentLoop.lean ====
section
/-! DEFINITION. The computation of one channel at one sample event: steps 1 to 17 of R27, with the sine
table of R36, the limit chain of R64 and R65, the band selection of R91, the modulation of R52 to R54 and
the thermal model of R67 and R68. `beforeReferences` and `regulate` join them. -/

namespace Sys2Proof.Machine

open Sys2Proof

/-! ## Step 1: acquisition (R28) -/

/-- A phase current: the raw code less its offset, saturated. -/
def phaseCurrent (raw : Word) (off : Int) : Int := sat (signed raw - off)

/-- The derived third phase. -/
def thirdCurrent (ia ib : Int) : Int := sat (-ia - ib)

/-- An overrange code: -32768 or 32767 (R28). -/
def overrangeCode (raw : Word) : Bool := signed raw == -32768 || signed raw == 32767

/-- The overrange finding of a sample. -/
def overrangeFinding (x : SenseIn) : Bool := overrangeCode x.aRaw || overrangeCode x.bRaw

/-- The overcurrent finding: a phase current of magnitude above TRIP. -/
def overcurrentFinding (trip : Nat) (ia ib : Int) : Bool :=
  decide (trip < ia.natAbs) || decide (trip < ib.natAbs) || decide (trip < (thirdCurrent ia ib).natAbs)

/-! ## Step 2: calibration (R30, R31) -/

/-- One calibration sample: both sums take the raw codes and the count rises (R30). -/
def accumulate (x : SenseIn) (ch : Channel) : Channel :=
  if ch.state = .calibrate then
    { ch with sumA := ch.sumA + signed x.aRaw, sumB := ch.sumB + signed x.bRaw,
              calCount := ch.calCount + 1 }
  else ch

/-- An offset formed from a sum of 64 codes (R31). -/
def offsetOf (sum : Int) : Int := rshift 6 sum

/-- The range check of an offset (R31). -/
def offsetAccepted (off : Int) : Bool := decide (off.natAbs ≤ 2048)

/-! ## Step 3: angle and speed (R32 to R34) -/

/-- The electrical angle of a valid angle word (R32). -/
def electricalAngle (pp angOffs : Nat) (angle : Word) : Nat := (unsigned angle * pp + angOffs) % 65536

/-- The electrical angle of an invalid sample, extrapolated by the filtered speed (R34). -/
def extrapolatedAngle (prev : Nat) (speed : Int) : Nat := angleMod ((prev : Int) + speed)

/-- The raw speed of a valid sample (R33). -/
def rawSpeed (theta prev : Nat) : Int := sat (angleDiff theta prev)

/-- The filtered speed (R33). -/
def filteredSpeed (filt : Nat) (raw speed : Int) : Int := speed + rshift filt (raw - speed)

/-- Step 3: previous angle, filtered speed and invalid-angle count take their new values. -/
def angleStep (x : SenseIn) (ch : Channel) : Channel :=
  if x.valid then
    let theta := electricalAngle ch.record.pp ch.record.angOffs x.angle
    { ch with speed := filteredSpeed ch.record.spdFilt (rawSpeed theta ch.prevAngle) ch.speed,
              prevAngle := theta, invalidCount := 0 }
  else
    { ch with prevAngle := extrapolatedAngle ch.prevAngle ch.speed, invalidCount := bump ch.invalidCount }

/-! ## Steps 4 to 6: transforms (R35 to R37) -/

/-- i-beta (R35). -/
def clarkeBeta (ia ib : Int) : Int := sat (rshift 15 ((ia + 2 * ib) * 18919))

/-- id (R37). -/
def parkD (al be s c : Int) : Int := sat (rshift 15 (al * c + be * s))

/-- iq (R37). -/
def parkQ (al be s c : Int) : Int := sat (rshift 15 (be * c - al * s))

/-! ## Step 7: references and the limit chain (R11, R64, R65) -/

/-- The ramp step of a sample in RAMPDOWN (R11). -/
def rampStep (ch : Channel) : Channel :=
  if ch.state = .rampdown then
    let d := towardZero ch.record.ramp ch.rampD
    let q := towardZero ch.record.ramp ch.rampQ
    { ch with rampD := d, rampQ := q, rampComplete := ch.rampComplete || (d == 0 && q == 0) }
  else ch

/-- The current limit L (R64). -/
def currentLimit (peak cont ilimScale : Nat) (foldback : Bool) : Int :=
  let peakLimit := rshift 15 ((peak : Int) * (clampNat 0 32768 ilimScale : Nat))
  if foldback then min peakLimit (cont : Int) else peakLimit

/-- What is left for the q axis under a limit when the d axis has its part (R44, R65). -/
def qRoom (limit d : Int) : Int := floorSqrt (limit * limit - d * d).toNat

/-- The d axis clamped to a limit (R44, R65). -/
def limitD (limit d : Int) : Int := clamp (-limit) limit d

/-- The q axis clamped to the room the d axis leaves (R44, R65). -/
def limitQ (limit d q : Int) : Int :=
  clamp (-(qRoom limit (limitD limit d))) (qRoom limit (limitD limit d)) q

/-! ## Step 8: the band (R91, R92) -/

/-- The lower threshold of a band (R88). -/
def threshold (sch : Schedule) (b : Nat) : Nat :=
  match b with
  | 0 => 0
  | 1 => sch.t1
  | 2 => sch.t2
  | _ => sch.t3

/-- The rising part of R91, at most `n` steps. -/
def riseBand (sch : Schedule) (w : Nat) : Nat → Nat → Nat
  | 0, b => b
  | n + 1, b => if b < sch.used - 1 ∧ threshold sch (b + 1) ≤ w then riseBand sch w n (b + 1) else b

/-- The falling part of R91, at most `n` steps; T(b) - HY below 0 is taken as 0. -/
def fallBand (sch : Schedule) (w : Nat) : Nat → Nat → Nat
  | 0, b => b
  | n + 1, b => if 0 < b ∧ w < threshold sch b - sch.hy then fallBand sch w n (b - 1) else b

/-- The band after step 8 (R91). -/
def selectBand (sch : Schedule) (speed : Int) (b : Nat) : Nat :=
  fallBand sch speed.natAbs 3 (riseBand sch speed.natAbs 3 b)

/-- The band at an entry to RUN (R92). -/
def entryBand (sch : Schedule) (speed : Int) : Nat := riseBand sch speed.natAbs 3 0

/-- The gain set a band names (R91). -/
def bandGain (sch : Schedule) (b : Nat) : Fin 16 :=
  match b with
  | 0 => sch.g0
  | 1 => sch.g1
  | 2 => sch.g2
  | _ => sch.g3

/-! ## Step 9: the regulators (R40 to R43) -/

/-- The error of an axis (R40). -/
def axisError (ref meas : Int) : Int := sat (ref - meas)

/-- The proportional term (R40). -/
def proportional (kp : Nat) (e : Int) : Int := sat (rshift 12 (kp * e))

/-- The integral output (R41). -/
def integralOut (acc : Int) : Int := sat (rshift 16 acc)

/-- The d feed-forward (R42). -/
def feedForwardD (speed iq : Int) (decL : Nat) : Int := sat (rshift 24 (-(speed * iq * decL)))

/-- The q feed-forward (R42). -/
def feedForwardQ (speed id : Int) (decL ke : Nat) : Int :=
  sat (rshift 24 (speed * id * decL) + rshift 12 (speed * ke))

/-- The unlimited output of an axis (R43). -/
def unlimited (p iout ff : Int) : Int := sat (p + iout + ff)

/-! ## Steps 10 and 11: voltage limit and integrators (R44, R45) -/

/-- Vmax (R44). -/
def voltageMax (vlim : Nat) : Int := rshift 15 ((vlim : Int) * 32767)

/-- Two values are nonzero and of the same sign. -/
def sameSign (x y : Int) : Bool := decide (0 < x ∧ 0 < y) || decide (x < 0 ∧ y < 0)

/-- The integrator update of an axis (R45). -/
def integrate (limited : Bool) (ki : Nat) (e v acc : Int) : Int :=
  if limited && sameSign e v then acc else clamp (-accBound) accBound (acc + ki * e)

/-! ## Steps 12 and 13: inverse Park and bus compensation (R46, R47) -/

/-- v-alpha (R46). -/
def inverseAlpha (vd vq s c : Int) : Int := sat (rshift 15 (vd * c - vq * s))

/-- v-beta (R46). -/
def inverseBeta (vd vq s c : Int) : Int := sat (rshift 15 (vd * s + vq * c))

/-- The bus factor k (R47). -/
def busFactor (vnom vbus : Nat) : Nat :=
  if vbus = 0 then 65535 else clampNat 16384 65535 (vnom * 32768 / vbus)

/-- A compensated voltage (R47). -/
def compensated (v : Int) (k : Nat) : Int := sat (rshift 15 (v * k))

/-! ## Steps 14 to 16: modulation (R52 to R54) -/

/-- The three phase voltages of a symmetrical star (R52). -/
def phaseVoltage (val vbe : Int) (l : Leg) : Int :=
  let h := rshift 1 val
  let t := rshift 15 (vbe * 28378)
  match l with
  | .a => val
  | .b => t - h
  | .c => -t - h

/-- The largest of the three phase voltages. -/
def maxPhase (val vbe : Int) : Int :=
  max (phaseVoltage val vbe .a) (max (phaseVoltage val vbe .b) (phaseVoltage val vbe .c))

/-- The smallest of the three phase voltages. -/
def minPhase (val vbe : Int) : Int :=
  min (phaseVoltage val vbe .a) (min (phaseVoltage val vbe .b) (phaseVoltage val vbe .c))

/-- The common offset v0 (R52). -/
def commonOffset (val vbe : Int) : Int := -rshift 1 (maxPhase val vbe + minPhase val vbe)

/-- A duty before its clamp (R53). -/
def rawDuty (val vbe : Int) (l : Leg) : Int :=
  16384 + rshift 15 ((phaseVoltage val vbe l + commonOffset val vbe) * 18919)

/-- A duty (R53). -/
def duty (val vbe : Int) (l : Leg) : Int := clamp 0 32768 (rawDuty val vbe l)

/-- The clamp changed a duty (R53). -/
def dutyClamped (val vbe : Int) : Bool :=
  decide (duty val vbe .a ≠ rawDuty val vbe .a) || decide (duty val vbe .b ≠ rawDuty val vbe .b)
    || decide (duty val vbe .c ≠ rawDuty val vbe .c)

/-- The minimum-pulse step (R54). -/
def minPulse (h minp c : Nat) : Nat := if c < minp then 0 else if h - minp < c then h else c

/-- A compare value (R54). -/
def compareValue (h minp : Nat) (d : Int) : Nat := minPulse h minp (rshift 15 (d * h)).toNat

/-! ## Step 17: the thermal model (R67, R68) -/

/-- The i2t level after step 17 (R67). -/
def i2tStep (al be : Int) (cont lim t : Nat) : Nat :=
  (clamp 0 ((lim : Int) * 65536)
    ((t : Int) + rshift 15 (al * al + be * be) - rshift 15 ((cont : Int) * cont))).toNat

/-- The foldback state after step 17 (R68). -/
def foldbackStep (before : Bool) (lim t : Nat) : Bool :=
  if lim = 0 then false
  else if before then !decide (t ≤ lim * 57344)
  else decide (t = lim * 65536)

/-! ## The whole step -/

/-- What a computation reads besides the channel and its codes (R26): references, ILIM_SCALE latch,
schedule and gain sets of the ACTIVE bank, VNOM, VBUS, H and MINP in force, and whether the Bus Monitor is
in UNDER or OVER. -/
structure LoopEnv where
  refD : Int
  refQ : Int
  ilimScale : Nat
  sched : Schedule
  gains : Vector GainSet 16
  vnom : Nat
  vbus : Nat
  h : Nat
  minp : Nat
  busNotNormal : Bool
  deriving DecidableEq, Repr

/-- Steps 2, 3 and the ramp step of 7: what the channel does before its references are used. -/
def beforeReferences (x : SenseIn) (ch : Channel) : Channel := rampStep (angleStep x (accumulate x ch))

/-- Steps 1 and 4 to 17 of a computation, on a channel that has taken `beforeReferences`. The channel
takes its new context values and the computation waits for its completion (R25). In OFF, CALIBRATE, READY
and FAULT integrators and last effective references are not touched (R3, R45). -/
def regulate (e : LoopEnv) (x : SenseIn) (ch : Channel) : Channel :=
  let ia := phaseCurrent x.aRaw ch.offA
  let ib := phaseCurrent x.bRaw ch.offB
  let theta := ch.prevAngle
  let al := ia
  let be := clarkeBeta ia ib
  let sn := sinOf theta
  let cs := cosOf theta
  let id := parkD al be sn cs
  let iq := parkQ al be sn cs
  let lim := currentLimit ch.record.peak ch.record.cont e.ilimScale ch.foldback
  let idEff := limitD lim e.refD
  let iqEff := limitQ lim e.refD e.refQ
  let band := selectBand e.sched ch.speed ch.band
  let g := e.gains[bandGain e.sched band]
  let eD := axisError idEff id
  let eQ := axisError iqEff iq
  let vdU := unlimited (proportional g.kpD eD) (integralOut ch.accD) (feedForwardD ch.speed iq g.decL)
  let vqU := unlimited (proportional g.kpQ eQ) (integralOut ch.accQ) (feedForwardQ ch.speed id g.decL g.ke)
  let vmax := voltageMax g.vlim
  let vd := limitD vmax vdU
  let vq := limitQ vmax vdU vqU
  let k := busFactor e.vnom e.vbus
  let val := compensated (inverseAlpha vd vq sn cs) k
  let vbe := compensated (inverseBeta vd vq sn cs) k
  let driving := drives ch.state
  let i2t := i2tStep al be ch.record.cont ch.record.i2tLim ch.i2t
  let fold := foldbackStep ch.foldback ch.record.i2tLim i2t
  { ch with
    accD := if driving then integrate (vd != vdU) g.kiD eD vdU ch.accD else ch.accD
    accQ := if driving then integrate (vq != vqU) g.kiQ eQ vqU ch.accQ else ch.accQ
    lastRefD := if driving then idEff else ch.lastRefD
    lastRefQ := if driving then iqEff else ch.lastRefQ
    band := band
    i2t := i2t
    foldback := fold
    comp := some
      { results :=
          { ia := ia, ib := ib, id := id, iq := iq, idRef := idEff, iqRef := iqEff, vd := vd, vq := vq,
            speed := ch.speed, angle := theta, vbus := e.vbus, i2t := i2t, state := ch.state, status := 0 }
        triple :=
          { a := compareValue e.h e.minp (duty val vbe .a)
            b := compareValue e.h e.minp (duty val vbe .b)
            c := compareValue e.h e.minp (duty val vbe .c) }
        currentLimited := idEff != e.refD || iqEff != e.refQ
        voltageLimited := vd != vdU || vq != vqU || dutyClamped val vbe
        foldback := fold
        band := band
        busNotNormal := e.busNotNormal
        handOn := driving && !ch.rampComplete } }

end Sys2Proof.Machine
end

