-- ==== Sys2Proof/Machine/Gates.lean ====
section
/-! DEFINITION. The switching of the legs (R55 to R62): commanded levels, dead time, switch-off. -/

namespace Sys2Proof.Machine

open Sys2Proof

/-- The compare value of a leg. -/
def tripleLeg (t : Triple) (l : Leg) : Nat :=
  match l with
  | .a => t.a
  | .b => t.b
  | .c => t.c

/-- A leg of a channel's gates. -/
def gateLeg (g : Gate) (l : Leg) : LegState :=
  match l with
  | .a => g.legA
  | .b => g.legB
  | .c => g.legC

/-- Gates with one leg replaced. -/
def setGateLeg (g : Gate) (l : Leg) (x : LegState) : Gate :=
  match l with
  | .a => { g with legA := x }
  | .b => { g with legB := x }
  | .c => { g with legC := x }

/-- The commanded level of a compare value `c` at position `tau` of a period of half-period `h` (R56):
high for h - c ≤ tau < h + c. -/
def levelAt (h c tau : Nat) : Level := if h ≤ tau + c ∧ tau < h + c then .high else .low

/-- A leg loses its commanded level: each switch that is on turns off at tick `t` (R56, R58). -/
def legOff (t : Nat) (x : LegState) : LegState where
  level := none
  highOn := false
  lowOn := false
  highOffAt := if x.highOn then t else x.highOffAt
  lowOffAt := if x.lowOn then t else x.lowOffAt

/-- A leg's commanded level changes to high at tick `t` (R57): the low switch turns off, and the high
switch turns on at once when the low switch has been off for the dead time. -/
def legToHigh (deadTime t : Nat) (x : LegState) : LegState :=
  let lowOffAt := if x.lowOn then t else x.lowOffAt
  { x with level := some .high, lowOn := false, lowOffAt := lowOffAt,
           highOn := decide (lowOffAt + deadTime ≤ t) }

/-- The same on a change to low, against the last turn-off of the high switch (R57). -/
def legToLow (deadTime t : Nat) (x : LegState) : LegState :=
  let highOffAt := if x.highOn then t else x.highOffAt
  { x with level := some .low, highOn := false, highOffAt := highOffAt,
           lowOn := decide (highOffAt + deadTime ≤ t) }

/-- A leg is commanded to a level at tick `t`; a level it already has changes nothing. -/
def legCommand (deadTime t : Nat) (lv : Level) (x : LegState) : LegState :=
  if x.level = some lv then x
  else match lv with
    | .high => legToHigh deadTime t x
    | .low => legToLow deadTime t x

/-- Every leg of a channel takes the level of the active triple at position `tau` (R56): only with the
output enable on, INHN released and an active triple present. -/
def gateLevels (inhnLow : Bool) (k : Carrier) (t tau : Nat) (g : Gate) : Gate :=
  if g.enable && !inhnLow then
    match g.activeTriple with
    | some tr =>
      { g with legA := legCommand k.deadTime t (levelAt k.h tr.a tau) g.legA,
               legB := legCommand k.deadTime t (levelAt k.h tr.b tau) g.legB,
               legC := legCommand k.deadTime t (levelAt k.h tr.c tau) g.legC }
    | none => g
  else g

/-- At a period start a pending triple becomes the active triple of a channel whose output enable is on
(R55). -/
def gateApply (g : Gate) : Gate :=
  if g.enable then
    match g.pendingTriple with
    | some tr => { g with activeTriple := some tr, pendingTriple := none }
    | none => g
  else g

/-- Every switch of a channel that is on turns off at tick `t` (R60). -/
def gateInhibit (t : Nat) (g : Gate) : Gate :=
  { g with legA := legOff t g.legA, legB := legOff t g.legB, legC := legOff t g.legC }

/-- Switch-off of a channel at tick `t` (R58, R59): every switch off, output enable off, pending and
active triples discarded. -/
def gateSwitchOff (t : Nat) (g : Gate) : Gate where
  enable := false
  pendingTriple := none
  activeTriple := none
  legA := legOff t g.legA
  legB := legOff t g.legB
  legC := legOff t g.legC

/-- The output enable is set on at an entry to RUN (R55). -/
def gateEnable (g : Gate) : Gate := { g with enable := true }

/-- A completed computation's compare values become the pending triple (R55). -/
def gateHandOn (tr : Triple) (g : Gate) : Gate := { g with pendingTriple := some tr }

/-- The tick of a leg's next level change inside the present period, if one is left (R56). -/
def nextEdge (k : Carrier) (now : Nat) (g : Gate) (l : Leg) : Option Nat :=
  match g.activeTriple with
  | none => none
  | some tr =>
    let c := tripleLeg tr l
    if 0 < c ∧ c < k.h then
      match (gateLeg g l).level with
      | some .low => if now ≤ k.periodAt + (k.h - c) then some (k.periodAt + (k.h - c)) else none
      | some .high => some (k.periodAt + (k.h + c))
      | none => none
    else none

/-- The level a leg changes to. -/
def otherLevel : Level → Level
  | .high => .low
  | .low => .high

/-- The tick at which a waiting switch turns on (R57): its leg is commanded to its side, both switches are
off, and the partner's last turn-off plus the dead time comes before the level can leave the side again. -/
def deadTimeEndAt (k : Carrier) (now : Nat) (g : Gate) (l : Leg) : Option Nat :=
  let x := gateLeg g l
  let until_ := (nextEdge k now g l).getD k.nextPeriod
  if x.highOn || x.lowOn then none
  else match x.level with
    | some .high => if x.lowOffAt + k.deadTime < until_ then some (x.lowOffAt + k.deadTime) else none
    | some .low => if x.highOffAt + k.deadTime < until_ then some (x.highOffAt + k.deadTime) else none
    | none => none

/-- The switch of the commanded side turns on, its partner being off (R57). -/
def legTurnOn (x : LegState) : LegState :=
  if x.highOn || x.lowOn then x
  else match x.level with
    | some .high => { x with highOn := true }
    | some .low => { x with lowOn := true }
    | none => x

end Sys2Proof.Machine
end

