-- ==== Sys2Proof/Machine/Trace.lean ====
section
/-! DEFINITION. The Trace Unit (chapter 10): recording, triggers, segments, stop and reading, as operations
on the unit itself. -/

namespace Sys2Proof.Machine

open Sys2Proof

/-- The capture length L of a configuration (R171). -/
def captureLength (cfg : TraceCfg) : Nat := if cfg.segmented then 1024 else 4096

/-- L of the capture (R172). -/
def traceL (t : TraceUnit) : Nat := captureLength t.armedCfg

/-- P of the capture (R172). -/
def traceP (t : TraceUnit) : Nat := t.armedCfg.preCount

/-- The first memory record of a segment (R172). -/
def segmentBase (cfg : TraceCfg) (seg : Nat) : Nat := if cfg.segmented then 1024 * seg else 0

/-- The active segment's V and O. -/
def activeSegment (t : TraceUnit) : Segment := t.segs[t.seg]

/-- The unit with the active segment's V and O replaced. -/
def setActiveSegment (t : TraceUnit) (x : Segment) : TraceUnit := { t with segs := t.segs.set t.seg x }

/-- A capture is in progress: PRE, ARMED or POST. -/
def capturing (c : CaptureState) : Bool :=
  match c with
  | .pre | .armed | .post => true
  | .idle | .done => false

/-- (x - y) mod L for offsets of a segment. -/
def offsetBack (l x y : Nat) : Nat := (x + l - y % l) % l

/-! ## Triggers (R174) -/

/-- A trigger reaches the capture: it is taken in ARMED alone (R174). -/
def takeTrigger (t : TraceUnit) : TraceUnit :=
  match t.capture with
  | .armed =>
    { setActiveSegment t ⟨traceP t, offsetBack (traceL t) t.pointer (traceP t)⟩ with capture := .post }
  | .idle | .pre | .post | .done => t

/-- The bit of a channel in the copied SOURCE_ARG. -/
def sourceMasks (t : TraceUnit) (c : Chan) : Bool := t.armedCfg.sourceArg.getLsbD c.val

/-- A FAULT entry of a channel as a trigger (R174). -/
def faultTrigger (c : Chan) (t : TraceUnit) : TraceUnit :=
  if t.armedCfg.source = 2 ∧ sourceMasks t c then takeTrigger t else t

/-- A rising TRACE_TRIG edge of a channel as a trigger (R174). -/
def controlTrigger (c : Chan) (t : TraceUnit) : TraceUnit :=
  if t.armedCfg.source = 3 ∧ sourceMasks t c then takeTrigger t else t

/-! ## Recording (R173, R175) -/

/-- The word of a quantity of last results (R173). -/
def quantityWord (q : Nat) (r : LastResults) : Word :=
  match q with
  | 0 => word r.ia
  | 1 => word r.ib
  | 2 => word r.id
  | 3 => word r.iq
  | 4 => word r.idRef
  | 5 => word r.iqRef
  | 6 => word r.vd
  | 7 => word r.vq
  | 8 => word r.speed
  | 9 => word r.angle
  | 10 => word r.vbus
  | 11 => word (rshift 16 r.i2t)
  | 12 => word (stateCode r.state)
  | _ => 0

/-- The record formed at a recording sample event from the last results of the channels (R173). -/
def formRecord (cfg : TraceCfg) (last : Chan → LastResults) : TraceRec where
  w0 := quantityWord cfg.sel0Q (last cfg.sel0Ch)
  w1 := quantityWord cfg.sel1Q (last cfg.sel1Ch)
  w2 := quantityWord cfg.sel2Q (last cfg.sel2Ch)
  w3 := quantityWord cfg.sel3Q (last cfg.sel3Ch)

/-- A word as the LEVEL source reads it: signed for quantities 0 to 8, unsigned otherwise (R175). -/
def levelValue (q : Nat) (w : Word) : Int := if q ≤ 8 then signed w else unsigned w

/-- The crossing test between the last record's word 0 and the new one's (R175). -/
def crosses (cfg : TraceCfg) (prev new : Word) : Bool :=
  let p := levelValue cfg.sel0Q prev
  let n := levelValue cfg.sel0Q new
  let th := levelValue cfg.sel0Q cfg.threshold
  if cfg.sourceArg = 0 then decide (p < th ∧ th ≤ n) else decide (th < p ∧ n ≤ th)

/-- The memory record written last in the active segment (R175). -/
def lastWritten (t : TraceUnit) : TraceRec :=
  traceRead t.mem (segmentBase t.armedCfg t.seg.val + offsetBack (traceL t) t.pointer 1)

/-- The LEVEL source finds a crossing at a recording sample event in ARMED (R175). -/
def levelCrossing (t : TraceUnit) (r : TraceRec) : Bool :=
  t.capture == .armed && t.armedCfg.source == 1 && (activeSegment t).valid != 0
    && crosses t.armedCfg (lastWritten t).w0 r.w0

/-- V and O after a record has been written, with the new pointer (R173); V never exceeds L. -/
def segmentAfter (t : TraceUnit) (pointer : Nat) : Segment :=
  let x := activeSegment t
  match t.capture with
  | .post => { x with valid := min (x.valid + 1) (traceL t) }
  | .idle | .pre | .armed | .done =>
    let v := min (x.valid + 1) (traceL t)
    ⟨v, offsetBack (traceL t) pointer v⟩

/-- A record is written at the pointer (R173). -/
def writeRecord (r : TraceRec) (t : TraceUnit) : TraceUnit :=
  let pointer := (t.pointer + 1) % traceL t
  { setActiveSegment t (segmentAfter t pointer) with
    pointer := pointer
    mem := traceWrite (segmentBase t.armedCfg t.seg.val + t.pointer) r t.mem }

/-- A recording sample event (R173, R175): the crossing is tested and taken first, then the record is
written. -/
def recordNow (r : TraceRec) (t : TraceUnit) : TraceUnit :=
  writeRecord r (if levelCrossing t r then takeTrigger t else t)

/-- The period count rises by 1 and returns to 0 at the decimation (R173). -/
def periodNext (t : TraceUnit) : Nat := if t.period + 1 < t.armedCfg.decim then t.period + 1 else 0

/-- A sample event reaches the Trace Unit (R173). -/
def traceSample (last : Chan → LastResults) (t : TraceUnit) : TraceUnit :=
  if capturing t.capture then
    if t.period = 0 then { recordNow (formRecord t.armedCfg last) t with period := periodNext t }
    else { t with period := periodNext t }
  else t

/-! ## ARMED entry, segments, stop (R173, R176, R177) -/

/-- In PRE the valid count has reached P (R173). -/
def armedEntryDue (t : TraceUnit) : Bool := t.capture == .pre && (activeSegment t).valid == traceP t

/-- The capture becomes ARMED (R173). -/
def enterArmed (t : TraceUnit) : TraceUnit := if armedEntryDue t then { t with capture := .armed } else t

/-- In POST the valid count has reached L (R176). -/
def segmentDue (t : TraceUnit) : Bool := t.capture == .post && (activeSegment t).valid == traceL t

/-- PRE, or ARMED when P is 0 (R172, R176). -/
def startState (cfg : TraceCfg) : CaptureState := if cfg.preCount = 0 then .armed else .pre

/-- A segment is complete (R176). -/
def completeSegment (t : TraceUnit) : TraceUnit :=
  if segmentDue t then
    if t.armedCfg.segmented && t.seg.val < 3 then
      { t with seg := t.seg + 1, pointer := 0, capture := startState t.armedCfg }
    else { t with capture := .done }
  else t

/-- The arm of a capture (R172). -/
def armTrace (t : TraceUnit) : TraceUnit :=
  { t with armedCfg := t.cfg, segs := Vector.replicate 4 {}, seg := 0, pointer := 0, period := 0,
           capture := startState t.cfg }

/-- TRACE_STOP (R177). -/
def stopTrace (t : TraceUnit) : TraceUnit := if capturing t.capture then { t with capture := .done } else t

/-- The Trace Unit after pin reset and station reset (R171, R172); the memory's words stay (log 7). -/
def resetTrace (t : TraceUnit) : TraceUnit := { mem := t.mem }

/-! ## Reading (R178) -/

/-- The record that TRACE_DATA entry `e` reads (R178). -/
def traceEntry (t : TraceUnit) (e : Nat) : TraceRec :=
  let seg := if t.armedCfg.segmented then e / 1024 else 0
  let j := if t.armedCfg.segmented then e % 1024 else e
  let x := t.segs.toList.getD seg {}
  if j < x.valid then
    traceRead t.mem (segmentBase t.armedCfg seg + (x.oldest + j) % traceL t)
  else {}

/-- A field of a record. -/
def recordWord (r : TraceRec) (f : Nat) : Word :=
  match f with
  | 0 => r.w0
  | 1 => r.w1
  | 2 => r.w2
  | _ => r.w3

end Sys2Proof.Machine
end

