-- ==== Sys2Proof/Machine/Faults.lean ====
section
/-! DEFINITION. FAULT entry, later faults, the partner reaction, RAMPDOWN entry and the clear request
(R10, R16, R18, R75, R78 to R85, R110, R112). -/

namespace Sys2Proof.Machine

open Sys2Proof

/-! ## RAMPDOWN entry (R10) and its coupling (R110) -/

/-- A channel enters RAMPDOWN; the causes of the entry are added to its pending causes (R10). -/
def toRampdown (refLoss partner : Bool) (ch : Channel) : Channel :=
  { ch with state := .rampdown, rampD := ch.lastRefD, rampQ := ch.lastRefQ, rampComplete := false,
            pendRefLoss := ch.pendRefLoss || refLoss, pendPartner := ch.pendPartner || partner }

/-- A channel enters RAMPDOWN, and a paired leader takes its follower in RUN or HOLD along; REF_LOSS is
the follower's as well when the leader entered by the miss limit (R110). -/
def enterRampdown (c : Chan) (refLoss partner : Bool) (s : State) : State :=
  let s1 := s.modChan c (toRampdown refLoss partner)
  if pairedLeader s c && runOrHold (s1.chan (partnerOf c)).state then
    s1.modChan (partnerOf c) (toRampdown refLoss false)
  else s1

/-! ## Later faults (R82) and the partner reaction (R112) -/

/-- A later fault (R82): the also-seen set, the later-fault count and the last-later field. -/
def laterFault (cause : Cause) (ch : Channel) : Channel :=
  { ch with fault :=
      { ch.fault with alsoSeen := ch.fault.alsoSeen ||| causeBit cause,
                      laterCount := bumpTo 255 ch.fault.laterCount,
                      lastLater := some cause } }

/-- The reaction of channel `c` to its partner's FAULT entry (R112). -/
def partnerReact (c : Chan) (s : State) : State :=
  match (s.chan c).state with
  | .run | .hold => enterRampdown c false true s
  | .rampdown => s.modChan c fun ch => { ch with pendPartner := true }
  | .fault => s.modChan c (laterFault .partner)
  | .off | .calibrate | .ready => s

/-! ## FAULT entry (R16, R81, R84) -/

/-- The pending causes of a channel other than one of them, as a set (R81 step 5). -/
def pendingOthers (cause : Cause) (ch : Channel) : Word :=
  causeIf (ch.pendRefLoss && cause != .refLoss) .refLoss
    ||| causeIf (ch.pendPartner && cause != .partner) .partner

/-- The fault record written at a FAULT entry (R81): `more` are the further findings of the sample. -/
def faultRecord (cause : Cause) (more : Word) (ia ib : Int) (vbus stamp : Nat) (ch : Channel) : FaultRecord :=
  { ch.fault with
    firstCause := some cause
    stamp := stamp
    tripState := ch.state
    tripIa := ia
    tripIb := ib
    tripVbus := vbus
    alsoSeen := pendingOthers cause ch ||| more
    lastLater := none
    totalCount := bump ch.fault.totalCount }

/-- A computation in progress will not hand on its compare values (R25). -/
def withhold (k : Computation) : Computation := { k with handOn := false }

/-- The channel's part of a FAULT entry (R16): its record, its context, its notice (R84). -/
def toFault (cause : Cause) (more : Word) (ia ib : Int) (vbus stamp : Nat) (ch : Channel) : Channel :=
  { ch with
    fault := faultRecord cause more ia ib vbus stamp ch
    state := .fault
    accD := 0
    accQ := 0
    lastRefD := 0
    lastRefQ := 0
    pendRefLoss := false
    pendPartner := false
    rampComplete := false
    clearRefused := false
    noticePending := ch.noticePending || ch.noticeArmed
    noticeArmed := false
    comp := ch.comp.map withhold }

/-- FAULT entry of a channel without telling its partner: the record and the context, the switch-off of
its gates (R58) and the Trace Unit (R174). -/
def enterFaultAlone (c : Chan) (cause : Cause) (more : Word) (ia ib : Int) (vbus : Nat) (s : State) : State :=
  let s1 := s.modChan c (toFault cause more ia ib vbus s.timer.stamp)
  let s2 := s1.modGate c (gateSwitchOff s.now)
  s2.withTrace (faultTrigger c s2.trace)

/-- The Pair Coupler tells the partner of a paired channel that has entered FAULT (R112). -/
def tellPartner (c : Chan) (s : State) : State := if paired s c then partnerReact (partnerOf c) s else s

/-- FAULT entry of a channel (R16), by whatever path. -/
def enterFault (c : Chan) (cause : Cause) (more : Word) (ia ib : Int) (vbus : Nat) (s : State) : State :=
  tellPartner c (enterFaultAlone c cause more ia ib vbus s)

/-! ## Detections outside a sample (R75, R77) -/

/-- A detection taken by a channel's state, without the partner reaction: FAULT entry with the currents
of the last results and the Bus Monitor's last bus value when it drives (R81 step 4), a later fault in
FAULT, nothing otherwise. -/
def detectAlone (c : Chan) (cause : Cause) (s : State) : State :=
  match (s.chan c).state with
  | .run | .hold | .rampdown =>
    enterFaultAlone c cause 0 (s.chan c).last.ia (s.chan c).last.ib s.bus.last s
  | .fault => s.modChan c (laterFault cause)
  | .off | .calibrate | .ready => s

/-! ## Clear requests (R18, R78, R79) -/

/-- A cause meets its clear condition (R78, last column). -/
def clearable (s : State) (ch : Channel) (cause : Cause) : Bool :=
  match cause with
  | .overcurrent | .overrange | .offsetRange | .partner => true
  | .angleLost => ch.invalidCount == 0
  | .busUnder | .busOver => s.bus.state == .normal
  | .inhibit => !s.inhnLow
  | .refLoss => s.phase == .operational && s.timer.missCount == 0

/-- A cause stands in a channel's fault record, as first cause or also seen (R79). -/
def recorded (ch : Channel) (cause : Cause) : Bool :=
  ch.fault.firstCause == some cause || causeIn cause ch.fault.alsoSeen

/-- Every recorded cause is clearable now (R18). -/
def allClearable (s : State) (ch : Channel) : Bool :=
  allCauses.all fun k => !recorded ch k || clearable s ch k

/-- A clear request reaching a channel (R18): `s` gives the conditions of R79. -/
def clearRequest (s : State) (ch : Channel) : Channel :=
  if ch.state = .fault then
    if allClearable s ch then
      if recorded ch .offsetRange then
        { ch with state := .off, calibrated := false, offA := 0, offB := 0, clearRefused := false }
      else { ch with state := .ready, clearRefused := false }
    else { ch with clearRefused := true }
  else ch

/-- A calibration request reaching a channel (R13). -/
def calibrationRequest (ch : Channel) : Channel :=
  match ch.state with
  | .off | .ready =>
    { ch with state := .calibrate, calCount := 0, sumA := 0, sumB := 0, calibrated := false }
  | .calibrate | .run | .hold | .rampdown | .fault => ch

/-- An acknowledgement of the notice (R85). -/
def ackNotice (ch : Channel) : Channel := { ch with noticeArmed := true, noticePending := false }

end Sys2Proof.Machine
end

