-- ==== Sys2Proof/Machine/Channels.lean ====
section
/-! DEFINITION. What moves a channel at a commit or at a miss (chapter 1): RUN entry (R5, R6, R92, R109),
the commit sequence of R4, misses (R8), group actions (R20) and the completion of a calibration (R15). -/

namespace Sys2Proof.Machine

open Sys2Proof

/-! ## RUN entry -/

/-- The channel's part of an entry to RUN (R6); the band is that of R92 in the ACTIVE schedule. -/
def toRun (sch : Schedule) (ch : Channel) : Channel :=
  { ch with state := .run, accD := 0, accQ := 0, lastRefD := 0, lastRefQ := 0, rampD := 0, rampQ := 0,
            band := entryBand sch ch.speed, rampComplete := false, pendRefLoss := false,
            pendPartner := false, enableRefused := false }

/-- A channel enters RUN (R6) and its output enable is set on (R55). -/
def enterRun (c : Chan) (s : State) : State :=
  (s.modChan c (toRun s.active.scheds[c])).modGate c gateEnable

/-- The conditions of R5 for a channel in READY at a rising ENABLE edge, with its new control word. -/
def runAllowed (s : State) (c : Chan) (ctl : Control) : Bool :=
  s.phase == .operational && s.bus.state == .normal && (s.chan c).invalidCount == 0 && !s.inhnLow
    && !quickstopBit ctl && !pairedFollower s c
    && (!pairedLeader s c
        || ((s.chan (partnerOf c)).state == .ready && (s.chan (partnerOf c)).invalidCount == 0))

/-- Enable refused is set. -/
def refuseEnable (ch : Channel) : Channel := { ch with enableRefused := true }

/-- A channel enters RUN, a paired leader together with its follower (R109). -/
def startRun (c : Chan) (s : State) : State :=
  if pairedLeader s c then enterRun (partnerOf c) (enterRun c s) else enterRun c s

/-- A rising ENABLE edge (R5, R21): in READY it starts RUN or is refused; in RUN it has no effect; in the
other states it is not taken and enable refused is set. -/
def takeEnable (c : Chan) (ctl : Control) (s : State) : State :=
  match (s.chan c).state with
  | .ready => if runAllowed s c ctl then startRun c s else s.modChan c refuseEnable
  | .run | .hold => s
  | .off | .calibrate | .rampdown | .fault => s.modChan c refuseEnable

/-! ## The commit sequence (R4) -/

/-- Step 1: a channel in HOLD returns to RUN at a cycle frame's commit (R9). -/
def holdReturn (ch : Channel) : Channel := if ch.state = .hold then { ch with state := .run } else ch

/-- Steps 1 to 3 of R4 for one channel, from its previous and its new control word; `s` gives the clear
conditions of R79. -/
def commitSteps123 (s : State) (prev new : Control) (ch : Channel) : Channel :=
  let ch1 := holdReturn ch
  let ch2 := if rising (faultAckBit prev) (faultAckBit new) then clearRequest s ch1 else ch1
  if rising (calibrateBit prev) (calibrateBit new) then calibrationRequest ch2 else ch2

/-- Step 4 of R4 for one channel: ENABLE and QUICKSTOP (R5, R7, R21). A paired follower does not take a
falling ENABLE edge. -/
def commitStep4 (c : Chan) (prev new : Control) (s : State) : State :=
  let s1 := if rising (enableBit prev) (enableBit new) then takeEnable c new s else s
  if (s1.chan c).state = .run
      ∧ (quickstopBit new
          || (falling (enableBit prev) (enableBit new) && !pairedFollower s1 c)) then
    enterRampdown c false false s1
  else s1

/-- Step 5 of R4 for one channel: NOTICE_ACK (R85) and TRACE_TRIG (R174). -/
def commitStep5 (c : Chan) (prev new : Control) (s : State) : State :=
  let s1 := if rising (noticeAckBit prev) (noticeAckBit new) then s.modChan c ackNotice else s
  if rising (traceTrigBit prev) (traceTrigBit new) then s1.withTrace (controlTrigger c s1.trace) else s1

/-- Steps 1 to 5 of R4 for all channels at a cycle frame's commit, from the previous control words
(`prev`) and those handed on (`new`). Steps 1 to 3 touch one channel each; step 4 is taken in ascending
order, so that a leader's comes before its follower's and sees the follower after steps 1 to 3 (R109). -/
def commitSequence (prev new : Chan → Control) (s : State) : State :=
  let s1 := s.mapChans fun c ch => commitSteps123 s (prev c) (new c) ch
  let s2 := allChans.foldl (fun s c => commitStep4 c (prev c) (new c) s) s1
  allChans.foldl (fun s c => commitStep5 c (prev c) (new c) s) s2

/-! ## Misses (R8) -/

/-- HOLD entry: the hold-episode count rises (R8). -/
def toHold (ch : Channel) : Channel :=
  { ch with state := .hold, fault := { ch.fault with holdCount := bump ch.fault.holdCount } }

/-- A miss announcement reaching one channel, at the miss limit or below it (R8). -/
def takeMiss (atLimit : Bool) (c : Chan) (s : State) : State :=
  match (s.chan c).state with
  | .run => if atLimit then enterRampdown c true false s else s.modChan c toHold
  | .hold => if atLimit then enterRampdown c true false s else s
  | .off | .calibrate | .ready | .rampdown | .fault => s

/-- A miss announced to every channel (R128). -/
def announceMiss (atLimit : Bool) (s : State) : State := allChans.foldl (fun s c => takeMiss atLimit c s) s

/-! ## Group actions (R20, R163) -/

/-- A channel lies within the tags. -/
def tagged (first last c : Chan) : Bool := decide (first ≤ c ∧ c ≤ last)

/-- A group action taken by one channel in step 6 of R4. -/
def takeAction (action : GroupAction) (c : Chan) (s : State) : State :=
  match action with
  | .calibrate => s.modChan c calibrationRequest
  | .clearFault => s.modChan c (clearRequest s)
  | .ackNotice => s.modChan c ackNotice
  | .rampdown => if runOrHold (s.chan c).state then enterRampdown c false false s else s

/-- A group action taken by the channels from the first to the last tag (R163). -/
def applyGroup (action : GroupAction) (first last : Chan) (s : State) : State :=
  allChans.foldl (fun s c => if tagged first last c then takeAction action c s else s) s

/-- A channel counts as having taken an action (R20, R85), from its content before and after. -/
def tookAction (action : GroupAction) (before after : Channel) : Bool :=
  match action with
  | .calibrate => (before.state == .off || before.state == .ready) && after.state == .calibrate
  | .clearFault => before.state == .fault && after.state != .fault
  | .ackNotice => before.noticePending
  | .rampdown => runOrHold before.state && after.state == .rampdown

/-- The mask of the tagged channels that took an action: bit n belongs to channel n (R20). -/
def actionMask (action : GroupAction) (first last : Chan) (s t : State) : Word :=
  allChans.foldl
    (fun m c =>
      if tagged first last c && tookAction action (s.chan c) (t.chan c) then
        m ||| BitVec.twoPow 16 c.val
      else m) 0

/-! ## Calibration completion (R15) and the end of a rampdown (R11) -/

/-- The currents and bus value of the sample a channel took last: those of its computation in progress, or
of its last results once that computation has completed. -/
def lastSample (ch : Channel) : LastResults :=
  match ch.comp with
  | some k => k.results
  | none => ch.last

/-- A calibration that has accumulated 64 samples is complete (R15, R31). -/
def calibrationDue (ch : Channel) : Bool := ch.state == .calibrate && ch.calCount == 64

/-- Calibration completion (R15): READY with the new offsets, or FAULT with OFFSET_RANGE. -/
def completeCalibration (c : Chan) (s : State) : State :=
  let ch := s.chan c
  if calibrationDue ch then
    if offsetAccepted (offsetOf ch.sumA) && offsetAccepted (offsetOf ch.sumB) then
      s.modChan c fun ch =>
        { ch with state := .ready, calibrated := true, offA := offsetOf ch.sumA, offB := offsetOf ch.sumB }
    else
      enterFault c .offsetRange 0 (lastSample ch).ia (lastSample ch).ib (lastSample ch).vbus
        (s.modChan c fun ch => { ch with offA := 0, offB := 0, calibrated := false })
  else s

/-- A channel whose ramp has completed enters READY at the end of its rampdown (R11): outside RUN, HOLD
and RAMPDOWN its integrators and last effective references are 0 (R3). -/
def toReady (ch : Channel) : Channel :=
  { ch with state := .ready, accD := 0, accQ := 0, lastRefD := 0, lastRefQ := 0 }

/-- The rampdown of a channel has run out and waits for the period start (R11). -/
def rampOut (ch : Channel) : Bool := ch.state == .rampdown && ch.rampComplete

/-- The end of a rampdown at a period start (R11, R59), without telling the partner of a FAULT entry. -/
def endRampdownAlone (c : Chan) (s : State) : State :=
  let ch := s.chan c
  if rampOut ch then
    let s1 := s.modGate c (gateSwitchOff s.now)
    if ch.pendRefLoss then enterFaultAlone c .refLoss 0 ch.last.ia ch.last.ib s.bus.last s1
    else if ch.pendPartner then enterFaultAlone c .partner 0 ch.last.ia ch.last.ib s.bus.last s1
    else s1.modChan c toReady
  else s

end Sys2Proof.Machine
end

