-- ==== Sys2Proof/Machine/Moments.lean ====
section
/-! DEFINITION. The work of one period-start instant (R25, R50): what is due at it, the sample event that
waits until the period-start work has been taken, and the time. The steps of one instant are rows of their
own; `moment` holds what is still to be taken (log 3). -/

namespace Sys2Proof.Machine

open Sys2Proof

/-! ## One channel's sample (R25, R26, R38, R70, R71, R107) -/

/-- The q reference of a paired follower (R107). -/
def followerQ (leaderIq : Int) (share : Nat) (yaw : Int) : Int := sat (rshift 15 (leaderIq * share) + yaw)

/-- The d reference a channel's state calls for (R38); `ch` has taken its ramp step. -/
def referenceD (s : State) (c : Chan) (ch : Channel) : Int :=
  match ch.state with
  | .run | .hold => (s.latch c).idRef
  | .rampdown => ch.rampD
  | .off | .calibrate | .ready | .fault => 0

/-- The q reference a channel's state calls for (R38, R107); `ch` has taken its ramp step. -/
def referenceQ (s : State) (c : Chan) (ch : Channel) : Int :=
  match ch.state with
  | .run | .hold =>
    if pairedFollower s c then
      followerQ (s.latch (partnerOf c)).iqRef ch.record.share (s.latch c).yawCorr
    else (s.latch c).iqRef
  | .rampdown => ch.rampQ
  | .off | .calibrate | .ready | .fault => 0

/-- What the computation of channel `c` reads at this sample event (R26). -/
def loopEnv (s : State) (vbus : Nat) (c : Chan) (ch : Channel) : LoopEnv where
  refD := referenceD s c ch
  refQ := referenceQ s c ch
  ilimScale := (s.latch c).ilimScale
  sched := s.active.scheds[c]
  gains := s.active.gains
  vnom := s.station.vnom
  vbus := vbus
  h := s.carrier.h
  minp := s.carrier.minp
  busNotNormal := s.bus.state != .normal

/-- The channel after its sample event (R25): its context has its new values and its computation waits for
its completion. -/
def sampledChannel (s : State) (vbus : Nat) (c : Chan) : Channel :=
  let ch := beforeReferences s.sense[c] (s.chan c)
  regulate (loopEnv s vbus c ch) s.sense[c] ch

/-- The invalid-angle count reaches 3 at this sample (R71). -/
def angleReached (x : SenseIn) (ch : Channel) : Bool := !x.valid && ch.invalidCount == 2

/-- The ANGLE_LOST of a channel is due at this instant. -/
def markAngle (c : Chan) (s : State) : State :=
  s.withMoment (s.moment.map fun w => { w with angleDue := some c })

/-- The sample event of one channel (R25) with its findings (R70 to R72): overrange before overcurrent
before ANGLE_LOST; findings below the first cause go to the also-seen set. ANGLE_LOST alone is taken by its
own row. -/
def sampleChannel (vbus : Nat) (c : Chan) (s : State) : State :=
  let ch := s.chan c
  let x := s.sense[c]
  let ia := phaseCurrent x.aRaw ch.offA
  let ib := phaseCurrent x.bRaw ch.offB
  let range := overrangeFinding x
  let trip := overcurrentFinding ch.record.trip ia ib
  let lost := angleReached x ch
  let s1 := s.setChan c (sampledChannel s vbus c)
  if drives ch.state && range then
    enterFault c .overrange (causeIf trip .overcurrent ||| causeIf lost .angleLost) ia ib vbus s1
  else if drives ch.state && trip then
    enterFault c .overcurrent (causeIf lost .angleLost) ia ib vbus s1
  else if (drives ch.state || ch.state == .fault) && lost then markAngle c s1
  else s1

/-- One item of the sample event. -/
def takeItem (vbus : Nat) (i : WalkItem) (s : State) : State :=
  match i with
  | .sample c => sampleChannel vbus c s
  | .record => s.withTrace (traceSample (fun c => (s.chan c).last) s.trace)

/-- The items of one sample event in the order the outside names. -/
def walkOf (o : SampleOrder) : List WalkItem :=
  let samples := allPairs.flatMap fun p =>
    if o.oddFirst.getLsbD p.val then [WalkItem.sample (oddOf p), .sample (evenOf p)]
    else [.sample (evenOf p), .sample (oddOf p)]
  if o.recordFirst then .record :: samples else samples ++ [.record]

/-! ## ANGLE_LOST (R71) and the bus class (R73, R74) -/

/-- ANGLE_LOST detected in a channel (R71): FAULT entry when it drives, a later fault in FAULT. -/
def detectAngle (c : Chan) (s : State) : State :=
  let ch := s.chan c
  match ch.state with
  | .run | .hold | .rampdown =>
    enterFault c .angleLost 0 (lastSample ch).ia (lastSample ch).ib (lastSample ch).vbus s
  | .fault => s.modChan c (laterFault .angleLost)
  | .off | .calibrate | .ready => s

/-- The due ANGLE_LOST is taken. -/
def takeAngle (s : State) : State :=
  match s.moment with
  | none => s
  | some w =>
    match w.angleDue with
    | none => s
    | some c => detectAngle c (s.withMoment (some { w with angleDue := none }))

/-- The class of a bus value (R73). -/
def busClass (underLim overLim v : Nat) : BusClass :=
  if v < underLim then .under else if overLim < v then .over else .normal

/-- The Bus Monitor at a period start (R73, R74), up to the count that reaches 4. -/
def classifyBus (underLim overLim v : Nat) (b : BusMonitor) : BusMonitor :=
  let k := busClass underLim overLim v
  if k = b.state then { b with count := 0, last := v }
  else if k = b.candidate then { b with count := b.count + 1, last := v }
  else { b with candidate := k, count := 1, last := v }

/-! ## The stream discard timer (R170) -/

/-- The discard time in carrier periods (R170). -/
def discardTime (s : State) : Nat := if s.station.discardShort then 64 else 1024

/-- An open stream is closed with a cause (R169). -/
def closeStream (cause : Closure) (u : ServiceUnit) : ServiceUnit :=
  match u.stream with
  | some _ => { u with stream := none, closure := cause }
  | none => u

/-- The idle count of an open stream rises (R170). -/
def countIdle (u : ServiceUnit) : ServiceUnit :=
  match u.stream with
  | some _ => { u with idle := u.idle + 1 }
  | none => u

/-- The idle count has reached the discard time with a stream open (R170). -/
def timeoutReached (s : State) : Bool := s.service.stream.isSome && decide (discardTime s ≤ s.service.idle)

/-- A due discard timeout is taken: the stream is closed with cause TIMEOUT (R170). -/
def takeTimeout (s : State) : State :=
  match s.moment with
  | none => s
  | some w =>
    if w.timeoutDue then
      (s.withService (closeStream .timeout s.service)).withMoment (some { w with timeoutDue := false })
    else s

/-! ## Due rampdown ends, validation and switch -/

/-- The rampdown end of a channel is due at this instant (R11). -/
def rampEndDue (s : State) (c : Chan) : Bool :=
  match s.moment with
  | none => false
  | some w => w.rampEnds.contains c && rampOut (s.chan c)

/-- The rampdown end of a channel is due no more. -/
def dropRampEnd (c : Chan) (s : State) : State :=
  s.withMoment (s.moment.map fun w => { w with rampEnds := w.rampEnds.filter (· != c) })

/-- A channel has entered FAULT between two states. -/
def enteredFault (c : Chan) (s t : State) : Bool :=
  (s.chan c).state != .fault && (t.chan c).state == .fault

/-- A due rampdown end is taken, and the partner is told of a FAULT entry (R11, R112). -/
def takeRampEnd (c : Chan) (s : State) : State :=
  if rampEndDue s c then
    let s1 := endRampdownAlone c (dropRampEnd c s)
    if enteredFault c s s1 then tellPartner c s1 else s1
  else s

/-- A due validation is taken (R98). -/
def takeValidation (s : State) : State :=
  match s.moment with
  | none => s
  | some w =>
    if w.validationDue then
      let s1 := s.withMoment (some { w with validationDue := false })
      if s.commit.state = .validating then completeValidation s1 else s1
    else s

/-- A due switch is taken (R99). -/
def takeSwitch (s : State) : State :=
  match s.moment with
  | none => s
  | some w =>
    if w.switchDue then
      let s1 := s.withMoment (some { w with switchDue := false })
      if s.commit.state = .switchPending then switchBanks s1 else s1
    else s

/-! ## Station-wide detections (R75, R77, R80, R114) and BUS_STATE_CHANGE (R74) -/

/-- The odd or the even channel of a pair position. -/
def sideOf (p : Fin 4) (odd : Bool) : Chan := if odd then oddOf p else evenOf p

/-- A pair position while a station-wide detection reaches it: the state, and the detections and reactions
that are still on their way. -/
structure PairRun where
  state : State
  waiting : List PairEvent
  deriving DecidableEq, Repr

/-- An event of a pair position has taken `r` to `t`; a FAULT entry of a paired channel sends a reaction on
its way to the partner (R112). -/
def followUp (p : Fin 4) (odd : Bool) (r : PairRun) (t : State) (waiting : List PairEvent) : PairRun :=
  ⟨t, if enteredFault (sideOf p odd) r.state t && paired t (sideOf p odd) then
        .react (!odd) :: waiting else waiting⟩

/-- One event of a pair position, passed over where it does not come about: no such detection or reaction is
on its way, or no rampdown end is due. -/
def takePairEvent (p : Fin 4) (cause : Cause) (r : PairRun) (e : PairEvent) : PairRun :=
  match e with
  | .detect odd =>
    if r.waiting.contains e then
      followUp p odd r (detectAlone (sideOf p odd) cause r.state) (r.waiting.erase e)
    else r
  | .react odd =>
    if r.waiting.contains e then ⟨partnerReact (sideOf p odd) r.state, r.waiting.erase e⟩ else r
  | .rampEnd odd =>
    if rampEndDue r.state (sideOf p odd) then
      followUp p odd r
        (endRampdownAlone (sideOf p odd) (dropRampEnd (sideOf p odd) r.state)) r.waiting
    else r

/-- What follows the order named: the reactions on their way, then the even channel's detection and the odd
channel's, each with its reaction on the partner. -/
def pairRest : PairOrder :=
  [.react false, .react true, .detect false, .react true, .detect true, .react false]

/-- A station-wide detection taken by the two channels of a pair position, in an order the rules leave
open (R80, R114). -/
def detectPair (order : PairOrder) (p : Fin 4) (cause : Cause) (s : State) : State :=
  ((order ++ pairRest).foldl (takePairEvent p cause) ⟨s, [.detect false, .detect true]⟩).state

/-- A station-wide detection taken by every channel (R75, R77). -/
def detectAll (orders : PairOrders) (cause : Cause) (s : State) : State :=
  allPairs.foldl (fun s p => detectPair orders[p] p cause s) s

/-- The debounce count has reached 4 (R74). -/
def busChangeDue (s : State) : Bool := decide (4 ≤ s.bus.count)

/-- The bus state takes the candidate class, the count is set to 0 (R74), and the cause is detected in
every channel (R75). -/
def changeBus (orders : PairOrders) (s : State) : State :=
  if busChangeDue s then
    let s1 := { s with bus := { s.bus with state := s.bus.candidate, count := 0 } }
    match s.bus.candidate with
    | .normal => s1
    | .under => detectAll orders .busUnder s1
    | .over => detectAll orders .busOver s1
  else s

/-! ## What holds the sample event up -/

/-- Some step of this instant must be taken before the next item of the sample event: period-start work
(R25), or a step that the item before has made due. -/
def blocked (s : State) (w : InstantWork) : Bool :=
  w.timeoutDue || w.validationDue || w.switchDue || busChangeDue s || allChans.any (rampEndDue s)
    || w.angleDue.isSome || allChans.any (fun c => calibrationDue (s.chan c))
    || armedEntryDue s.trace || segmentDue s.trace

/-- The work left once the sample event has begun, with the items `rest` to come: a rampdown that has not
ended by then ends at the next period start (R59). -/
def beginWalk (rest : List WalkItem) (w : InstantWork) : InstantWork :=
  { w with walk := rest, begun := true, rampEnds := [] }

/-- The sample event goes on, item by item, until a step is due or no item is left. -/
def runWalk (vbus : Nat) : List WalkItem → State → State
  | [], s => s.withMoment none
  | i :: rest, s =>
    let s1 := takeItem vbus i (s.withMoment (s.moment.map (beginWalk rest)))
    match s1.moment with
    | none => s1
    | some w => if blocked s1 w then s1 else runWalk vbus rest s1

/-- The sample event goes on where nothing holds it up. -/
def resume (s : State) : State :=
  match s.moment with
  | none => s
  | some w => if blocked s w then s else runWalk w.vbus w.walk s

/-- Everything that is due is taken, in one order the rules allow. -/
def takeDue (s : State) : State :=
  let s1 := takeTimeout s
  let s2 := allChans.foldl (fun s c => takeRampEnd c s) s1
  let s3 := changeBus (Vector.replicate 4 []) s2
  let s4 := takeSwitch (takeValidation s3)
  let s5 := takeAngle s4
  let s6 := allChans.foldl (fun s c => completeCalibration c s) s5
  s6.withTrace (completeSegment (enterArmed s6.trace))

/-- What is left of an instant is taken before time goes on (log 3). -/
def settle (s : State) : State :=
  match s.moment with
  | none => s
  | some w =>
    let s1 := takeDue s
    let s2 := s1.withMoment (s1.moment.map (beginWalk []))
    (w.walk.foldl (fun s i => takeDue (takeItem w.vbus i s)) s2).withMoment none

/-- A sample event that has begun is finished before a commit, a miss or an inhibit of the same instant is
taken: each of them comes before the whole sample event or after it (R25, R80, R147, log 3). -/
def finishSample (s : State) : State :=
  match s.moment with
  | none => s
  | some w => if w.begun then settle s else s

/-- Time goes on to tick `t`; a tick already reached changes nothing. -/
def advanceTo (t : Nat) (s : State) : State := if s.now < t then (settle s).withNow t else s

/-! ## Completion of a computation (R25, R48, R55) -/

/-- The last results a computation publishes: its results with the status word formed now (R22, R48). -/
def publish (ch : Channel) (k : Computation) (notReady : Bool) : LastResults :=
  { k.results with status := statusWord ch k notReady }

/-- A computation completes: its results replace the last results, and its compare values become the
pending triple when R25 allows it. -/
def completeComputation (c : Chan) (s : State) : State :=
  let ch := s.chan c
  match ch.comp with
  | none => s
  | some k =>
    let s1 := s.setChan c { ch with last := publish ch k (partnerNotReady s c), comp := none }
    if k.handOn && drives ch.state then s1.modGate c (gateHandOn k.triple) else s1

/-- Every computation in progress completes (R25: before the next period start). -/
def completeAll (s : State) : State := allChans.foldl (fun s c => completeComputation c s) s

/-! ## The period start (R50, R51, R55, R73, R98, R170) -/

/-- The carrier at a period start: the period's place in time, and the settings of the STATION table come
into force (R51). -/
def carrierStart (k : Carrier) (st : StationSettings) : Carrier where
  periodAt := k.nextPeriod
  nextPeriod := k.nextPeriod + 2 * st.carrierH
  h := st.carrierH
  deadTime := st.deadTime
  minp := st.minp

/-- The work that stays to be taken at a period start, after its counts have risen. -/
def openMoment (vbus : Nat) (order : SampleOrder) (switchDue : Bool) (s : State) : InstantWork where
  vbus := vbus
  walk := walkOf order
  begun := false
  rampEnds := allChans.filter fun c => rampOut (s.chan c)
  validationDue := s.commit.state == .validating && decide (2 ≤ s.commit.periods)
  switchDue := switchDue
  timeoutDue := timeoutReached s
  angleDue := none

/-- The period-start work of PERIOD_START itself: time, carrier, presented values, compare triples, the
bus class, the counts of the commit and of the stream. -/
def periodWork (x : SampleInputs) (order : SampleOrder) (s : State) : State :=
  let t := max s.now s.carrier.nextPeriod
  let k := carrierStart s.carrier s.station
  let vbus := unsigned x.vbus
  let s1 :=
    { s with
      now := t
      carrier := k
      sense := x.chans
      gates := s.gates.map fun g => gateLevels s.inhnLow k t (t - k.periodAt) (gateApply g)
      bus := classifyBus s.station.underLim s.station.overLim vbus s.bus
      commit := countPeriod s.commit
      service := countIdle s.service }
  s1.withMoment (some (openMoment vbus order (s.commit.state == .switchPending) s1))

/-- A period start with its sample event (R25, R50). -/
def startPeriod (x : SampleInputs) (order : SampleOrder) (s : State) : State :=
  resume (periodWork x order (completeAll (settle s)))

end Sys2Proof.Machine
end

