-- ==== Sys2Proof/Machine/Tables.lean ====
section
/-! DEFINITION. The tables (R2, R83, R87, R88, R130, R136, R164, R165, R171): which fields are writable,
what a field reads, and what a written word does, clamped into its field's range. -/

namespace Sys2Proof.Machine

open Sys2Proof

/-! ## STATION (R165) -/

/-- A field of the STATION table (R165). -/
def readStation (s : State) (f : Nat) : Nat :=
  match f with
  | 0 => Config.family
  | 1 => Config.revision
  | 2 => Config.channels
  | 3 => s.address.toNat
  | 4 => phaseCode s.phase
  | 5 => s.station.carrierH
  | 6 => s.station.deadTime
  | 7 => s.station.minp
  | 8 => s.station.cycleRatio
  | 9 => s.station.cycleTol
  | 10 => s.station.missLimit
  | 11 => s.station.underLim
  | 12 => s.station.overLim
  | 13 => s.station.vnom
  | 14 => s.station.winFirst
  | 15 => s.station.winLast
  | 16 => s.station.matchState
  | 17 => s.station.matchFlags.toNat
  | 18 => s.station.matchCare.toNat
  | 19 => if s.station.discardShort then 1 else 0
  | _ => 0

/-- A written word clamped into a field of the STATION table (R51, R73, R125, R135, R150, R165).
CYCLE_TOL is clamped once the whole commit has been written (R125). -/
def writeStation (f n : Nat) (st : StationSettings) : StationSettings :=
  match f with
  | 5 => { st with carrierH := clampNat 1250 12500 n }
  | 6 => { st with deadTime := clampNat 0 255 n }
  | 7 => { st with minp := clampNat 0 255 n }
  | 8 => { st with cycleRatio := clampNat 1 16 n }
  | 9 => { st with cycleTol := n }
  | 10 => { st with missLimit := clampNat 1 15 n }
  | 11 => { st with underLim := n }
  | 12 => { st with overLim := n }
  | 13 => { st with vnom := n }
  | 14 => { st with winFirst := clampNat 0 127 n }
  | 15 => { st with winLast := clampNat 0 127 n }
  | 16 => { st with matchState := clampNat 0 6 n }
  | 17 => { st with matchFlags := BitVec.ofNat 6 (clampNat 0 63 n) }
  | 18 => { st with matchCare := BitVec.ofNat 6 (clampNat 0 63 n) }
  | 19 => { st with discardShort := decide (0 < n) }
  | _ => st

/-- The bound of CYCLE_TOL: the smaller of 65,535 and half the cycle period K x 2H (R125). -/
def cycleTolBound (st : StationSettings) : Nat := min 65535 (st.cycleRatio * (2 * st.carrierH) / 2)

/-- CYCLE_TOL against the H and K standing after a commit (R125). -/
def clampCycleTol (st : StationSettings) : StationSettings :=
  { st with cycleTol := min st.cycleTol (cycleTolBound st) }

/-- The STATION fields that are writable in CONFIG alone, and those writable always (R165). -/
def stationWritable (s : State) (f : Nat) : Bool :=
  (decide (5 ≤ f ∧ f ≤ 15) && s.phase == .config) || decide (16 ≤ f ∧ f ≤ 19)

/-! ## CHANNEL (section 1.2, R2) -/

/-- A field of the CHANNEL table. -/
def readChannel (ch : Channel) (f : Nat) : Word :=
  match f with
  | 0 => word ch.record.pp
  | 1 => word ch.record.angOffs
  | 2 => word ch.record.spdFilt
  | 3 => word ch.record.trip
  | 4 => word ch.record.peak
  | 5 => word ch.record.cont
  | 6 => word ch.record.i2tLim
  | 7 => word ch.record.ramp
  | 8 => word (roleCode ch.record.pairRole)
  | 9 => word ch.record.share
  | 10 => ch.record.subMask.zeroExtend 16
  | 11 => ch.record.frzMask.zeroExtend 16
  | 12 => word ch.record.subIqRef
  | 13 => word ch.record.subIdRef
  | 14 => word ch.record.subIlimScale
  | 15 => word ch.record.subYawCorr
  | 16 => ch.record.subControl.zeroExtend 16
  | 17 => word ch.offA
  | 18 => word ch.offB
  | 19 => word (stateCode ch.state)
  | 20 => ch.last.status
  | 21 => word ((if ch.pendRefLoss then 1 else 0) + (if ch.pendPartner then 2 else 0))
  | _ => 0

/-- A write of I2T_LIM (R2, R69): a limit below the present level sets the level to the limit, and
foldback on when the limit is above 0, off when it is 0. -/
def writeI2tLim (n : Nat) (ch : Channel) : Channel :=
  let lim := clampNat 0 32767 n
  let ch1 := { ch with record := { ch.record with i2tLim := lim } }
  if lim * 65536 < ch.i2t then { ch1 with i2t := lim * 65536, foldback := decide (0 < lim) } else ch1

/-- A written word clamped into a field of a channel record (R2). -/
def writeChannel (f : Nat) (w : Word) (ch : Channel) : Channel :=
  let n := unsigned w
  let r := ch.record
  match f with
  | 0 => { ch with record := { r with pp := clampNat 1 32 n } }
  | 1 => { ch with record := { r with angOffs := n } }
  | 2 => { ch with record := { r with spdFilt := clampNat 0 15 n } }
  | 3 => { ch with record := { r with trip := clampNat 0 32767 n } }
  | 4 => { ch with record := { r with peak := clampNat 0 32767 n } }
  | 5 => { ch with record := { r with cont := clampNat 0 32767 n } }
  | 6 => writeI2tLim n ch
  | 7 => { ch with record := { r with ramp := clampNat 1 32767 n } }
  | 8 => { ch with record := { r with pairRole := roleOfCode n } }
  | 9 => { ch with record := { r with share := n } }
  | 10 => { ch with record := { r with subMask := BitVec.ofNat 5 (clampNat 0 31 n) } }
  | 11 => { ch with record := { r with frzMask := BitVec.ofNat 5 (clampNat 0 31 n) } }
  | 12 => { ch with record := { r with subIqRef := sat (signed w) } }
  | 13 => { ch with record := { r with subIdRef := sat (signed w) } }
  | 14 => { ch with record := { r with subIlimScale := clampNat 0 32768 n } }
  | 15 => { ch with record := { r with subYawCorr := sat (signed w) } }
  | 16 => { ch with record := { r with subControl := BitVec.ofNat 6 (clampNat 0 63 n) } }
  | _ => ch

/-- The writability of a channel record field (R2). -/
def channelWritable (s : State) (c : Chan) (f : Nat) : Bool :=
  match f with
  | 0 | 1 | 3 | 6 => atRest (s.chan c).state
  | 8 => s.phase == .config
  | 2 | 4 | 5 | 7 | 9 | 10 | 11 | 12 | 13 | 14 | 15 | 16 => true
  | _ => false

/-! ## SLOTMAP (R136) -/

/-- A field of a slot map entry. -/
def readSlot (e : SlotEntry) (f : Nat) : Nat :=
  match f with
  | 0 => if e.valid then 1 else 0
  | 1 => e.offset
  | 2 => if e.produce then 1 else 0
  | 3 => e.channel.val
  | 4 => e.item.val
  | 5 => e.shift
  | 6 => if e.increment then 1 else 0
  | _ => 0

/-- A written word clamped into a field of a slot map entry (R136). -/
def writeSlot (f n : Nat) (e : SlotEntry) : SlotEntry :=
  match f with
  | 0 => { e with valid := decide (0 < n) }
  | 1 => { e with offset := clampNat 0 127 n }
  | 2 => { e with produce := decide (0 < n) }
  | 3 => { e with channel := chanOf (min n 7) }
  | 4 => { e with item := ⟨min n 6, by omega⟩ }
  | 5 => { e with shift := clampNat 0 7 n }
  | 6 => { e with increment := decide (0 < n) }
  | _ => e

/-! ## Gain sets and schedules (R87, R88) -/

/-- A field of a gain set. -/
def readGain (g : GainSet) (f : Nat) : Nat :=
  match f with
  | 0 => g.kpD
  | 1 => g.kiD
  | 2 => g.kpQ
  | 3 => g.kiQ
  | 4 => g.vlim
  | 5 => g.decL
  | 6 => g.ke
  | _ => 0

/-- A written word clamped into a field of a gain set (R87). -/
def writeGain (f n : Nat) (g : GainSet) : GainSet :=
  match f with
  | 0 => { g with kpD := n }
  | 1 => { g with kiD := n }
  | 2 => { g with kpQ := n }
  | 3 => { g with kiQ := n }
  | 4 => { g with vlim := clampNat 0 32767 n }
  | 5 => { g with decL := n }
  | 6 => { g with ke := n }
  | _ => g

/-- A gain set number from a written word, clamped to 15 (R88). -/
def gainNumber (n : Nat) : Fin 16 := ⟨min n 15, by omega⟩

/-- A field of a schedule. -/
def readSched (x : Schedule) (f : Nat) : Nat :=
  match f with
  | 0 => x.used
  | 1 => x.t1
  | 2 => x.t2
  | 3 => x.t3
  | 4 => x.hy
  | 5 => x.g0.val
  | 6 => x.g1.val
  | 7 => x.g2.val
  | 8 => x.g3.val
  | _ => 0

/-- A written word clamped into a field of a schedule (R88). -/
def writeSched (f n : Nat) (x : Schedule) : Schedule :=
  match f with
  | 0 => { x with used := clampNat 1 4 n }
  | 1 => { x with t1 := n }
  | 2 => { x with t2 := n }
  | 3 => { x with t3 := n }
  | 4 => { x with hy := n }
  | 5 => { x with g0 := gainNumber n }
  | 6 => { x with g1 := gainNumber n }
  | 7 => { x with g2 := gainNumber n }
  | 8 => { x with g3 := gainNumber n }
  | _ => x

/-! ## FAULTS (R83) -/

/-- A field of the FAULTS table: the fault record of a channel, and its notice. -/
def readFault (ch : Channel) (f : Nat) : Word :=
  match f with
  | 0 => word (causeOptCode ch.fault.firstCause)
  | 1 => word ch.fault.stamp
  | 2 => word (stateCode ch.fault.tripState)
  | 3 => word ch.fault.tripIa
  | 4 => word ch.fault.tripIb
  | 5 => word ch.fault.tripVbus
  | 6 => ch.fault.alsoSeen
  | 7 => word ch.fault.laterCount
  | 8 => word (causeOptCode ch.fault.lastLater)
  | 9 => word ch.fault.totalCount
  | 10 => word ch.fault.holdCount
  | 11 => wordOfBool ch.noticePending
  | _ => 0

/-! ## COUNTERS (R130) -/

/-- A link counter. -/
def readCounter (k : Counters) (f : Nat) : Nat :=
  match f with
  | 0 => k.frames
  | 1 => k.crcErrors
  | 2 => k.formatErrors
  | 3 => k.foreign
  | 4 => k.missed
  | 5 => k.late
  | 6 => k.early
  | 7 => k.short
  | 8 => k.service
  | 9 => k.checkFails
  | _ => 0

/-- Any word written to a counter sets it to 0 (R130). -/
def clearCounter (f : Nat) (k : Counters) : Counters :=
  match f with
  | 0 => { k with frames := 0 }
  | 1 => { k with crcErrors := 0 }
  | 2 => { k with formatErrors := 0 }
  | 3 => { k with foreign := 0 }
  | 4 => { k with missed := 0 }
  | 5 => { k with late := 0 }
  | 6 => { k with early := 0 }
  | 7 => { k with short := 0 }
  | 8 => { k with service := 0 }
  | 9 => { k with checkFails := 0 }
  | _ => k

/-! ## TRACE_CFG (R171) -/

/-- A field of TRACE_CFG. -/
def readTraceCfg (x : TraceCfg) (f : Nat) : Nat :=
  match f with
  | 0 => x.sel0Ch.val
  | 1 => x.sel0Q
  | 2 => x.sel1Ch.val
  | 3 => x.sel1Q
  | 4 => x.sel2Ch.val
  | 5 => x.sel2Q
  | 6 => x.sel3Ch.val
  | 7 => x.sel3Q
  | 8 => x.decim
  | 9 => if x.segmented then 1 else 0
  | 10 => x.preCount
  | 11 => x.source
  | 12 => unsigned x.threshold
  | 13 => x.sourceArg.toNat
  | _ => 0

/-- A written word clamped into a field of TRACE_CFG (R171). PRE_COUNT is clamped once the whole commit
has been written. -/
def writeTraceCfg (f n : Nat) (x : TraceCfg) : TraceCfg :=
  match f with
  | 0 => { x with sel0Ch := chanOf (min n 7) }
  | 1 => { x with sel0Q := clampNat 0 13 n }
  | 2 => { x with sel1Ch := chanOf (min n 7) }
  | 3 => { x with sel1Q := clampNat 0 13 n }
  | 4 => { x with sel2Ch := chanOf (min n 7) }
  | 5 => { x with sel2Q := clampNat 0 13 n }
  | 6 => { x with sel3Ch := chanOf (min n 7) }
  | 7 => { x with sel3Q := clampNat 0 13 n }
  | 8 => { x with decim := clampNat 1 256 n }
  | 9 => { x with segmented := decide (0 < n) }
  | 10 => { x with preCount := n }
  | 11 => { x with source := clampNat 0 3 n }
  | 12 => { x with threshold := BitVec.ofNat 16 n }
  | 13 => { x with sourceArg := BitVec.ofNat 8 (clampNat 0 255 n) }
  | _ => x

/-- PRE_COUNT against the MODE standing after a commit (R171). -/
def clampPreCount (x : TraceCfg) : TraceCfg := { x with preCount := min x.preCount (captureLength x - 1) }

/-! ## All tables (R164) -/

/-- What a field of a table reads now. -/
def readField (s : State) (t : Table) (e f : Nat) : Word :=
  match t with
  | .station => word (readStation s f)
  | .channel => readChannel (s.chan (chanOf e)) f
  | .slotMap => word (readSlot (s.slotMap.toList.getD e {}) f)
  | .gainStaged => word (readGain (s.staged.gains.toList.getD e {}) f)
  | .gainActive => word (readGain (s.active.gains.toList.getD e {}) f)
  | .schedStaged => word (readSched (s.staged.scheds.toList.getD e {}) f)
  | .schedActive => word (readSched (s.active.scheds.toList.getD e {}) f)
  | .faults => readFault (s.chan (chanOf e)) f
  | .counters => word (readCounter s.counters f)
  | .traceCfg => word (readTraceCfg s.trace.cfg f)
  | .traceData => recordWord (traceEntry s.trace e) f

/-- A field of a table is writable now (R164); the busy commit is judged before (R101, R167). -/
def fieldWritable (s : State) (t : Table) (e f : Nat) : Bool :=
  match t with
  | .station => stationWritable s f
  | .channel => channelWritable s (chanOf e) f
  | .slotMap => s.phase == .config
  | .gainStaged | .schedStaged => !commitBusy s
  | .gainActive | .schedActive | .faults | .traceData => false
  | .counters => true
  | .traceCfg => !capturing s.trace.capture

/-- A vector with the element at a place changed, where the place exists. -/
def modifyAt {α : Type} {n : Nat} (v : Vector α n) (i : Nat) (f : α → α) : Vector α n :=
  if h : i < n then v.set i (f v[i]) else v

/-- A word written into a field of a table. -/
def writeField (s : State) (t : Table) (x : WordWrite) : State :=
  let n := unsigned x.word
  match t with
  | .station => { s with station := writeStation x.field n s.station }
  | .channel => s.modChan (chanOf x.entry) (writeChannel x.field x.word)
  | .slotMap => { s with slotMap := modifyAt s.slotMap x.entry (writeSlot x.field n) }
  | .gainStaged =>
    { s with staged := { s.staged with gains := modifyAt s.staged.gains x.entry (writeGain x.field n) } }
  | .schedStaged =>
    { s with staged := { s.staged with scheds := modifyAt s.staged.scheds x.entry (writeSched x.field n) } }
  | .counters => s.withCounters (clearCounter x.field s.counters)
  | .traceCfg => s.withTrace { s.trace with cfg := writeTraceCfg x.field n s.trace.cfg }
  | .gainActive | .schedActive | .faults | .traceData => s

/-- The clamps that wait for the whole commit: CYCLE_TOL (R125) and PRE_COUNT (R171). -/
def clampAfterWrite (t : Table) (s : State) : State :=
  match t with
  | .station => { s with station := clampCycleTol s.station }
  | .traceCfg => s.withTrace { s.trace with cfg := clampPreCount s.trace.cfg }
  | .channel | .slotMap | .gainStaged | .gainActive | .schedStaged | .schedActive | .faults | .counters
  | .traceData => s

/-- The words of one commit written in record order (R167), then the clamp that waits for the whole
commit. -/
def writeWords (t : Table) (xs : List WordWrite) (s : State) : State :=
  clampAfterWrite t (xs.foldl (fun s x => writeField s t x) s)

/-! ## Windows (R166) -/

/-- The number of entries of a window. -/
def windowEntries (w : Window) : Nat := w.lastEntry - w.firstEntry + 1

/-- The number of fields of a window. -/
def windowFields (w : Window) : Nat := w.lastField - w.firstField + 1

/-- The window's length N (R166). -/
def windowLength (w : Window) : Nat := windowEntries w * windowFields w

/-- The entry and field at a position below N (R166). -/
def windowCell (w : Window) (p : Nat) : Nat × Nat :=
  if w.fieldMajor then
    (w.firstEntry + p % windowEntries w, w.firstField + p / windowEntries w)
  else (w.firstEntry + p / windowFields w, w.firstField + p % windowFields w)

/-- The words of a write record taken in order from a position (R167): the accepted words, the position
after them, and whether a word met a field that is not writable. -/
def takeWords (s : State) (w : Window) : Nat → List Word → List WordWrite × Nat × Bool
  | p, [] => ([], p, false)
  | p, x :: rest =>
    let q := if windowLength w ≤ p ∧ w.wrap then 0 else p
    if windowLength w ≤ q then ([], p, false)
    else
      let cell := windowCell w q
      if fieldWritable s w.table cell.1 cell.2 then
        let r := takeWords s w (q + 1) rest
        (⟨cell.1, cell.2, x⟩ :: r.1, r.2)
      else ([], q, true)

/-- The words of a read record from a position, and the position after them (R168). -/
def readWords (s : State) (w : Window) : Nat → Nat → List Word × Nat
  | 0, p => ([], p)
  | n + 1, p =>
    let q := if windowLength w ≤ p ∧ w.wrap then 0 else p
    let cell := windowCell w (if windowLength w ≤ q then windowLength w - 1 else q)
    let r := readWords s w n (if windowLength w ≤ q then q else q + 1)
    (readField s w.table cell.1 cell.2 :: r.1, r.2)

end Sys2Proof.Machine
end

