-- ==== Sys2Proof/Machine/Slots.lean ====
section
/-! DEFINITION. The Slot Engine (chapter 8): validation, the four stages of a consume word, the commit of
latches and control words, produce words and the match word; and the pair check of R105. -/

namespace Sys2Proof.Machine

open Sys2Proof

/-! ## Validation (R138) and the pair check (R105) -/

/-- The slot word an entry resolves to (R135). -/
def slotWord (st : StationSettings) (e : SlotEntry) : Nat := st.winFirst + e.offset

/-- A valid consume entry names the channel and item of another entry. -/
def sameConsume (e o : SlotEntry) : Bool :=
  o.valid && !o.produce && !e.produce && o.channel == e.channel && o.item == e.item

/-- The first reason for which a valid entry fails, with the entries of lower index (R138). -/
def entryReason (st : StationSettings) (lower : List SlotEntry) (e : SlotEntry) : Option Nat :=
  if !e.valid then none
  else if !e.produce && decide (5 ≤ e.item.val) then some 1
  else if st.winLast < slotWord st e then some 2
  else if lower.any (fun o => o.valid && slotWord st o == slotWord st e) then some 3
  else if lower.any (sameConsume e) then some 4
  else none

/-- The lowest-numbered entry that fails and its reason, from entry number `i` on. -/
def validateEntries (st : StationSettings) (lower : List SlotEntry) (i : Nat) :
    List SlotEntry → Option (Nat × Nat)
  | [] => none
  | e :: rest =>
    match entryReason st lower e with
    | some r => some (i, r)
    | none => validateEntries st (e :: lower) (i + 1) rest

/-- The slot map validation (R138). -/
def validateSlotMap (s : State) : Option (Nat × Nat) := validateEntries s.station [] 0 s.slotMap.toList

/-- The roles of a pair position are of class Pair (R105). -/
def isPair (s : State) (p : Fin 4) : Bool :=
  (s.chan (evenOf p)).record.pairRole == .leader && (s.chan (oddOf p)).record.pairRole == .follower

/-- The roles of a pair position are of class No pair (R105). -/
def isNoPair (s : State) (p : Fin 4) : Bool :=
  (s.chan (evenOf p)).record.pairRole == .none && (s.chan (oddOf p)).record.pairRole == .none

/-- The lowest-numbered pair of the mismatch class (R105). -/
def validatePairs (s : State) : Option Nat :=
  (allPairs.find? fun p => !isPair s p && !isNoPair s p).map Fin.val

/-! ## The four stages of a consume word (R141 to R144) -/

/-- The valid entry that resolves to a slot word (R139). -/
def findEntry (s : State) (w : Nat) : Option SlotEntry :=
  s.slotMap.toList.find? fun e => e.valid && slotWord s.station e == w

/-- Stage 1 for IQ_REF, ID_REF and YAW_CORR (R141). -/
def scaleSigned (shift : Nat) (x : Word) : Int := sat (signed x * 2 ^ shift)

/-- Stage 1 for ILIM_SCALE (R141). -/
def scaleLimit (shift : Nat) (x : Word) : Nat := (clamp 0 32768 (signed x * 2 ^ shift)).toNat

/-- Stage 1 for CONTROL: bits 6 to 15 are dropped (R141). -/
def scaleControl (x : Word) : Control := x.setWidth 6

/-- Stages 2 and 3 for a signed item (R142, R143). -/
def combineSigned (masked increment : Bool) (sub latch x : Int) : Int :=
  let y := if masked then sub else x
  if increment then sat (latch + y) else y

/-- Stages 2 and 3 for ILIM_SCALE (R142, R143). -/
def combineLimit (masked increment : Bool) (sub latch x : Nat) : Nat :=
  let y := if masked then sub else x
  if increment then clampNat 0 32768 (latch + y) else y

/-- The new value of a consume entry after stages 1 to 3, for the item it names. -/
def newValue (s : State) (e : SlotEntry) (x : Word) : Option LatchWrite :=
  let c := e.channel
  let r := (s.chan c).record
  let l := s.latch c
  match e.item with
  | 0 => some (.iqRef c (combineSigned (r.subMask.getLsbD 0) e.increment r.subIqRef l.iqRef
      (scaleSigned e.shift x)))
  | 1 => some (.idRef c (combineSigned (r.subMask.getLsbD 1) e.increment r.subIdRef l.idRef
      (scaleSigned e.shift x)))
  | 2 => some (.ilimScale c (combineLimit (r.subMask.getLsbD 2) e.increment r.subIlimScale l.ilimScale
      (scaleLimit e.shift x)))
  | 3 => some (.yawCorr c (combineSigned (r.subMask.getLsbD 3) e.increment r.subYawCorr l.yawCorr
      (scaleSigned e.shift x)))
  | 4 => some (.control c (if r.subMask.getLsbD 4 then r.subControl else scaleControl x))
  | 5 | 6 => none

/-- All four stages: a frozen item drops its new value (R144). -/
def consumeValue (s : State) (e : SlotEntry) (x : Word) : Option LatchWrite :=
  if (s.chan e.channel).record.frzMask.getLsbD e.item.val then none else newValue s e x

/-! ## The commit of the slot engine (R145) -/

/-- A pending value replaces its latch. -/
def applyLatch (s : State) (x : LatchWrite) : State :=
  match x with
  | .iqRef c v => s.setLatch c { s.latch c with iqRef := v }
  | .idRef c v => s.setLatch c { s.latch c with idRef := v }
  | .ilimScale c v => s.setLatch c { s.latch c with ilimScale := v }
  | .yawCorr c v => s.setLatch c { s.latch c with yawCorr := v }
  | .control c v => s.setLatch c { s.latch c with control := v }

/-- Steps 1 to 3 of R145: the latches take the pending values, each channel takes its control word as R4
gives, and the previous control words become those handed on. -/
def commitSlots (xs : List LatchWrite) (s : State) : State :=
  let s1 := xs.foldl applyLatch s
  let s2 := commitSequence s1.prevCtrl (fun c => (s1.latch c).control) s1
  { s2 with prevControl := Vector.ofFn fun c => (s1.latch c).control }

/-- A frame of `n` slot words is short for this station (R140). -/
def shortFor (s : State) (n : Nat) : Bool :=
  s.slotMap.toList.any fun e => e.valid && decide (n ≤ slotWord s.station e)

/-! ## Produce words (R148) and the match word (R150) -/

/-- A channel's status word agrees with the match pattern (R150). -/
def matches_ (st : StationSettings) (status : Word) : Bool :=
  (!st.matchCare.getLsbD 0 || status.toNat % 8 == st.matchState)
    && (!st.matchCare.getLsbD 1 || status.getLsbD 4 == st.matchFlags.getLsbD 1)
    && (!st.matchCare.getLsbD 2 || status.getLsbD 5 == st.matchFlags.getLsbD 2)
    && (!st.matchCare.getLsbD 3 || status.getLsbD 6 == st.matchFlags.getLsbD 3)
    && (!st.matchCare.getLsbD 4 || status.getLsbD 7 == st.matchFlags.getLsbD 4)
    && (!st.matchCare.getLsbD 5 || status.getLsbD 15 == st.matchFlags.getLsbD 5)

/-- The match word (R150). -/
def matchWord (s : State) : Word :=
  allChans.foldl
    (fun m c => if matches_ s.station (s.chan c).last.status then m ||| BitVec.twoPow 16 c.val else m) 0

/-- The word a produce entry writes (R148). -/
def produceValue (s : State) (e : SlotEntry) : Word :=
  let r := (s.chan e.channel).last
  match e.item with
  | 0 => word (rshift e.shift r.iq)
  | 1 => word (rshift e.shift r.id)
  | 2 => r.status
  | 3 => word (rshift e.shift r.speed)
  | 4 => word (rshift e.shift (rshift 16 r.i2t))
  | 5 => word (rshift e.shift r.vbus)
  | 6 => matchWord s

end Sys2Proof.Machine
end

