-- ==== Sys2Proof/Machine/Timer.lean ====
section
/-! DEFINITION. The Cycle Timer (R125 to R129) and the counter updates of the Ring Port (R130). -/

namespace Sys2Proof.Machine

open Sys2Proof

/-- The cycle period in ticks: K x 2H with the CARRIER_H standing in the STATION table (R125). -/
def cyclePeriod (st : StationSettings) : Nat := st.cycleRatio * (2 * st.carrierH)

/-- The deadline that an arrival sets (R126, R127). -/
def deadlineAfter (st : StationSettings) (arrival : Nat) : Nat := arrival + cyclePeriod st + st.cycleTol

/-- An arrival is early (R127 step 1). -/
def isEarly (st : StationSettings) (k : CycleTimer) (arrival : Nat) : Bool :=
  decide (arrival + st.cycleTol < k.lastArrival + cyclePeriod st)

/-- The counters at an arrival with the timer RUNNING (R127 steps 1 and 2). -/
def countArrival (early late : Bool) (k : Counters) : Counters :=
  { k with early := if early then bump k.early else k.early,
           late := if late then bump k.late else k.late }

/-- The timer after an arrival (R126, R127 step 3). -/
def timerArrival (st : StationSettings) (arrival : Nat) (k : CycleTimer) : CycleTimer :=
  { k with running := true, lastArrival := arrival, deadline := some (deadlineAfter st arrival),
           missCount := 0, missed := false }

/-- The arrival of a CYCLE frame processed in OPERATIONAL (R126, R127). -/
def takeArrival (s : State) : State :=
  let s1 :=
    if s.timer.running then
      s.withCounters (countArrival (isEarly s.station s.timer s.now) s.timer.missed s.counters)
    else s
  s1.withTimer (timerArrival s.station s.now s.timer)

/-- The cycle stamp takes a committed CYCLE frame's cycle count in either phase (R122). -/
def stampCycle (n : Nat) (s : State) : State := s.withTimer { s.timer with stamp := n }

/-- The timer STOPPED: count 0, flag clear, no deadline (R126). -/
def stopTimer (k : CycleTimer) : CycleTimer :=
  { k with running := false, deadline := none, missCount := 0, missed := false }

/-- A miss is counted (R128): the consecutive-miss count stops at MISS_LIMIT. -/
def countMiss (st : StationSettings) (old : Nat) (k : CycleTimer) : CycleTimer :=
  { k with missCount := bumpTo st.missLimit k.missCount, missed := true,
           deadline := some (old + cyclePeriod st) }

/-- The deadline is reached (R128): the miss is counted and announced to every channel. -/
def expireDeadline (s : State) : State :=
  match s.timer.running, s.timer.deadline with
  | true, some d =>
    let s1 := finishSample (advanceTo d s)
    let s2 := s1.withTimer (countMiss s1.station d s1.timer)
    let s3 := s2.withCounters { s2.counters with missed := bump s2.counters.missed }
    announceMiss (s3.timer.missCount == s3.station.missLimit) s3
  | _, _ => s

end Sys2Proof.Machine
end

