-- ==== Sys2Proof/Machine/Frames.lean ====
section
/-! DEFINITION. The Ring Port (R116 to R121): frame-in-passage contexts, the parts of a frame as they are
received, and the bytes as they leave on TXL. -/

namespace Sys2Proof.Machine

open Sys2Proof

/-! ## Positions (R131) -/

/-- A service record stands in a frame of this header. -/
def hasRecord (h : Header) : Bool := h.servicePresent == 1

/-- The number of slot words of a frame. -/
def slotCountOf (h : Header) : Nat := h.slotCount.toNat

/-- The position of the first slot word (R131). -/
def slotStart (h : Header) : Nat := if hasRecord h then 32 else 6

/-- The length of a frame (R118, R131). -/
def frameLength (h : Header) : Nat := slotStart h + 2 * slotCountOf h + 2

/-- A format error found at the header (R118). -/
def headerBad (kind : FrameKind) (h : Header) : Bool :=
  decide (128 < slotCountOf h) || (h.servicePresent != 0 && h.servicePresent != 1)
    || (kind == .service && (slotCountOf h != 0 || !hasRecord h))

/-- What the byte received next belongs to. `plain` bytes are not processed: those of a FOREIGN frame, of a
frame with a format error found at the header, the trailer, and bytes beyond it. -/
inductive Part where
  | header
  | record
  | slot (w : Nat)
  | plain
  deriving DecidableEq, Repr

/-- The part that comes next, after the header (R131). -/
def partAfterHeader (h : Header) (pos : Nat) : Part :=
  if hasRecord h ∧ pos = 6 then .record
  else if slotStart h ≤ pos ∧ pos < slotStart h + 2 * slotCountOf h then .slot ((pos - slotStart h) / 2)
  else .plain

/-- The part that comes next in a frame. -/
def nextPart (f : FrameCtx) : Part :=
  match f.kind, f.header with
  | .foreign, _ => .plain
  | .cycle, none | .service, none => if f.rx.length = 1 then .header else .plain
  | .cycle, some h | .service, some h => if f.badHeader then .plain else partAfterHeader h f.rx.length

/-- The length of a part. -/
def partLength : Part → Nat
  | .header => 5
  | .record => 26
  | .slot _ | .plain => 2

/-! ## Receiving -/

/-- Bytes are received that are not processed. -/
def pushPlain (bs : List Byte) (f : FrameCtx) : FrameCtx := { f with rx := f.rx ++ bs }

/-- Bytes of a part are received: they enter the incoming CRC (R121). -/
def pushPart (bs : List Byte) (f : FrameCtx) : FrameCtx :=
  { f with rx := f.rx ++ bs, crcIn := crcBytes f.crcIn bs }

/-- `s` with another frame being received. -/
def withReceiving (s : State) (f : FrameCtx) : State := s.withPort { s.port with receiving := some f }

/-- The context of a frame at its first byte, in the phase the station holds there (R116, R117). -/
def openFrame (phase : Phase) (kind : Byte) : FrameCtx where
  kind := frameKindOf kind
  phase := phase
  rx := [kind]
  crcIn := crcByte 0xFFFF kind

/-- The first byte of a frame is received (R116, R117): outside pin reset, once the line has been idle
after it (R124), while no other frame is being received. -/
def startFrame (kind : Byte) (s : State) : State :=
  if s.resetLow || s.port.waiting then s
  else match s.port.receiving with
    | some _ => s
    | none => withReceiving s (openFrame s.phase kind)

/-- The five bytes after the kind, as header fields (R131). -/
def headerOf (bs : List Byte) : Header where
  summary := bs.getD 0 0
  cycleCount := bytesWord (bs.getD 1 0) (bs.getD 2 0)
  slotCount := bs.getD 3 0
  servicePresent := bs.getD 4 0

/-- The header of a frame is received and checked (R118). -/
def takeHeader (h : Header) (f : FrameCtx) : FrameCtx :=
  { pushPart (headerBytes h) f with header := some h, badHeader := headerBad f.kind h }

/-- Bytes 1 to 5 are received. -/
def receiveHeader (h : Header) (s : State) : State :=
  match s.port.receiving with
  | none => s
  | some f =>
    match nextPart f with
    | .header => withReceiving s (takeHeader h f)
    | .plain => withReceiving s (pushPlain (headerBytes h) f)
    | .record | .slot _ => s

/-- Slot words of this frame are processed (R139): a CYCLE frame in OPERATIONAL without a format error
found at its header. -/
def slotsProcessed (f : FrameCtx) : Bool := f.kind == .cycle && f.phase == .operational && !f.badHeader

/-- The pending value a slot word brings (R139): none without a consume entry for it, or when it is
frozen. -/
def consumed (s : State) (f : FrameCtx) (w : Nat) (value : Word) : List LatchWrite :=
  if slotsProcessed f then
    match findEntry s w with
    | some e => if e.produce then [] else (consumeValue s e value).toList
    | none => []
  else []

/-- A slot word is received (R139). -/
def takeSlotWord (s : State) (w : Nat) (value : Word) (f : FrameCtx) : FrameCtx :=
  { pushPart (wordBytes value) f with latches := f.latches ++ consumed s f w value }

/-- The next slot word is received. -/
def receiveSlotWord (value : Word) (s : State) : State :=
  match s.port.receiving with
  | none => s
  | some f =>
    match nextPart f with
    | .slot w => withReceiving s (takeSlotWord s w value f)
    | .plain => withReceiving s (pushPlain (wordBytes value) f)
    | .header | .record => s

/-! ## Leaving on TXL (R116, R119, R120, R148) -/

/-- The frame is wholly received. -/
def ended (f : FrameCtx) : Bool := f.verdict != .arriving

/-- How many bytes of a frame may have left: every byte leaves 26 byte periods after it was received
(R116); the two bytes of the trailer leave by TRAILER_SENT. While a part is being received its bytes may
have arrived. -/
def mayLeave (f : FrameCtx) : Nat :=
  if ended f then f.rx.length - 2 else f.rx.length + partLength (nextPart f) - 26

/-- Bytes leave: they enter the outgoing CRC as written (R119). -/
def sendBytes (bs : List Byte) (f : FrameCtx) : FrameCtx :=
  { f with tx := f.tx ++ bs, crcOut := crcBytes f.crcOut bs }

/-- The summary byte as it leaves (R120). -/
def summaryOut (s : State) (f : FrameCtx) (b : Byte) : Byte :=
  if f.kind = .cycle ∧ !f.badHeader ∧ s.phase = .operational ∧ anyChan s (· == .fault) then b ||| 1 else b

/-- Bytes 0 and 1 as they leave. -/
def headOut (s : State) (f : FrameCtx) : List Byte :=
  match f.rx with
  | kind :: b :: _ => [kind, summaryOut s f b]
  | short => short

/-- The bytes of a frame with its service record as it leaves (R119). -/
def bytesOut (f : FrameCtx) : List Byte :=
  match f.recordOut with
  | some r => f.rx.take 6 ++ r ++ f.rx.drop 32
  | none => f.rx

/-- Every byte up to a position leaves; slot words that a produce entry replaces leave by `sendWord`. -/
def sendTo (s : State) (bound : Nat) (f : FrameCtx) : FrameCtx :=
  let f1 := if f.tx = [] then sendBytes ((headOut s f).take bound) f else f
  sendBytes (((bytesOut f1).take bound).drop f1.tx.length) f1

/-- The bytes of slot word `w` as it leaves (R139, R148). -/
def wordOut (s : State) (f : FrameCtx) (h : Header) (w : Nat) : List Byte :=
  let received := ((bytesOut f).drop (slotStart h + 2 * w)).take 2
  if slotsProcessed f then
    match findEntry s w with
    | some e => if e.produce then wordBytes (produceValue s e) else received
    | none => received
  else received

/-- The number of the slot word that leaves next. -/
def nextWordOut (h : Header) (f : FrameCtx) : Nat := (f.tx.length - slotStart h) / 2

/-- The next slot word leaves, after every byte before the slot area, if it may. -/
def sendWord (s : State) (h : Header) (f : FrameCtx) : FrameCtx :=
  let w := nextWordOut h f
  if w < slotCountOf h ∧ slotStart h + 2 * w + 2 ≤ mayLeave f then
    let f1 := sendTo s (slotStart h + 2 * w) f
    sendBytes (wordOut s f1 h w) f1
  else f

/-- `n` slot words leave. -/
def sendWords (s : State) (h : Header) : Nat → FrameCtx → FrameCtx
  | 0, f => f
  | n + 1, f => sendWords s h n (sendWord s h f)

/-- Everything before the trailer leaves. DESIGN CHOICE (log 8): where a frame ends short so that its trailer
cuts a produce slot word in half, the first byte of that word leaves as received; the spec does not say what
leaves there, in a frame whose inverted trailer makes it void. -/
def sendAll (s : State) (f : FrameCtx) : FrameCtx :=
  match f.kind, f.header with
  | .cycle, some h => if f.badHeader then sendTo s (mayLeave f) f
                      else sendTo s (mayLeave f) (sendWords s h (slotCountOf h) f)
  | .cycle, none | .service, _ | .foreign, _ => sendTo s (mayLeave f) f

/-- The trailer a CYCLE or SERVICE frame leaves with (R121): the outgoing CRC, inverted when the frame was
discarded. -/
def trailerOut (f : FrameCtx) : Word := if f.verdict = .good then f.crcOut else ~~~f.crcOut

/-- All bytes of a frame as they have left, trailer included (R117, R121). A CYCLE or SERVICE frame of one
byte has no two bytes of trailer: what leaves is a free value (log 10). -/
def framesOut (s : State) (f : FrameCtx) : List Byte :=
  if f.verdict = .foreign then f.rx
  else if f.rx.length < 2 then Config.oneByteFrameSent s.freeUsed
  else (sendAll s f).tx ++ wordBytes (trailerOut (sendAll s f))

/-- The frame at TXL changed: the earliest whose trailer has not been sent (R116). -/
def atTxl (g : FrameCtx → FrameCtx) (s : State) : State :=
  match s.port.leaving with
  | f :: rest => s.withPort { s.port with leaving := g f :: rest }
  | [] =>
    match s.port.receiving with
    | some f => withReceiving s (g f)
    | none => s

/-- Bytes 0 and 1 leave (R120), if they have not and may. -/
def sendSummary (s : State) (f : FrameCtx) : FrameCtx :=
  if f.tx = [] ∧ 2 ≤ mayLeave f then sendBytes (headOut s f) f else f

/-- The next slot word leaves in a CYCLE frame without a format error found at its header (R139). -/
def sendNextWord (s : State) (f : FrameCtx) : FrameCtx :=
  match f.kind, f.header with
  | .cycle, some h => if f.badHeader then f else sendWord s h f
  | .cycle, none | .service, _ | .foreign, _ => f

/-- The trailer of the frame at TXL has been sent: its context is dropped (R116). -/
def sendTrailer (s : State) : State :=
  match s.port.leaving with
  | f :: rest =>
    let s1 := s.withPort { s.port with leaving := rest, lastSent := framesOut s f }
    if f.verdict ≠ .foreign ∧ f.rx.length < 2 then { s1 with freeUsed := s1.freeUsed + 1 } else s1
  | [] => s

/-- The line goes idle after a pin reset: the next frame is processed (R124). -/
def lineIdle (s : State) : State :=
  if s.resetLow then s else s.withPort { s.port with waiting := false }

end Sys2Proof.Machine
end

