-- ==== Sys2Proof/Machine/Judge.lean ====
section
/-! DEFINITION. A service record as it is taken (R153 to R169): how it is judged, what it closes and clears,
and the reply that is written into it. -/

namespace Sys2Proof.Machine

open Sys2Proof

/-- How a record is judged: the flags of its reply other than STARTUP and SEQ_CLEARED, and what enters
the pending commit list. -/
structure Judgement where
  flags : Byte
  cmd : PendCmd
  deriving DecidableEq, Repr

/-- Judged without a flag. -/
def accept (cmd : PendCmd) : Judgement := ⟨0, cmd⟩

/-- Refused with a flag: nothing is executed, and the result is empty. -/
def refuse (flag : Byte) : Judgement := ⟨flag, .notExecuted⟩

/-! ## The commands' own tests (step 4 of R154) -/

/-- SET_CHECK (R157): argument 0 off, 1 on. -/
def judgeSetCheck (b : RecordBody) : Judgement :=
  match argumentOf b with
  | 0 => accept (.setCheck false)
  | 1 => accept (.setCheck true)
  | _ => refuse flagRange

/-- GO_OPERATIONAL (R158): the slot map validation, then the pair check. -/
def judgeGoOperational (s : State) : Judgement :=
  match validateSlotMap s with
  | some (entry, reason) => ⟨flagValue, .goRefused 1 entry reason⟩
  | none =>
    match validatePairs s with
    | some pair => ⟨flagValue, .goRefused 2 pair 0⟩
    | none => accept .goOperational

/-- The window six request data words name for a table (R166), none where the record is answered RANGE. -/
def windowOf (t : Table) (ws : List Word) : Option Window :=
  match ws with
  | e0 :: e1 :: f0 :: f1 :: order :: wrap :: _ =>
    if unsigned e1 < tableEntries t ∧ unsigned f1 < tableFields t ∧ unsigned e0 ≤ unsigned e1
        ∧ unsigned f0 ≤ unsigned f1 ∧ unsigned order ≤ 1 ∧ unsigned wrap ≤ 1 then
      some ⟨t, unsigned e0, unsigned e1, unsigned f0, unsigned f1, order == 1, wrap == 1⟩
    else none
  | _ => none

/-- SET_WINDOW (R166). -/
def judgeSetWindow (b : RecordBody) : Judgement :=
  match tableOf (argumentOf b) with
  | none => refuse flagRange
  | some t =>
    match windowOf t (dataWords b) with
    | none => refuse flagRange
    | some w => accept (.setWindow w)

/-- A STAGED table (R101). -/
def stagedTable : Table → Bool
  | .gainStaged | .schedStaged => true
  | .station | .channel | .slotMap | .gainActive | .schedActive | .faults | .counters | .traceCfg
  | .traceData => false

/-- The words of a write record from a position (R167). -/
def judgeWords (s : State) (w : Window) (start : Bool) (p : Nat) (b : RecordBody) : Judgement :=
  let r := takeWords s w p (dataWords b)
  ⟨flagIf r.2.2 flagValue, .write start r.1 r.2.1 r.2.2⟩

/-- WRITE_START (R167). -/
def judgeWriteStart (s : State) (b : RecordBody) : Judgement :=
  match s.service.window with
  | none => refuse flagSeqFault
  | some w =>
    if stagedTable w.table && commitBusy s then ⟨flagBusy, .writeBusy true⟩
    else judgeWords s w true 0 b

/-- WRITE_CONTINUE (R167). -/
def judgeWriteContinue (s : State) (b : RecordBody) : Judgement :=
  match s.service.stream, s.service.window with
  | some ⟨.write, p⟩, some w =>
    if stagedTable w.table && commitBusy s then ⟨flagBusy, .writeBusy false⟩
    else judgeWords s w false p b
  | _, _ => refuse flagSeqFault

/-- READ_START (R168). DESIGN CHOICE (log 24): of two refusals that hold at once SEQ_FAULT comes before RANGE,
and RANGE before BUSY; R168 does not rank them. -/
def judgeReadStart (s : State) (b : RecordBody) : Judgement :=
  match s.service.window with
  | none => refuse flagSeqFault
  | some w =>
    if argumentOf b < 1 ∨ 8 < argumentOf b then refuse flagRange
    else if w.table = .traceData ∧ capturing s.trace.capture then refuse flagBusy
    else accept (.read true (argumentOf b))

/-- READ_CONTINUE (R168). DESIGN CHOICE (log 24): without a read stream it is SEQ_FAULT whatever its count;
R168 does not rank the two refusals. -/
def judgeReadContinue (s : State) (b : RecordBody) : Judgement :=
  match s.service.stream with
  | some ⟨.read, _⟩ =>
    if argumentOf b < 1 ∨ 8 < argumentOf b then refuse flagRange else accept (.read false (argumentOf b))
  | some ⟨.write, _⟩ | none => refuse flagSeqFault

/-- COMMIT_BANK (R96) and COPY_ACTIVE_TO_STAGED (R102): BUSY while a commit is busy. -/
def judgeBank (s : State) (cmd : PendCmd) : Judgement :=
  if commitBusy s then refuse flagBusy else accept cmd

/-- TAG_FIRST and TAG_LAST (R157, R162): a channel 0 to 7. -/
def judgeTag (b : RecordBody) (cmd : Chan → PendCmd) : Judgement :=
  if argumentOf b < 8 then accept (cmd (chanOf (argumentOf b))) else refuse flagRange

/-- GROUP_ACTION (R163): the tags first, then the action code. -/
def judgeGroup (s : State) (b : RecordBody) : Judgement :=
  match s.service.tagFirst, s.service.tagLast with
  | some first, some last =>
    if last < first then refuse flagSeqFault
    else match groupActionOf (argumentOf b) with
      | some a => accept (.groupAction a first last)
      | none => refuse flagRange
  | _, _ => refuse flagSeqFault

/-- The tests of a command (step 4 of R154). -/
def judgeCommand (s : State) (c : Command) (b : RecordBody) : Judgement :=
  match c with
  | .nop => accept .nop
  | .getStatus => accept .getStatus
  | .setCheck => judgeSetCheck b
  | .goOperational => judgeGoOperational s
  | .leaveOperational => accept .leaveOperational
  | .resetStation => accept .resetStation
  | .setWindow => judgeSetWindow b
  | .writeStart => judgeWriteStart s b
  | .writeContinue => judgeWriteContinue s b
  | .readStart => judgeReadStart s b
  | .readContinue => judgeReadContinue s b
  | .stopStream => accept .stopStream
  | .commitBank => judgeBank s .commitBank
  | .copyActiveToStaged => judgeBank s .copyActiveToStaged
  | .tagFirst => judgeTag b .tagFirst
  | .tagLast => judgeTag b .tagLast
  | .groupAction => judgeGroup s b
  | .traceArm => accept .traceArm
  | .traceStop => accept .traceStop
  | .traceTrigger => accept .traceTrigger

/-! ## The steps of R154 -/

/-- Step 3: the command is allowed in the phase and state (R157, R159, R172). -/
def allowedNow (s : State) (phase : Phase) (c : Command) : Bool :=
  match c with
  | .goOperational => phase == .config
  | .leaveOperational => phase == .operational && !anyChan s (fun x => !atRest x)
  | .traceArm => !capturing s.trace.capture
  | .nop | .getStatus | .setCheck | .resetStation | .setWindow | .writeStart | .writeContinue
  | .readStart | .readContinue | .stopStream | .commitBank | .copyActiveToStaged | .tagFirst | .tagLast
  | .groupAction | .traceStop | .traceTrigger => true

/-- The commands allowed by broadcast (R156). -/
def broadcastable (c : Command) : Bool :=
  match c with
  | .nop | .setCheck | .goOperational | .leaveOperational | .traceArm | .traceTrigger => true
  | .getStatus | .resetStation | .setWindow | .writeStart | .writeContinue | .readStart | .readContinue
  | .stopStream | .commitBank | .copyActiveToStaged | .tagFirst | .tagLast | .groupAction
  | .traceStop => false

/-- Step 1 refuses a record: check mode is on and the record is not sound. -/
def checkFails (s : State) (code : Byte) (b : RecordBody) : Bool :=
  s.service.checkMode && !recordSound code b

/-- Steps 1 to 4 of R154 on an addressed record or, with `broadcast`, on a broadcast (R156). -/
def judge (s : State) (phase : Phase) (broadcast : Bool) (code : Byte) (b : RecordBody) : Judgement :=
  if checkFails s code b then refuse flagCheckFail
  else if 8 < b.wordCount.toNat then refuse flagRange
  else match commandOf code with
    | none => refuse flagUnknown
    | some c =>
      if (broadcast && !broadcastable c) || !allowedNow s phase c then refuse flagUnknown
      else judgeCommand s c b

/-! ## Streams and tags (R162, R169) -/

/-- The record is a CONTINUE of the open stream's own kind. -/
def ownContinue (s : State) (c : Option Command) : Bool :=
  match s.service.stream, c with
  | some ⟨.write, _⟩, some .writeContinue => true
  | some ⟨.read, _⟩, some .readContinue => true
  | _, _ => false

/-- An addressed record closes an open stream as it is taken (R169). -/
def closesStream (s : State) (code : Byte) : Bool :=
  match commandOf code with
  | some .nop | some .getStatus => false
  | c => !ownContinue s c

/-- A tag is present. -/
def tagsPresent (s : State) : Bool := s.service.tagFirst.isSome || s.service.tagLast.isSome

/-- An addressed record is answered SEQ_CLEARED (R162). -/
def clearsSequence (s : State) (code : Byte) : Bool :=
  match commandOf code with
  | some .nop | some .getStatus | some .tagFirst | some .tagLast | some .groupAction => false
  | _ => tagsPresent s

/-- An open stream is closed as a record is taken (R169). -/
def closeIf (cond : Bool) (s : State) : State :=
  if cond then s.withService (closeStream .command s.service) else s

/-! ## The record as it leaves (R119, R132, R154, R156) -/

/-- STARTUP is added while the station is in CONFIG (R154). -/
def startupFlag (phase : Phase) : Byte := flagIf (phase == .config) flagStartup

/-- The data words with the first ones replaced. -/
def overlay (data : Vector Word 8) (ws : List Word) : Vector Word 8 :=
  Vector.ofFn fun i => ws.getD i.val data[i]

/-- The reply of this station (R154): REPLIER, FLAGS, WORD_COUNT, the first words of DATA, CHECK. -/
def replyBody (s : State) (code : Byte) (flags : Byte) (b : RecordBody) : RecordBody :=
  withCheck code
    { b with replier := s.address, flags := flags,
             wordCount := BitVec.ofNat 8 s.service.result.length,
             data := overlay b.data s.service.result }

/-- A broadcast with this station's flags (R156). -/
def broadcastBody (code : Byte) (flags : Byte) (b : RecordBody) : RecordBody :=
  withCheck code { b with flags := b.flags ||| flags }

/-! ## Taking a record (R153) -/

/-- What the station does with a record. -/
inductive Handling where
  | answer
  | broadcast
  | pass
  deriving DecidableEq, Repr

/-- A station is addressed when its straps lie within 1 to 254 (R153). -/
def addressed (a : Byte) : Bool := a != 0 && a != 255

/-- The handling of a record by its STATION and REPLIER fields (R153), and of a broadcast that an upstream
station has found corrupt (R156). -/
def handling (s : State) (b : RecordBody) : Handling :=
  if b.station = 255 then
    if b.flags &&& flagCheckFail = 0 then .broadcast else .pass
  else if b.station = s.address ∧ addressed s.address ∧ b.replier = 0 then .answer
  else .pass

/-- The flags of an answered record (R154). -/
def answerFlags (s : State) (phase : Phase) (code : Byte) (b : RecordBody) : Byte :=
  (judge s phase false code b).flags ||| startupFlag phase
    ||| flagIf (!checkFails s code b && clearsSequence s code) flagSeqCleared

/-- An answered record, in the pending commit list (R154, R162, R163). -/
def answerTaken (s : State) (phase : Phase) (code : Byte) (b : RecordBody) : TakenRecord where
  answered := true
  checkFail := checkFails s code b
  cmd := (judge s phase false code b).cmd
  clearTags := !checkFails s code b && (clearsSequence s code || commandOf code == some .groupAction)

/-- A broadcast is executed: no refusing flag was found (R156). -/
def broadcastRuns (s : State) (phase : Phase) (code : Byte) (b : RecordBody) : Bool :=
  (judge s phase true code b).flags == 0

/-- A broadcast that this station executes, other than NOP, closes a stream and clears the tags (R162,
R169). -/
def broadcastActs (s : State) (phase : Phase) (code : Byte) (b : RecordBody) : Bool :=
  broadcastRuns s phase code b && commandOf code != some .nop

/-- The flags a broadcast takes from this station (R156). -/
def broadcastFlags (s : State) (phase : Phase) (code : Byte) (b : RecordBody) : Byte :=
  (judge s phase true code b).flags ||| startupFlag phase
    ||| flagIf (broadcastActs s phase code b && tagsPresent s) flagSeqCleared

/-- A broadcast, in the pending commit list. -/
def broadcastTaken (s : State) (phase : Phase) (code : Byte) (b : RecordBody) : TakenRecord where
  answered := false
  checkFail := checkFails s code b
  cmd := if broadcastRuns s phase code b then (judge s phase true code b).cmd else .notExecuted
  clearTags := broadcastActs s phase code b && tagsPresent s

/-- A record is received into the frame and forwarded as received (R119, R153). -/
def passRecord (code : Byte) (b : RecordBody) (f : FrameCtx) : FrameCtx := pushPart (recordBytes code b) f

/-- A record is received, is taken, and leaves as `out` (R119). -/
def takenRecord (code : Byte) (b out : RecordBody) (taken : TakenRecord) (f : FrameCtx) : FrameCtx :=
  { passRecord code b f with recordOut := some (recordBytes code out), taken := some taken }

/-- A record this station answers (R154). -/
def answerRecord (code : Byte) (b : RecordBody) (f : FrameCtx) (s : State) : State :=
  closeIf (!checkFails s code b && closesStream s code)
    (withReceiving s
      (takenRecord code b (replyBody s code (answerFlags s f.phase code b) b)
        (answerTaken s f.phase code b) f))

/-- A broadcast record (R156). -/
def broadcastRecord (code : Byte) (b : RecordBody) (f : FrameCtx) (s : State) : State :=
  closeIf (broadcastActs s f.phase code b)
    (withReceiving s
      (takenRecord code b (broadcastBody code (broadcastFlags s f.phase code b) b)
        (broadcastTaken s f.phase code b) f))

/-- The 26th byte of a record is received (R153). -/
def receiveRecord (code : Byte) (b : RecordBody) (s : State) : State :=
  match s.port.receiving with
  | none => s
  | some f =>
    match nextPart f with
    | .record =>
      match handling s b with
      | .answer => answerRecord code b f s
      | .broadcast => broadcastRecord code b f s
      | .pass => withReceiving s (passRecord code b f)
    | .plain => withReceiving s (pushPlain (recordBytes code b) f)
    | .header | .slot _ => s

end Sys2Proof.Machine
end

