-- ==== Sys2Proof/Machine/Execute.lean ====
section
/-! DEFINITION. The command of a taken record executed at its frame's commit (R122, R155 to R170): one
definition per command, each giving the result words it forms. -/

namespace Sys2Proof.Machine

open Sys2Proof

/-- What a command leaves behind: the state, and the words of its result (R155). -/
structure Executed where
  state : State
  result : List Word
  deriving DecidableEq, Repr

/-- A command without a result. -/
def plainly (s : State) : Executed := ⟨s, []⟩

/-! ## Phases (R157 to R159) -/

/-- SET_CHECK at its commit (R157). -/
def commitSetCheck (on : Bool) (s : State) : State := s.withService { s.service with checkMode := on }

/-- GO_OPERATIONAL at its commit (R106, R158): the phase, and the pair flags by the roles. -/
def commitGoOperational (s : State) : State :=
  { s with phase := .operational, pairs := Vector.ofFn fun p => isPair s p }

/-- LEAVE_OPERATIONAL at its commit (R106, R126, R151, R159). -/
def commitLeaveOperational (s : State) : State :=
  { s with phase := .config, timer := stopTimer s.timer, pairs := Vector.replicate 4 false,
           latches := Vector.replicate 8 {}, prevControl := Vector.replicate 8 0 }

/-- The work of the present instant after a station reset: the sample event goes on, and nothing of the
period-start work is due any more. -/
def resetMoment (w : InstantWork) : InstantWork :=
  { w with rampEnds := [], validationDue := false, switchDue := false, timeoutDue := false, angleDue := none }

/-- RESET_STATION at its commit (R23, R62, R76, R103, R106, R126, R151, R160, R172): every reset value,
but for the pins, the address, the link counters, the running carrier period and the frames in passage.
DESIGN CHOICE (log 6): the values the Sense Interface has presented last stay too; no chapter gives them a
reset value. -/
def commitResetStation (s : State) : State :=
  { now := s.now
    resetLow := s.resetLow
    inhnLow := s.inhnLow
    address := s.address
    carrier := s.carrier
    gates := s.gates.map (gateSwitchOff s.now)
    sense := s.sense
    counters := s.counters
    port := s.port
    trace := resetTrace s.trace
    freeUsed := s.freeUsed
    moment := s.moment.map resetMoment
    pending := s.pending }

/-! ## GET_STATUS (R161) -/

/-- The eight words of GET_STATUS. -/
def statusResult (s : State) : List Word :=
  [word (phaseCode s.phase), wordOfBool s.service.checkMode, word (commitCode s.commit.state),
    word s.commit.rejChannel, word s.commit.reason, word (streamCode s.service.stream),
    word (closureCode s.service.closure), word s.service.total]

/-! ## Streams (R166 to R169) -/

/-- SET_WINDOW at its commit (R166). -/
def commitWindow (w : Window) (s : State) : State := s.withService { s.service with window := some w }

/-- The Service Unit after an executed write record (R167, R170). -/
def afterWrite (start refused : Bool) (n endPos : Nat) (u : ServiceUnit) : ServiceUnit :=
  { u with
    stream := if refused then none else some ⟨.write, endPos⟩
    closure := if refused then .refused else u.closure
    total := if start then n else min (u.total + n) 65535
    idle := 0 }

/-- A write record executed (R167). -/
def writeNow (start : Bool) (xs : List WordWrite) (endPos : Nat) (refused : Bool) (s : State) : Executed :=
  match s.service.window with
  | none => ⟨s, [0]⟩
  | some w =>
    let s1 := writeWords w.table xs s
    ⟨s1.withService (afterWrite start refused xs.length endPos s1.service), [word xs.length]⟩

/-- A write record at its commit (R167): a WRITE_CONTINUE whose stream the discard timer has closed is
not executed (R170). -/
def commitWrite (start : Bool) (xs : List WordWrite) (endPos : Nat) (refused : Bool) (s : State) : Executed :=
  if start then writeNow start xs endPos refused s
  else match s.service.stream with
    | none => ⟨s, [0]⟩
    | some _ => writeNow start xs endPos refused s

/-- A write record answered BUSY at its commit (R101, R167): a WRITE_CONTINUE ends its stream. -/
def commitWriteBusy (start : Bool) (s : State) : Executed :=
  if start then ⟨s, [0]⟩ else ⟨s.withService (closeStream .refused s.service), [0]⟩

/-- `n` words read from a position (R168). -/
def readNow (n p : Nat) (s : State) : Executed :=
  match s.service.window with
  | none => plainly s
  | some w =>
    let r := readWords s w n p
    ⟨s.withService { s.service with stream := some ⟨.read, r.2⟩, idle := 0 }, r.1⟩

/-- READ_START and READ_CONTINUE at their commit (R168, R170). -/
def commitRead (start : Bool) (n : Nat) (s : State) : Executed :=
  if start then readNow n 0 s
  else match s.service.stream with
    | none => plainly s
    | some x => readNow n x.pos s

/-! ## Tags and group actions (R162, R163) -/

/-- Both tags are cleared. -/
def clearTags (s : State) : State := s.withService { s.service with tagFirst := none, tagLast := none }

/-- A group action at its commit (R163): step 6 of R4, and the mask of the channels that took it. -/
def commitGroup (a : GroupAction) (first last : Chan) (s : State) : Executed :=
  let t := applyGroup a first last s
  ⟨t, [actionMask a first last s t]⟩

/-! ## All commands -/

/-- The command of a taken record at its commit, with the result it forms (R157). -/
def executeCmd (cmd : PendCmd) (s : State) : Executed :=
  match cmd with
  | .notExecuted => plainly s
  | .nop => plainly s
  | .getStatus => ⟨s, statusResult s⟩
  | .setCheck on => plainly (commitSetCheck on s)
  | .goOperational => plainly (commitGoOperational s)
  | .goRefused kind number reason => ⟨s, [word kind, word number, word reason]⟩
  | .leaveOperational => plainly (commitLeaveOperational s)
  | .resetStation => plainly (commitResetStation s)
  | .setWindow w => plainly (commitWindow w s)
  | .write start xs endPos refused => commitWrite start xs endPos refused s
  | .writeBusy start => commitWriteBusy start s
  | .read start n => commitRead start n s
  | .stopStream => plainly s
  | .commitBank => plainly (startCommit s)
  | .copyActiveToStaged => plainly (copyBanks s)
  | .tagFirst c => plainly (s.withService { s.service with tagFirst := some c })
  | .tagLast c => plainly (s.withService { s.service with tagLast := some c })
  | .groupAction a first last => commitGroup a first last s
  | .traceArm => plainly (s.withTrace (armTrace s.trace))
  | .traceStop => plainly (s.withTrace (stopTrace s.trace))
  | .traceTrigger => plainly (s.withTrace (takeTrigger s.trace))

/-- The result of an answered record replaces the result buffer (R155). -/
def keepResult (r : TakenRecord) (e : Executed) : State :=
  if r.answered then e.state.withService { e.state.service with result := e.result } else e.state

/-- The Service Unit's part of a commit (R122): tags, the command, its result. -/
def commitRecord (r : TakenRecord) (s : State) : State :=
  keepResult r (executeCmd r.cmd (if r.clearTags then clearTags s else s))

end Sys2Proof.Machine
end

