-- ==== Sys2Proof/Machine/FrameEnd.lean ====
section
/-! DEFINITION. The end of reception of a frame (R118, R121 to R123): what is left of it is received, it is
checked, and it commits or is discarded. -/

namespace Sys2Proof.Machine

open Sys2Proof

/-! ## The bytes up to the end -/

/-- Bytes that are not processed are received. -/
def receivePlain (bs : List Byte) (s : State) : State :=
  match s.port.receiving with
  | none => s
  | some f => withReceiving s (pushPlain bs f)

/-- One whole part is received from its bytes. -/
def receivePart (p : Part) (bs : List Byte) (s : State) : State :=
  match p with
  | .header => receiveHeader (headerOf bs) s
  | .record => receiveRecord (recordCode bs) (recordBody bs) s
  | .slot _ => receiveSlotWord (bytesWord (bs.getD 0 0) (bs.getD 1 0)) s
  | .plain => receivePlain bs s

/-- The bytes of a frame that came by no row of their own, part by part, at most `n` parts. Bytes that end
inside a part are not processed. DESIGN CHOICE (log 8): this holds of a header too, so that a frame of exactly
5 bytes whose byte 4 is above 128 is a frame shorter than 8 bytes and no error found at the header; R118 takes
that check at byte 4 and also counts a frame ended before its header was whole as shorter than 8 bytes. -/
def receiveRest : Nat → List Byte → State → State
  | 0, bs, s => receivePlain bs s
  | n + 1, bs, s =>
    match s.port.receiving with
    | none => s
    | some f =>
      let p := nextPart f
      if p = .plain ∨ bs.length < partLength p then receivePlain bs s
      else receiveRest n (bs.drop (partLength p)) (receivePart p (bs.take (partLength p)) s)

/-! ## The checks (R118, R121) -/

/-- A format error (R118). -/
def formatError (f : FrameCtx) : Bool :=
  match f.header with
  | none => true
  | some h => f.badHeader || decide (f.rx.length < 8) || f.rx.length != frameLength h

/-- The trailer received: the last two bytes (R116). -/
def trailerIn (f : FrameCtx) : Word :=
  bytesWord (f.rx.getD (f.rx.length - 2) 0) (f.rx.getD (f.rx.length - 1) 0)

/-- The incoming CRC is good (R121). -/
def crcGood (f : FrameCtx) : Bool := trailerIn f == f.crcIn

/-- What becomes of a frame at its end of reception. -/
def verdictOf (f : FrameCtx) : Verdict :=
  if f.kind = .foreign then .foreign
  else if formatError f then .void
  else if crcGood f then .good
  else .void

/-- The counters of a frame that does not commit (R117, R118, R121, R123). -/
def countDropped (f : FrameCtx) (k : Counters) : Counters :=
  if f.kind = .foreign then { k with frames := bump k.frames, foreign := bump k.foreign }
  else if formatError f then { k with frames := bump k.frames, formatErrors := bump k.formatErrors }
  else { k with frames := bump k.frames, crcErrors := bump k.crcErrors }

/-! ## The commit (R122) -/

/-- The cycle count of a frame. -/
def cycleCountOf (f : FrameCtx) : Nat :=
  match f.header with
  | none => 0
  | some h => unsigned h.cycleCount

/-- A CYCLE frame processed in OPERATIONAL. -/
def cycleOperational (f : FrameCtx) : Bool := f.kind == .cycle && f.phase == .operational

/-- The Cycle Timer's part (R122): the stamp in either phase, the arrival in OPERATIONAL. -/
def commitTimer (f : FrameCtx) (s : State) : State :=
  if f.kind = .cycle then
    let s1 := stampCycle (cycleCountOf f) s
    if f.phase = .operational then takeArrival s1 else s1
  else s

/-- The frame carries an accepted LEAVE_OPERATIONAL. -/
def leaving (f : FrameCtx) : Bool :=
  match f.taken with
  | none => false
  | some r => r.cmd == .leaveOperational

/-- The Slot Engine's part and steps 1 to 5 of R4 (R122, R145). -/
def commitSlotEngine (f : FrameCtx) (s : State) : State :=
  if cycleOperational f && !leaving f then commitSlots f.latches s else s

/-- The frame is short for this station (R140). -/
def isShort (s : State) (f : FrameCtx) : Bool :=
  match f.header with
  | none => false
  | some h => cycleOperational f && shortFor s (slotCountOf h)

/-- The counters of a frame that commits (R122, R130). -/
def countCommit (short : Bool) (taken : Option TakenRecord) (k : Counters) : Counters :=
  { k with
    frames := bump k.frames
    short := if short then bump k.short else k.short
    service := if taken.isSome then bump k.service else k.service
    checkFails := if taken.any (fun r => r.answered && r.checkFail) then bump k.checkFails else k.checkFails }

/-- The counters' part of a commit. -/
def commitCounters (f : FrameCtx) (s : State) : State :=
  s.withCounters (countCommit (isShort s f) f.taken s.counters)

/-- The Service Unit's part of a commit. -/
def commitService (f : FrameCtx) (s : State) : State :=
  match f.taken with
  | none => s
  | some r => commitRecord r s

/-- The commit of a frame (R122): Cycle Timer, Slot Engine, counters, Service Unit. -/
def commitFrame (f : FrameCtx) (s : State) : State :=
  commitService f (commitCounters f (commitSlotEngine f (commitTimer f s)))

/-! ## The end of reception -/

/-- The frame is wholly received: its context waits for its trailer to be sent (R116). -/
def closeReception (f : FrameCtx) (s : State) : State :=
  s.withPort { s.port with receiving := none, leaving := s.port.leaving ++ [{ f with verdict := verdictOf f }] }

/-- A wholly received frame commits or is discarded (R121 to R123). -/
def settleFrame (f : FrameCtx) (s : State) : State :=
  let s1 := closeReception f s
  if verdictOf f = .good then commitFrame f s1 else s1.withCounters (countDropped f s1.counters)

/-- END_OF_RECEPTION at tick `t`, with the bytes that came by no row of their own. A sample event of this
instant that has begun is finished first (R147), and a discard timeout that the time has reached is taken
before the commit (R170). A sample event that the commit leaves with nothing due before it goes on (log 3). -/
def endReception (t : Nat) (rest : List Byte) (s : State) : State :=
  match s.port.receiving with
  | none => s
  | some _ =>
    let s1 := receiveRest rest.length rest (takeTimeout (finishSample (advanceTo t s)))
    match s1.port.receiving with
    | none => s1
    | some f => resume (settleFrame f s1)

end Sys2Proof.Machine
end

