-- ==== Sys2Proof/Machine/Pins.lean ====
section
/-! DEFINITION. The rows of the two input pins: RESETN_ASSERTED, RESETN_RELEASED, INHN_ASSERTED,
INHN_RELEASED (R50, R60, R62, R77, R124). -/

namespace Sys2Proof.Machine

open Sys2Proof

/-- The outcome of one command. -/
abbrev Result := Host.Outcome State Fault Refusal

/-- Pin reset at tick `t`: every reset value (R23, R62, R76, R103, R106, R124, R126, R151, R160, R172). The
pin INHN, the trace memory's words and the ticks of the last turn-offs stay (log 5, 7). -/
def assertReset (t : Nat) (s : State) : State :=
  let now := max s.now t
  { now := now
    inhnLow := s.inhnLow
    gates := s.gates.map (gateSwitchOff now)
    port := { lastSent := s.port.lastSent }
    trace := resetTrace s.trace
    freeUsed := s.freeUsed
    pending := s.pending }

/-- The release of RESETN at tick `t` (R50, R124, R160): the straps are the station address, the first
period is due at once, and the Ring Port waits for an idle line. -/
def releaseReset (t : Nat) (straps : Byte) (s : State) : State :=
  if s.resetLow then
    let now := max s.now t
    { s with
      now := now
      resetLow := false
      address := straps
      carrier := { s.carrier with periodAt := now, nextPeriod := now }
      port := { s.port with waiting := true } }
  else s

/-- INHN becomes asserted at tick `t` (R60, R77): every switch goes off, and INHIBIT is detected in every
channel. -/
def assertInhibit (t : Nat) (orders : PairOrders) (s : State) : State :=
  if s.inhnLow then s
  else
    let s1 := finishSample (advanceTo t s)
    resume (detectAll orders .inhibit ({ s1 with inhnLow := true }.mapGates (gateInhibit s1.now)))

/-- INHN is released at tick `t` (R60): legs take the levels that are commanded there. -/
def releaseInhibit (t : Nat) (s : State) : State :=
  if s.inhnLow then
    let s1 := advanceTo t s
    { s1 with inhnLow := false }.mapGates
      (gateLevels false s1.carrier s1.now (s1.now - s1.carrier.periodAt))
  else s

/-- RESETN_ASSERTED (R124). -/
def execResetnAsserted (at_ : Nat) (s : State) : Result := .next (assertReset at_ s)

/-- RESETN_RELEASED (R50). -/
def execResetnReleased (at_ : Nat) (straps : Byte) (s : State) : Result :=
  .next (releaseReset at_ straps s)

/-- INHN_ASSERTED (R77). -/
def execInhnAsserted (at_ : Nat) (orders : PairOrders) (s : State) : Result :=
  .next (assertInhibit at_ orders s)

/-- INHN_RELEASED (R60). -/
def execInhnReleased (at_ : Nat) (s : State) : Result := .next (releaseInhibit at_ s)

end Sys2Proof.Machine
end

