-- ==== Sys2Proof/Machine/Periods.lean ====
section
/-! DEFINITION. The rows of the carrier period and of what falls due at it: PERIOD_START, ANGLE_LOST,
CALIBRATION_COMPLETE, COMPUTATION_COMPLETE, BUS_STATE_CHANGE, RAMPDOWN_END, BANK_VALIDATION_COMPLETE,
BANK_SWITCH, STREAM_DISCARD_TIMEOUT, DEADLINE_EXPIRY, TRACE_ARMED_ENTRY, SEGMENT_COMPLETE, and those of the
legs: LEG_LEVEL_CHANGE, DEAD_TIME_END. A row that is not due has no effect (log 2). -/

namespace Sys2Proof.Machine

open Sys2Proof

/-- A due step is taken, and the sample event it held up goes on (R25). -/
def whenDue (due : Bool) (f : State → State) (s : State) : State := if due then resume (f s) else s

/-- The ANGLE_LOST of a channel is due (R71). -/
def angleDueFor (s : State) (c : Chan) : Bool :=
  match s.moment with
  | none => false
  | some w => w.angleDue == some c

/-- The validation of a bank commit is due (R98). -/
def validationDue (s : State) : Bool :=
  match s.moment with
  | none => false
  | some w => w.validationDue

/-- The switch of a bank commit is due (R99). -/
def switchDue (s : State) : Bool :=
  match s.moment with
  | none => false
  | some w => w.switchDue

/-- The discard timeout of a stream is due (R170). -/
def timeoutDue (s : State) : Bool :=
  match s.moment with
  | none => false
  | some w => w.timeoutDue

/-- A leg's level changes at its edge (R56, R57). -/
def changeLevel (c : Chan) (leg : Leg) (s : State) : State :=
  match nextEdge s.carrier s.now (s.gate c) leg with
  | none => s
  | some t =>
    let s1 := advanceTo t s
    match (gateLeg (s1.gate c) leg).level with
    | none => s1
    | some lv =>
      s1.modGate c fun g =>
        setGateLeg g leg (legCommand s1.carrier.deadTime s1.now (otherLevel lv) (gateLeg g leg))

/-- The dead time of a leg ends and its switch turns on (R57). -/
def endDeadTime (c : Chan) (leg : Leg) (s : State) : State :=
  match deadTimeEndAt s.carrier s.now (s.gate c) leg with
  | none => s
  | some t =>
    let s1 := advanceTo t s
    s1.modGate c fun g => setGateLeg g leg (legTurnOn (gateLeg g leg))

/-- PERIOD_START (R50): none while RESETN is asserted. -/
def execPeriodStart (inputs : SampleInputs) (order : SampleOrder) (s : State) : Result :=
  .next (if s.resetLow then s else startPeriod inputs order s)

/-- ANGLE_LOST (R71). -/
def execAngleLost (c : Chan) (s : State) : Result := .next (whenDue (angleDueFor s c) takeAngle s)

/-- CALIBRATION_COMPLETE (R15). -/
def execCalibrationComplete (c : Chan) (s : State) : Result :=
  .next (whenDue (calibrationDue (s.chan c)) (completeCalibration c) s)

/-- COMPUTATION_COMPLETE (R25). -/
def execComputationComplete (c : Chan) (s : State) : Result := .next (completeComputation c (settle s))

/-- LEG_LEVEL_CHANGE (R56). -/
def execLegLevelChange (c : Chan) (leg : Leg) (s : State) : Result := .next (changeLevel c leg s)

/-- DEAD_TIME_END (R57). -/
def execDeadTimeEnd (c : Chan) (leg : Leg) (s : State) : Result := .next (endDeadTime c leg s)

/-- BUS_STATE_CHANGE (R74). -/
def execBusStateChange (order : PairOrders) (s : State) : Result :=
  .next (whenDue (busChangeDue s) (changeBus order) s)

/-- RAMPDOWN_END (R11). -/
def execRampdownEnd (c : Chan) (s : State) : Result := .next (whenDue (rampEndDue s c) (takeRampEnd c) s)

/-- BANK_VALIDATION_COMPLETE (R98). -/
def execBankValidationComplete (s : State) : Result := .next (whenDue (validationDue s) takeValidation s)

/-- BANK_SWITCH (R99). -/
def execBankSwitch (s : State) : Result := .next (whenDue (switchDue s) takeSwitch s)

/-- STREAM_DISCARD_TIMEOUT (R170). -/
def execStreamDiscardTimeout (s : State) : Result := .next (whenDue (timeoutDue s) takeTimeout s)

/-- DEADLINE_EXPIRY (R128). -/
def execDeadlineExpiry (s : State) : Result := .next (expireDeadline s)

/-- TRACE_ARMED_ENTRY (R173). -/
def execTraceArmedEntry (s : State) : Result :=
  .next (whenDue (armedEntryDue s.trace) (fun s => s.withTrace (enterArmed s.trace)) s)

/-- SEGMENT_COMPLETE (R176). -/
def execSegmentComplete (s : State) : Result :=
  .next (whenDue (segmentDue s.trace) (fun s => s.withTrace (completeSegment s.trace)) s)

end Sys2Proof.Machine
end

