-- ==== Sys2Proof/Machine/RecordRows.lean ====
section
/-! DEFINITION. The rows of the service records (R153 to R177): the record's 26th byte is received. The
record is judged, its reply is formed, and its command enters the pending commit list; END_OF_RECEPTION
executes it at the commit. -/

namespace Sys2Proof.Machine

open Sys2Proof

/-- The record of a GROUP_ACTION row: it carries the row's own argument, or one above 3, which names no
action and belongs to no row (R157, log 11). -/
def groupRecord (code : BitVec 32) (b : RecordBody) : RecordBody :=
  if 3 < argumentOf b then b else { b with argument := code }

/-- UNKNOWN (R154): a code outside the command table. -/
def execUnknown (code : Byte) (body : RecordBody) (s : State) : Result := .next (receiveRecord code body s)

/-- NOP (R157). -/
def execNop (body : RecordBody) (s : State) : Result :=
  .next (receiveRecord (codeOf .nop) body s)

/-- GET_STATUS (R161). -/
def execGetStatus (body : RecordBody) (s : State) : Result :=
  .next (receiveRecord (codeOf .getStatus) body s)

/-- SET_CHECK (R157). -/
def execSetCheck (body : RecordBody) (s : State) : Result :=
  .next (receiveRecord (codeOf .setCheck) body s)

/-- GO_OPERATIONAL (R158). -/
def execGoOperational (body : RecordBody) (s : State) : Result :=
  .next (receiveRecord (codeOf .goOperational) body s)

/-- LEAVE_OPERATIONAL (R159). -/
def execLeaveOperational (body : RecordBody) (s : State) : Result :=
  .next (receiveRecord (codeOf .leaveOperational) body s)

/-- RESET_STATION (R160). -/
def execResetStation (body : RecordBody) (s : State) : Result :=
  .next (receiveRecord (codeOf .resetStation) body s)

/-- SET_WINDOW (R166). -/
def execSetWindow (body : RecordBody) (s : State) : Result :=
  .next (receiveRecord (codeOf .setWindow) body s)

/-- WRITE_START (R167). -/
def execWriteStart (body : RecordBody) (s : State) : Result :=
  .next (receiveRecord (codeOf .writeStart) body s)

/-- WRITE_CONTINUE (R167). -/
def execWriteContinue (body : RecordBody) (s : State) : Result :=
  .next (receiveRecord (codeOf .writeContinue) body s)

/-- READ_START (R168). -/
def execReadStart (body : RecordBody) (s : State) : Result :=
  .next (receiveRecord (codeOf .readStart) body s)

/-- READ_CONTINUE (R168). -/
def execReadContinue (body : RecordBody) (s : State) : Result :=
  .next (receiveRecord (codeOf .readContinue) body s)

/-- STOP_STREAM (R169). -/
def execStopStream (body : RecordBody) (s : State) : Result :=
  .next (receiveRecord (codeOf .stopStream) body s)

/-- COMMIT_BANK (R96). -/
def execCommitBank (body : RecordBody) (s : State) : Result :=
  .next (receiveRecord (codeOf .commitBank) body s)

/-- COPY_ACTIVE_TO_STAGED (R102). -/
def execCopyActiveToStaged (body : RecordBody) (s : State) : Result :=
  .next (receiveRecord (codeOf .copyActiveToStaged) body s)

/-- TAG_FIRST (R162). -/
def execTagFirst (body : RecordBody) (s : State) : Result :=
  .next (receiveRecord (codeOf .tagFirst) body s)

/-- TAG_LAST (R162). -/
def execTagLast (body : RecordBody) (s : State) : Result :=
  .next (receiveRecord (codeOf .tagLast) body s)

/-- GROUP_ACTION with argument 0, CALIBRATE (R13, R163). -/
def execGroupActionCalibrate (body : RecordBody) (s : State) : Result :=
  .next (receiveRecord (codeOf .groupAction) (groupRecord 0 body) s)

/-- GROUP_ACTION with argument 1, CLEAR_FAULT (R18, R163). -/
def execGroupActionClearFault (body : RecordBody) (s : State) : Result :=
  .next (receiveRecord (codeOf .groupAction) (groupRecord 1 body) s)

/-- GROUP_ACTION with argument 2, ACK_NOTICE (R85, R163). -/
def execGroupActionAckNotice (body : RecordBody) (s : State) : Result :=
  .next (receiveRecord (codeOf .groupAction) (groupRecord 2 body) s)

/-- GROUP_ACTION with argument 3, RAMPDOWN (R20, R163). -/
def execGroupActionRampdown (body : RecordBody) (s : State) : Result :=
  .next (receiveRecord (codeOf .groupAction) (groupRecord 3 body) s)

/-- TRACE_ARM (R172). -/
def execTraceArm (body : RecordBody) (s : State) : Result :=
  .next (receiveRecord (codeOf .traceArm) body s)

/-- TRACE_STOP (R177). -/
def execTraceStop (body : RecordBody) (s : State) : Result :=
  .next (receiveRecord (codeOf .traceStop) body s)

/-- TRACE_TRIGGER (R177). -/
def execTraceTrigger (body : RecordBody) (s : State) : Result :=
  .next (receiveRecord (codeOf .traceTrigger) body s)

end Sys2Proof.Machine
end

