-- ==== Sys2Proof/Machine/RingRows.lean ====
section
/-! DEFINITION. The rows of a frame in passage: FRAME_START, HEADER, SUMMARY, CONSUME_WORD, PRODUCE_WORD,
END_OF_RECEPTION, TRAILER_SENT, LINE_IDLE_AFTER_RESET (R116 to R124, R139, R148). -/

namespace Sys2Proof.Machine

open Sys2Proof

/-- FRAME_START (R117). -/
def execFrameStart (kind : Byte) (s : State) : Result := .next (startFrame kind s)

/-- HEADER (R118). -/
def execHeader (h : Header) (s : State) : Result := .next (receiveHeader h s)

/-- SUMMARY (R120). -/
def execSummary (s : State) : Result := .next (atTxl (sendSummary s) s)

/-- CONSUME_WORD (R139). -/
def execConsumeWord (value : Word) (s : State) : Result := .next (receiveSlotWord value s)

/-- PRODUCE_WORD (R148). -/
def execProduceWord (s : State) : Result := .next (atTxl (sendNextWord s) s)

/-- END_OF_RECEPTION (R121). -/
def execEndOfReception (at_ : Nat) (rest : List Byte) (s : State) : Result :=
  .next (endReception at_ rest s)

/-- TRAILER_SENT (R116). -/
def execTrailerSent (s : State) : Result := .next (sendTrailer s)

/-- LINE_IDLE_AFTER_RESET (R124). -/
def execLineIdleAfterReset (s : State) : Result := .next (lineIdle s)

end Sys2Proof.Machine
end

