-- ==== Sys2Proof/Machine/Dispatch.lean ====
section
/-! DEFINITION. The commands' meanings, one arm per constructor. -/

namespace Sys2Proof.Machine

open Sys2Proof

def exec (i : Instr) (s : State) : Host.Outcome State Fault Refusal :=
  match i with
  | .resetnAsserted at_ => Sys2Proof.Machine.execResetnAsserted at_ s
  | .resetnReleased at_ straps => Sys2Proof.Machine.execResetnReleased at_ straps s
  | .inhnAsserted at_ order => Sys2Proof.Machine.execInhnAsserted at_ order s
  | .inhnReleased at_ => Sys2Proof.Machine.execInhnReleased at_ s
  | .periodStart inputs order => Sys2Proof.Machine.execPeriodStart inputs order s
  | .angleLost c => Sys2Proof.Machine.execAngleLost c s
  | .calibrationComplete c => Sys2Proof.Machine.execCalibrationComplete c s
  | .computationComplete c => Sys2Proof.Machine.execComputationComplete c s
  | .legLevelChange c leg => Sys2Proof.Machine.execLegLevelChange c leg s
  | .deadTimeEnd c leg => Sys2Proof.Machine.execDeadTimeEnd c leg s
  | .busStateChange order => Sys2Proof.Machine.execBusStateChange order s
  | .rampdownEnd c => Sys2Proof.Machine.execRampdownEnd c s
  | .bankValidationComplete => Sys2Proof.Machine.execBankValidationComplete s
  | .bankSwitch => Sys2Proof.Machine.execBankSwitch s
  | .streamDiscardTimeout => Sys2Proof.Machine.execStreamDiscardTimeout s
  | .deadlineExpiry => Sys2Proof.Machine.execDeadlineExpiry s
  | .frameStart kind => Sys2Proof.Machine.execFrameStart kind s
  | .header h => Sys2Proof.Machine.execHeader h s
  | .summary => Sys2Proof.Machine.execSummary s
  | .consumeWord value => Sys2Proof.Machine.execConsumeWord value s
  | .produceWord => Sys2Proof.Machine.execProduceWord s
  | .endOfReception at_ rest => Sys2Proof.Machine.execEndOfReception at_ rest s
  | .traceArmedEntry => Sys2Proof.Machine.execTraceArmedEntry s
  | .segmentComplete => Sys2Proof.Machine.execSegmentComplete s
  | .unknown code body => Sys2Proof.Machine.execUnknown code body s
  | .nop body => Sys2Proof.Machine.execNop body s
  | .getStatus body => Sys2Proof.Machine.execGetStatus body s
  | .setCheck body => Sys2Proof.Machine.execSetCheck body s
  | .goOperational body => Sys2Proof.Machine.execGoOperational body s
  | .leaveOperational body => Sys2Proof.Machine.execLeaveOperational body s
  | .resetStation body => Sys2Proof.Machine.execResetStation body s
  | .setWindow body => Sys2Proof.Machine.execSetWindow body s
  | .writeStart body => Sys2Proof.Machine.execWriteStart body s
  | .writeContinue body => Sys2Proof.Machine.execWriteContinue body s
  | .readStart body => Sys2Proof.Machine.execReadStart body s
  | .readContinue body => Sys2Proof.Machine.execReadContinue body s
  | .stopStream body => Sys2Proof.Machine.execStopStream body s
  | .commitBank body => Sys2Proof.Machine.execCommitBank body s
  | .copyActiveToStaged body => Sys2Proof.Machine.execCopyActiveToStaged body s
  | .tagFirst body => Sys2Proof.Machine.execTagFirst body s
  | .tagLast body => Sys2Proof.Machine.execTagLast body s
  | .groupActionCalibrate body => Sys2Proof.Machine.execGroupActionCalibrate body s
  | .groupActionClearFault body => Sys2Proof.Machine.execGroupActionClearFault body s
  | .groupActionAckNotice body => Sys2Proof.Machine.execGroupActionAckNotice body s
  | .groupActionRampdown body => Sys2Proof.Machine.execGroupActionRampdown body s
  | .traceArm body => Sys2Proof.Machine.execTraceArm body s
  | .traceStop body => Sys2Proof.Machine.execTraceStop body s
  | .traceTrigger body => Sys2Proof.Machine.execTraceTrigger body s
  | .lineIdleAfterReset => Sys2Proof.Machine.execLineIdleAfterReset s
  | .trailerSent => Sys2Proof.Machine.execTrailerSent s

end Sys2Proof.Machine
end

