-- ==== Sys2Proof/Safety.lean ====
section
/-! DEFINITION. What counts as a safe state, in the terms the statements use: the switches, the channels'
contexts, the Trace Unit and the counters. -/

namespace Sys2Proof.Machine

open Sys2Proof

/-! ## Switches (R55 to R60) -/

/-- The two switches of a leg are not both on, and a leg without a commanded level has both off (R56,
R57). -/
def LegState.safe (x : LegState) : Bool :=
  !(x.highOn && x.lowOn) && (x.level.isSome || (!x.highOn && !x.lowOn))

/-- No leg of the channel has a commanded level. -/
def Gate.quiet (g : Gate) : Bool := g.legA.level.isNone && g.legB.level.isNone && g.legC.level.isNone

/-- The legs of a channel are safe; levels are commanded only with the output enable on and INHN released,
and a channel without its output enable holds no triple (R55, R56, R58, R60). -/
def Gate.safe (inhnLow : Bool) (g : Gate) : Bool :=
  g.legA.safe && g.legB.safe && g.legC.safe && (g.quiet || (g.enable && !inhnLow))
    && (g.enable || (g.pendingTriple.isNone && g.activeTriple.isNone))

/-- The output enable of a channel is on exactly in RUN, HOLD and RAMPDOWN (R55, R58, R59), its legs are
safe; while RESETN is asserted no output enable is on and no frame is being received (R62, R124). -/
def State.gatesSafe (s : State) : Bool :=
  (!s.resetLow || s.port.receiving.isNone)
    && allChans.all fun c =>
      (s.gate c).safe s.inhnLow && ((s.gate c).enable == drives (s.chan c).state)
        && (!s.resetLow || !(s.gate c).enable)

/-! ## Channel contexts -/

/-- Outside RUN, HOLD and RAMPDOWN the integrators and the last effective references are 0 (R3). -/
def Channel.restsAtZero (ch : Channel) : Bool :=
  drives ch.state || (ch.accD == 0 && ch.accQ == 0 && ch.lastRefD == 0 && ch.lastRefQ == 0)

/-- The notice flags stand opposite (R84), the integrators lie within their bound (R45), the channel rests at
zero outside RUN, HOLD and RAMPDOWN (R3), and the i2t level lies within I2T_LIM x 65536 (R67). -/
def Channel.sound (ch : Channel) : Bool :=
  (ch.noticeArmed == !ch.noticePending) && ch.restsAtZero && decide (ch.accD.natAbs ≤ 2147418112)
    && decide (ch.accQ.natAbs ≤ 2147418112) && decide (ch.i2t ≤ ch.record.i2tLim * 65536)

/-- Every channel's context is sound. -/
def State.channelsSound (s : State) : Bool := allChans.all fun c => (s.chan c).sound

/-! ## The Trace Unit -/

/-- PRE_COUNT lies below the capture length (R171). -/
def TraceCfg.sound (x : TraceCfg) : Bool := decide (x.preCount < captureLength x)

/-- The configurations are sound, the pointer lies within the segment, no valid count exceeds the capture
length (R173), and the memory has its canonical form. -/
def TraceUnit.sound (t : TraceUnit) : Bool :=
  t.cfg.sound && t.armedCfg.sound && decide (t.pointer < traceL t)
    && t.segs.toList.all (fun x => decide (x.valid ≤ traceL t)) && TraceMem.wf t.mem

/-! ## The link counters (R130) -/

/-- No link counter stands above 65,535. -/
def Counters.bounded (k : Counters) : Bool :=
  [k.frames, k.crcErrors, k.formatErrors, k.foreign, k.missed, k.late, k.early, k.short, k.service,
    k.checkFails].all fun n => decide (n ≤ 65535)

end Sys2Proof.Machine
end

