-- ==== Sys2Proof/WellFormed.lean ====
section
/-! DEFINITION. Which commands are well formed: operands that name the row they stand in. Every byte,
code and tick from outside is legal; only a record row can contradict its own name. -/

namespace Sys2Proof

open Sys2Proof.Machine

/-- The argument of a GROUP_ACTION row is the row's own, or one that names no action (R157). -/
def groupArgument (own : Nat) (b : RecordBody) : Bool := argumentOf b == own || decide (3 < argumentOf b)

/-- A command is well formed. -/
def Instr.wf (i : Instr) : Bool :=
  match i with
  | .unknown code _ => (commandOf code).isNone
  | .groupActionCalibrate b => groupArgument 0 b
  | .groupActionClearFault b => groupArgument 1 b
  | .groupActionAckNotice b => groupArgument 2 b
  | .groupActionRampdown b => groupArgument 3 b
  | .resetnAsserted _ | .resetnReleased _ _ | .inhnAsserted _ _ | .inhnReleased _ | .periodStart _ _
  | .angleLost _ | .calibrationComplete _ | .computationComplete _ | .legLevelChange _ _
  | .deadTimeEnd _ _ | .busStateChange _ | .rampdownEnd _ | .bankValidationComplete | .bankSwitch
  | .streamDiscardTimeout | .deadlineExpiry | .frameStart _ | .header _ | .summary | .consumeWord _
  | .produceWord | .endOfReception _ _ | .traceArmedEntry | .segmentComplete | .nop _ | .getStatus _
  | .setCheck _ | .goOperational _ | .leaveOperational _ | .resetStation _ | .setWindow _
  | .writeStart _ | .writeContinue _ | .readStart _ | .readContinue _ | .stopStream _ | .commitBank _
  | .copyActiveToStaged _ | .tagFirst _ | .tagLast _ | .traceArm _ | .traceStop _ | .traceTrigger _
  | .lineIdleAfterReset | .trailerSent => true

end Sys2Proof
end

