-- ==== Sys2Proof/Claims.lean ====
section
/-! DEFINITION. The terms in which the statements speak of commands, records, frames and period starts. -/

namespace Sys2Proof.Machine

open Sys2Proof

/-! ## Records -/

/-- The command code and the record that a record row brings, by the codes of R133; none for the rows that
are no record. -/
def rowRecord (i : Instr) : Option (Byte × RecordBody) :=
  match i with
  | .unknown code b => some (code, b)
  | .nop b => some (0x00, b)
  | .getStatus b => some (0x01, b)
  | .setCheck b => some (0x02, b)
  | .goOperational b => some (0x03, b)
  | .leaveOperational b => some (0x04, b)
  | .resetStation b => some (0x05, b)
  | .setWindow b => some (0x10, b)
  | .writeStart b => some (0x11, b)
  | .writeContinue b => some (0x12, b)
  | .readStart b => some (0x13, b)
  | .readContinue b => some (0x14, b)
  | .stopStream b => some (0x15, b)
  | .commitBank b => some (0x18, b)
  | .copyActiveToStaged b => some (0x19, b)
  | .tagFirst b => some (0x20, b)
  | .tagLast b => some (0x21, b)
  | .groupActionCalibrate b | .groupActionClearFault b | .groupActionAckNotice b
  | .groupActionRampdown b => some (0x22, b)
  | .traceArm b => some (0x30, b)
  | .traceStop b => some (0x31, b)
  | .traceTrigger b => some (0x32, b)
  | .resetnAsserted _ | .resetnReleased _ _ | .inhnAsserted _ _ | .inhnReleased _ | .periodStart _ _
  | .angleLost _ | .calibrationComplete _ | .computationComplete _ | .legLevelChange _ _
  | .deadTimeEnd _ _ | .busStateChange _ | .rampdownEnd _ | .bankValidationComplete | .bankSwitch
  | .streamDiscardTimeout | .deadlineExpiry | .frameStart _ | .header _ | .summary | .consumeWord _
  | .produceWord | .endOfReception _ _ | .traceArmedEntry | .segmentComplete | .lineIdleAfterReset
  | .trailerSent => none

/-- The record of the frame being received comes next (R131), and this station is to answer it (R153). -/
structure ForThisStation (s : State) (f : FrameCtx) (b : RecordBody) : Prop where
  receiving : s.port.receiving = some f
  due : nextPart f = .record
  station : b.station = s.address
  straps : 1 ≤ s.address.toNat ∧ s.address.toNat ≤ 254
  replier : b.replier = 0

/-- The same, for a record that passes steps 1 and 2 of R154: sound by its check byte or with check mode
off, and with a word count of at most 8. -/
structure TakenHere (s : State) (f : FrameCtx) (code : Byte) (b : RecordBody) : Prop extends
    ForThisStation s f b where
  check : s.service.checkMode = false ∨ byteSum (recordBytes code b) = 0
  words : b.wordCount.toNat ≤ 8

/-- SEQ_CLEARED while a tag is present (R162). -/
def seqFlag (s : State) : Byte := if tagsPresent s then 0x02 else 0

/-- The reply `out` to a record `b` (R132, R154): STATION, ARGUMENT unchanged; REPLIER, FLAGS (with STARTUP
in CONFIG) and WORD_COUNT written; the result buffer in the first words of DATA, the rest as received; a
check byte that makes the 26 bytes sum to 0. -/
structure IsReply (s : State) (f : FrameCtx) (code : Byte) (b : RecordBody) (flags : Byte)
    (out : RecordBody) : Prop where
  station : out.station = b.station
  argument : out.argument = b.argument
  replier : out.replier = s.address
  flags : out.flags = flags ||| (if f.phase = .config then 0x01 else 0)
  wordCount : out.wordCount = BitVec.ofNat 8 s.service.result.length
  data : ∀ k : Fin 8, out.data[k] = s.service.result.getD k.val b.data[k]
  check : byteSum (recordBytes code out) = 0

/-- The Service Unit after an open stream was closed with cause COMMAND (R169). -/
def streamClosed (u : ServiceUnit) : ServiceUnit :=
  if u.stream.isSome then { u with stream := none, closure := .command } else u

/-- Command `i` has the record taken: the frame's context takes its bytes, the record as it leaves (`out`)
and its command; the open stream is closed where `closes` says so; nothing else changes. -/
def RecordTaken (i : Instr) (s : State) (f : FrameCtx) (code : Byte) (b out : RecordBody)
    (taken : TakenRecord) (closes : Bool) : Prop :=
  exec i s = .next { s with
    port := { s.port with
      receiving := some { f with
        rx := f.rx ++ recordBytes code b
        crcIn := crcBytes f.crcIn (recordBytes code b)
        recordOut := some (recordBytes code out)
        taken := some taken } }
    service := if closes then streamClosed s.service else s.service }

/-- Command `i` has the record taken and answered with `flags`. -/
def TakesRecord (i : Instr) (s : State) (f : FrameCtx) (code : Byte) (b : RecordBody) (flags : Byte)
    (taken : TakenRecord) (closes : Bool) : Prop :=
  ∃ out, IsReply s f code b flags out ∧ RecordTaken i s f code b out taken closes

/-- An answered record, not answered CHECK_FAIL. -/
def answeredWith (cmd : PendCmd) (clears : Bool) : TakenRecord := ⟨true, false, cmd, clears⟩

/-- The record is taken like most: it closes an open stream, and clears the tags with SEQ_CLEARED where one
is present. -/
def TakesPlainly (i : Instr) (s : State) (f : FrameCtx) (code : Byte) (b : RecordBody) (flags : Byte)
    (cmd : PendCmd) : Prop :=
  TakesRecord i s f code b (flags ||| seqFlag s) (answeredWith cmd (tagsPresent s)) true

/-- The record comes next and is a broadcast that no station before has found corrupt (R153, R156). -/
structure BroadcastHere (s : State) (f : FrameCtx) (b : RecordBody) : Prop where
  receiving : s.port.receiving = some f
  due : nextPart f = .record
  station : b.station = 255
  clean : b.flags &&& 0x08 = 0

/-- Command `i` has a broadcast taken: `flags` and STARTUP are ORed into FLAGS, CHECK is formed anew, and
every other field leaves as received (R156). -/
def TakesBroadcast (i : Instr) (s : State) (f : FrameCtx) (code : Byte) (b : RecordBody) (flags : Byte)
    (taken : TakenRecord) (closes : Bool) : Prop :=
  ∃ check, byteSum (recordBytes code
        { b with flags := b.flags ||| flags ||| (if f.phase = .config then 0x01 else 0), check := check }) = 0 ∧
    RecordTaken i s f code b
      { b with flags := b.flags ||| flags ||| (if f.phase = .config then 0x01 else 0), check := check }
      taken closes

/-- A broadcast that passes steps 1 and 2 of R154. -/
structure BroadcastSound (s : State) (f : FrameCtx) (code : Byte) (b : RecordBody) : Prop extends
    BroadcastHere s f b where
  check : s.service.checkMode = false ∨ byteSum (recordBytes code b) = 0
  words : b.wordCount.toNat ≤ 8

/-- The station executes the broadcast: no refusing flag, an open stream closed, the tags cleared with
SEQ_CLEARED where one is present (R156, R162, R169). -/
def BroadcastExecuted (i : Instr) (s : State) (f : FrameCtx) (code : Byte) (b : RecordBody)
    (cmd : PendCmd) : Prop :=
  TakesBroadcast i s f code b (seqFlag s) ⟨false, false, cmd, tagsPresent s⟩ true

/-! ## The slot map and the pairs at GO_OPERATIONAL -/

/-- The slot word an entry resolves to (R135). -/
def resolves (s : State) (i : Fin 48) : Nat := s.station.winFirst + s.slotMap[i].offset

/-- A valid entry of lower index resolves to the same slot word. -/
def sharesWord (s : State) (i : Fin 48) : Prop :=
  ∃ j, j < i ∧ s.slotMap[j].valid = true ∧ resolves s j = resolves s i

/-- A valid consume entry of lower index names the same channel and item. -/
def sharesItem (s : State) (i : Fin 48) : Prop :=
  ∃ j, j < i ∧ s.slotMap[j].valid = true ∧ s.slotMap[j].produce = false ∧
    s.slotMap[j].channel = s.slotMap[i].channel ∧ s.slotMap[j].item = s.slotMap[i].item

/-- Entry `i` fails the validation with reason `r`, the first that applies to it (R138). -/
def EntryFails (s : State) (i : Fin 48) (r : Nat) : Prop :=
  let noItem := s.slotMap[i].produce = false ∧ 5 ≤ s.slotMap[i].item.val
  let outside := s.station.winLast < resolves s i
  let again := s.slotMap[i].produce = false ∧ sharesItem s i
  s.slotMap[i].valid = true ∧
    ((r = 1 ∧ noItem) ∨ (r = 2 ∧ ¬ noItem ∧ outside) ∨ (r = 3 ∧ ¬ noItem ∧ ¬ outside ∧ sharesWord s i) ∨
      (r = 4 ∧ ¬ noItem ∧ ¬ outside ∧ ¬ sharesWord s i ∧ again))

/-- The slot map passes the validation (R138). -/
def SlotMapSound (s : State) : Prop := ∀ i r, ¬ EntryFails s i r

/-- The roles of a pair position make a pair, or no pair (R105). -/
def RolesSound (s : State) (p : Fin 4) : Prop :=
  ((s.chan (evenOf p)).record.pairRole = .leader ∧ (s.chan (oddOf p)).record.pairRole = .follower) ∨
    ((s.chan (evenOf p)).record.pairRole = .none ∧ (s.chan (oddOf p)).record.pairRole = .none)

/-- Entry `i` is the first valid entry that resolves to slot word `w` (R139; R138 makes it the only one). -/
def NamesWord (s : State) (i : Fin 48) (w : Nat) : Prop :=
  s.slotMap[i].valid = true ∧ resolves s i = w ∧
    ∀ j, j < i → s.slotMap[j].valid = true → resolves s j ≠ w

/-! ## Tables -/

/-- The value a word written to a writable field leaves there, by the field's range: STATION (R51, R73,
R125, R135, R150, R165), CHANNEL (section 1.2, R2), SLOTMAP (R136), GAIN_STAGED (R87), SCHED_STAGED (R88),
COUNTERS (R130), TRACE_CFG (R171). None for the fields that are never writable. -/
def clampedWrite (s : State) (t : Table) (f : Nat) (x : Word) : Option Int :=
  let u (lo hi : Int) : Option Int := some (clamp lo hi x.toNat)
  let i : Option Int := some (clamp (-32767) 32767 x.toInt)
  match t, f with
  | .station, 5 => u 1250 12500
  | .station, 6 => u 0 255
  | .station, 7 => u 0 255
  | .station, 8 => u 1 16
  | .station, 9 => u 0 (min 65535 (s.station.cycleRatio * (2 * s.station.carrierH) / 2))
  | .station, 10 => u 1 15
  | .station, 11 => u 0 65535
  | .station, 12 => u 0 65535
  | .station, 13 => u 0 65535
  | .station, 14 => u 0 127
  | .station, 15 => u 0 127
  | .station, 16 => u 0 6
  | .station, 17 => u 0 63
  | .station, 18 => u 0 63
  | .station, 19 => u 0 1
  | .channel, 0 => u 1 32
  | .channel, 1 => u 0 65535
  | .channel, 2 => u 0 15
  | .channel, 3 => u 0 32767
  | .channel, 4 => u 0 32767
  | .channel, 5 => u 0 32767
  | .channel, 6 => u 0 32767
  | .channel, 7 => u 1 32767
  | .channel, 8 => u 0 2
  | .channel, 9 => u 0 65535
  | .channel, 10 => u 0 31
  | .channel, 11 => u 0 31
  | .channel, 12 => i
  | .channel, 13 => i
  | .channel, 14 => u 0 32768
  | .channel, 15 => i
  | .channel, 16 => u 0 63
  | .slotMap, 0 => u 0 1
  | .slotMap, 1 => u 0 127
  | .slotMap, 2 => u 0 1
  | .slotMap, 3 => u 0 7
  | .slotMap, 4 => u 0 6
  | .slotMap, 5 => u 0 7
  | .slotMap, 6 => u 0 1
  | .gainStaged, 0 => u 0 65535
  | .gainStaged, 1 => u 0 65535
  | .gainStaged, 2 => u 0 65535
  | .gainStaged, 3 => u 0 65535
  | .gainStaged, 4 => u 0 32767
  | .gainStaged, 5 => u 0 65535
  | .gainStaged, 6 => u 0 65535
  | .schedStaged, 0 => u 1 4
  | .schedStaged, 1 => u 0 65535
  | .schedStaged, 2 => u 0 65535
  | .schedStaged, 3 => u 0 65535
  | .schedStaged, 4 => u 0 65535
  | .schedStaged, 5 => u 0 15
  | .schedStaged, 6 => u 0 15
  | .schedStaged, 7 => u 0 15
  | .schedStaged, 8 => u 0 15
  | .counters, 0 => u 0 0
  | .counters, 1 => u 0 0
  | .counters, 2 => u 0 0
  | .counters, 3 => u 0 0
  | .counters, 4 => u 0 0
  | .counters, 5 => u 0 0
  | .counters, 6 => u 0 0
  | .counters, 7 => u 0 0
  | .counters, 8 => u 0 0
  | .counters, 9 => u 0 0
  | .traceCfg, 0 => u 0 7
  | .traceCfg, 1 => u 0 13
  | .traceCfg, 2 => u 0 7
  | .traceCfg, 3 => u 0 13
  | .traceCfg, 4 => u 0 7
  | .traceCfg, 5 => u 0 13
  | .traceCfg, 6 => u 0 7
  | .traceCfg, 7 => u 0 13
  | .traceCfg, 8 => u 1 256
  | .traceCfg, 9 => u 0 1
  | .traceCfg, 10 => u 0 (if s.trace.cfg.segmented then 1023 else 4095)
  | .traceCfg, 11 => u 0 3
  | .traceCfg, 12 => u 0 65535
  | .traceCfg, 13 => u 0 255
  | _, _ => none

/-- The position at which the k-th word of a record goes on from position `p` (R167, R168): at position N,
WRAP goes back to 0, and STOP stays beyond the window. -/
def streamPos (w : Window) (p k : Nat) : Nat := if w.wrap then (p + k) % windowLength w else p + k

/-! ## Frames at their end of reception -/

/-- Row `i` receives the part that comes next in frame `f`, whose bytes are `bytes`: the header, the service
record or a slot word (R118, R131, R139, R153). -/
def ReceivesPart (i : Instr) (f : FrameCtx) (bytes : List Byte) : Prop :=
  (∃ h, i = .header h ∧ nextPart f = .header ∧ bytes = headerBytes h) ∨
    (∃ code b, rowRecord i = some (code, b) ∧ i.wf = true ∧ nextPart f = .record ∧
      bytes = recordBytes code b) ∨
    ∃ x w, i = .consumeWord x ∧ nextPart f = .slot w ∧ bytes = wordBytes x

/-- The bytes left of frame `f` are no whole part: the trailer after its last part, any bytes of a FOREIGN
frame or after a format error found at the header, or a part that the frame's end cuts short (R118, R131). -/
def EndsWithin (f : FrameCtx) (rest : List Byte) : Prop :=
  nextPart f = .plain ∨ (nextPart f = .header ∧ rest.length < 5) ∨
    (nextPart f = .record ∧ rest.length < 26) ∨ ∃ w, nextPart f = .slot w ∧ rest.length < 2

/-- A CYCLE or SERVICE frame, all bytes received, of the length its header gives (R118). The bytes that an
END_OF_RECEPTION of its own brings are received as FramesOpenAreCheckedAndForeignOnesPass states. -/
structure WholeFrame (s : State) (f : FrameCtx) (h : Header) : Prop where
  receiving : s.port.receiving = some f
  settled : s.moment = none
  kind : f.kind ≠ .foreign
  header : f.header = some h
  noError : f.badHeader = false
  length : f.rx.length = 8 + (if h.servicePresent = 1 then 26 else 0) + 2 * h.slotCount.toNat

/-- Such a frame whose trailer, its last two bytes, equals the incoming CRC (R121). -/
structure GoodFrame (s : State) (f : FrameCtx) (h : Header) : Prop extends WholeFrame s f h where
  crc : bytesWord (f.rx.getD (f.rx.length - 2) 0) (f.rx.getD (f.rx.length - 1) 0) = f.crcIn

/-- A good SERVICE frame with an answered record whose command is `cmd`. -/
structure GoodService (s : State) (f : FrameCtx) (h : Header) (cmd : PendCmd) (clears : Bool) : Prop
    extends GoodFrame s f h where
  service : f.kind = .service
  taken : f.taken = some (answeredWith cmd clears)

/-- A good CYCLE frame processed in OPERATIONAL, without a service record. -/
structure GoodCycle (s : State) (f : FrameCtx) (h : Header) : Prop extends GoodFrame s f h where
  cycle : f.kind = .cycle
  phase : f.phase = .operational
  noRecord : f.taken = none

/-- The state at tick `at_` of a commit whose command has had no effect but its result (R155): the frame
waits for its trailer to be sent, FRAMES and SERVICE have risen, the tags are cleared where `clears` says
so, and the result buffer holds `result`. -/
def afterService (s : State) (f : FrameCtx) (at_ : Nat) (clears : Bool) (result : List Word) : State :=
  { s with
    now := max s.now at_
    port := { s.port with receiving := none, leaving := s.port.leaving ++ [{ f with verdict := .good }] }
    counters := { s.counters with frames := bump s.counters.frames, service := bump s.counters.service }
    service := { s.service with
      tagFirst := if clears then none else s.service.tagFirst
      tagLast := if clears then none else s.service.tagLast
      result := result } }

/-- The commit of a good SERVICE frame with command `cmd` leaves `after` of the plain commit state, for
every tick and every clearing of the tags. -/
def CommitsAs (s : State) (cmd : PendCmd) (result : List Word) (after : State → State) : Prop :=
  ∀ f h at_ clears, GoodService s f h cmd clears →
    exec (.endOfReception at_ []) s = .next (after (afterService s f at_ clears result))

/-- The commit of a broadcast with command `cmd` that came in a SERVICE frame, executed or not: the result
buffer stays, and CHECK_FAILS does not rise (R155, R156; log 13). -/
def BroadcastCommitsAs (s : State) (cmd : PendCmd) (after : State → State) : Prop :=
  ∀ f h at_ checkFail clears, GoodFrame s f h → f.kind = .service →
    f.taken = some ⟨false, checkFail, cmd, clears⟩ →
    exec (.endOfReception at_ []) s = .next (after (afterService s f at_ clears s.service.result))

/-! ## Period starts -/

/-- A period start at which no period-start work but its own is due, and no calibration takes its last
sample: outside pin reset, no instant in progress, no stream open, no commit busy, the bus state not about to
change, no rampdown run out. -/
structure CalmStart (s : State) : Prop where
  released : s.resetLow = false
  settled : s.moment = none
  stream : s.service.stream = none
  commit : s.commit.state ≠ .validating ∧ s.commit.state ≠ .switchPending
  bus : s.bus.count ≤ 2
  ramps : ∀ c, (s.chan c).state = .rampdown → (s.chan c).rampComplete = false
  calibrations : ∀ c, (s.chan c).state = .calibrate → (s.chan c).calCount < 63

/-- No capture runs but one that waits in ARMED for a manual trigger. -/
def CaptureWaits (s : State) : Prop :=
  s.trace.capture = .idle ∨ (s.trace.capture = .armed ∧ s.trace.armedCfg.source = 0)

/-- A calm period start within whose sample event nothing is due either: no capture runs but one that waits
in ARMED for a manual trigger, and every angle word is valid. -/
structure QuietStart (s : State) (x : SampleInputs) : Prop extends CalmStart s where
  capture : CaptureWaits s
  angles : ∀ c : Chan, (x.chans[c]).valid = true

/-- A channel's sample is overrange (R28). -/
def IsOverrange (x : SenseIn) : Prop :=
  x.aRaw.toInt = -32768 ∨ x.aRaw.toInt = 32767 ∨ x.bRaw.toInt = -32768 ∨ x.bRaw.toInt = 32767

/-- A channel's sample is overcurrent (R28): |ia|, |ib| or |ic| is greater than TRIP. -/
def IsOvercurrent (ch : Channel) (x : SenseIn) : Prop :=
  let ia := sat (x.aRaw.toInt - ch.offA)
  let ib := sat (x.bRaw.toInt - ch.offB)
  (ch.record.trip : Int) < |ia| ∨ (ch.record.trip : Int) < |ib| ∨ (ch.record.trip : Int) < |sat (-ia - ib)|

/-- A sample that would take the channel into FAULT for its currents (R70). -/
def HasFinding (ch : Channel) (x : SenseIn) : Prop :=
  drives ch.state = true ∧ (IsOverrange x ∨ IsOvercurrent ch x)

/-- `y` is `x` moved toward 0 by `step` (R11). -/
def StepsToZero (step : Nat) (x y : Int) : Prop :=
  (|x| ≤ step → y = 0) ∧ ((step : Int) < x → y = x - step) ∧ (x < -(step : Int) → y = x + step)

/-- What the reaction to its partner's FAULT entry makes of a channel, from `ch` to `ch'` (R10, R82,
R112). -/
def Reacted (ch ch' : Channel) : Prop :=
  (runOrHold ch.state = true → ch' = { ch with
    state := .rampdown, rampD := ch.lastRefD, rampQ := ch.lastRefQ, rampComplete := false,
    pendPartner := true }) ∧
  (ch.state = .rampdown → ch' = { ch with pendPartner := true }) ∧
  (ch.state = .fault → ch' = { ch with fault := { ch.fault with
    alsoSeen := ch.fault.alsoSeen ||| causeBit .partner
    laterCount := bumpTo 255 ch.fault.laterCount
    lastLater := some .partner } }) ∧
  ((ch.state = .off ∨ ch.state = .calibrate ∨ ch.state = .ready) → ch' = ch)

/-- Every switch of a channel is off and its output enable is off, with no triple left (R58, R59). -/
def SwitchedOff (g : Gate) : Prop :=
  g.enable = false ∧ g.pendingTriple = none ∧ g.activeTriple = none ∧
    ∀ l, (gateLeg g l).level = none ∧ (gateLeg g l).highOn = false ∧ (gateLeg g l).lowOn = false

/-- The rampdown of channel `c` has run out and ends at the instant whose work is `w` (R11, R59). -/
def RampEndDue (s : State) (w : InstantWork) (c : Chan) : Prop :=
  c ∈ w.rampEnds ∧ (s.chan c).state = .rampdown ∧ (s.chan c).rampComplete = true

/-- What a station-wide detection does to a channel, from `ch` to `ch'` (R75, R77): FAULT entry with the
cause as first cause when it drives, a later fault in FAULT, no change otherwise. -/
def TookDetection (cause : Cause) (ch ch' : Channel) (g' : Gate) : Prop :=
  (drives ch.state → ch'.state = .fault ∧ ch'.fault.firstCause = some cause ∧ SwitchedOff g') ∧
    (ch.state = .fault → ch'.state = .fault ∧ ch'.fault.firstCause = ch.fault.firstCause ∧
      causeIn cause ch'.fault.alsoSeen = true) ∧
    ((ch.state = .off ∨ ch.state = .calibrate ∨ ch.state = .ready) → ch' = ch)

/-! ## The computation of a sample event (chapter 2, sections 3.1, 4.1, 4.2 and 5.4) -/

/-- `y` is `x` clamped to the magnitude `m`. -/
def ClampedTo (m x y : Int) : Prop := (m < x → y = m) ∧ (x < -m → y = -m) ∧ (-m ≤ x → x ≤ m → y = x)

/-- The vector (`vd`, `vq`) is (`ud`, `uq`) cut to the magnitude `m`, the d axis first; the room of the q
axis is the floor square root of what the d axis leaves (R44, R65). -/
def CutTo (m ud uq vd vq : Int) : Prop :=
  ClampedTo m ud vd ∧ ∃ room : Int, 0 ≤ room ∧ room ^ 2 ≤ m ^ 2 - vd ^ 2 ∧ m ^ 2 - vd ^ 2 < (room + 1) ^ 2 ∧
    ClampedTo room uq vq

/-- The rising part of R91 takes band `b` to band `r` at speed magnitude `w`. -/
def BandRises (sch : Schedule) (w b r : Nat) : Prop :=
  b ≤ r ∧ (∀ j, b < j → j ≤ r → j < sch.used ∧ threshold sch j ≤ w) ∧
    (r + 1 < sch.used → w < threshold sch (r + 1))

/-- A computation takes band `b` to band `b'` (R91): the rising part, then the falling one. -/
def BandMoves (sch : Schedule) (w b b' : Nat) : Prop :=
  ∃ r, BandRises sch w b r ∧ b' ≤ r ∧ (∀ j, b' < j → j ≤ r → w < threshold sch j - sch.hy) ∧
    (0 < b' → threshold sch b' - sch.hy ≤ w)

/-- The references (`d`, `q`) of channel `c` by its state (R38, R107); `ch'` has taken its ramp step. -/
def CallsFor (s : State) (c : Chan) (ch' : Channel) (d q : Int) : Prop :=
  (runOrHold (s.chan c).state = true → d = (s.latch c).idRef ∧
    (pairedFollower s c = false → q = (s.latch c).iqRef) ∧
    (pairedFollower s c = true → q = sat (rshift 15 ((s.latch (partnerOf c)).iqRef * (s.chan c).record.share)
      + (s.latch c).yawCorr))) ∧
  ((s.chan c).state = .rampdown → d = ch'.rampD ∧ q = ch'.rampQ) ∧
  (drives (s.chan c).state = false → d = 0 ∧ q = 0)

/-- The current limit `l` of a channel (R64). -/
def IsCurrentLimit (ch : Channel) (ilimScale : Nat) (l : Int) : Prop :=
  ∃ peak, peak = rshift 15 ((ch.record.peak : Int) * min ilimScale 32768) ∧
    l = (if ch.foldback then min peak (ch.record.cont : Int) else peak)

/-- The unlimited output of an axis (R40, R41, R43): error `e`, accumulator `acc`, feed-forward `ff`. -/
def regulatorOut (kp : Nat) (e acc ff : Int) : Int :=
  sat (sat (rshift 12 (kp * e)) + sat (rshift 16 acc) + ff)

/-- The accumulator of a driving axis after the sample (R45): `u` is its unlimited, `v` its limited
output. -/
def accumulated (ki : Nat) (e u v acc : Int) : Int :=
  if u ≠ v ∧ ((0 < e ∧ 0 < u) ∨ (e < 0 ∧ u < 0)) then acc
  else clamp (-2147418112) 2147418112 (acc + ki * e)

/-- Steps 1 to 7 of the computation of channel `c` on its sample: `ch'` is the channel after its sample
event, `k` the computation that waits for its completion (R11, R28, R32, R33, R35, R37, R38, R64, R65,
R107). -/
structure TakesReferences (s : State) (x : SenseIn) (c : Chan) (ch' : Channel) (k : Computation) : Prop where
  state : ch'.state = (s.chan c).state ∧ k.results.state = (s.chan c).state
  currents : k.results.ia = sat (x.aRaw.toInt - (s.chan c).offA) ∧
    k.results.ib = sat (x.bRaw.toInt - (s.chan c).offB)
  angle : k.results.angle = (x.angle.toNat * (s.chan c).record.pp + (s.chan c).record.angOffs) % 65536 ∧
    ch'.prevAngle = k.results.angle ∧ ch'.invalidCount = 0
  speed : k.results.speed = (s.chan c).speed + rshift (s.chan c).record.spdFilt
      (sat (angleDiff k.results.angle (s.chan c).prevAngle) - (s.chan c).speed) ∧
    ch'.speed = k.results.speed
  rotor : ∃ be, be = sat (rshift 15 ((k.results.ia + 2 * k.results.ib) * 18919)) ∧
    k.results.id = sat (rshift 15 (k.results.ia * cosOf k.results.angle + be * sinOf k.results.angle)) ∧
    k.results.iq = sat (rshift 15 (be * cosOf k.results.angle - k.results.ia * sinOf k.results.angle))
  ramp : (s.chan c).state = .rampdown →
    StepsToZero (s.chan c).record.ramp (s.chan c).rampD ch'.rampD ∧
    StepsToZero (s.chan c).record.ramp (s.chan c).rampQ ch'.rampQ ∧
    (ch'.rampComplete = true ↔ ch'.rampD = 0 ∧ ch'.rampQ = 0)
  noRamp : (s.chan c).state ≠ .rampdown → ch'.rampD = (s.chan c).rampD ∧ ch'.rampQ = (s.chan c).rampQ ∧
    ch'.rampComplete = (s.chan c).rampComplete
  limited : ∃ d q l, CallsFor s c ch' d q ∧ IsCurrentLimit (s.chan c) (s.latch c).ilimScale l ∧
    CutTo l d q k.results.idRef k.results.iqRef ∧
    (k.currentLimited = true ↔ k.results.idRef ≠ d ∨ k.results.iqRef ≠ q)
  kept : if drives (s.chan c).state then
      ch'.lastRefD = k.results.idRef ∧ ch'.lastRefQ = k.results.iqRef
    else ch'.lastRefD = (s.chan c).lastRefD ∧ ch'.lastRefQ = (s.chan c).lastRefQ

/-- The voltages of a computation after the inverse Park transform and the bus compensation (R46, R47). -/
def compensatedVoltages (s : State) (vbus : Word) (k : Computation) : Int × Int :=
  let f : Int := if vbus = 0 then 65535 else clamp 16384 65535 ((s.station.vnom : Int) * 32768 / vbus.toNat)
  let sn := sinOf k.results.angle
  let cs := cosOf k.results.angle
  (sat (rshift 15 (sat (rshift 15 (k.results.vd * cs - k.results.vq * sn)) * f)),
    sat (rshift 15 (sat (rshift 15 (k.results.vd * sn + k.results.vq * cs)) * f)))

/-- The duty of a leg before its clamp (R52, R53). -/
def unclampedDuty (s : State) (vbus : Word) (k : Computation) (l : Leg) : Int :=
  let v := compensatedVoltages s vbus k
  16384 + rshift 15 ((phaseVoltage v.1 v.2 l + commonOffset v.1 v.2) * 18919)

/-- Steps 8 to 11: band, regulators, voltage vector and integrators (R39 to R45, R49, R53, R91). -/
structure TakesRegulators (s : State) (vbus : Word) (c : Chan) (ch' : Channel) (k : Computation) : Prop where
  band : BandMoves s.active.scheds[c] ch'.speed.natAbs (s.chan c).band ch'.band ∧ k.band = ch'.band
  voltage : ∀ g, g = s.active.gains[bandGain s.active.scheds[c] k.band] →
    ∃ eD eQ ffD ffQ uD uQ,
      eD = sat (k.results.idRef - k.results.id) ∧ eQ = sat (k.results.iqRef - k.results.iq) ∧
      ffD = sat (rshift 24 (-(ch'.speed * k.results.iq * g.decL))) ∧
      ffQ = sat (rshift 24 (ch'.speed * k.results.id * g.decL) + rshift 12 (ch'.speed * g.ke)) ∧
      uD = regulatorOut g.kpD eD (s.chan c).accD ffD ∧ uQ = regulatorOut g.kpQ eQ (s.chan c).accQ ffQ ∧
      CutTo (rshift 15 ((g.vlim : Int) * 32767)) uD uQ k.results.vd k.results.vq ∧
      (k.voltageLimited = true ↔ k.results.vd ≠ uD ∨ k.results.vq ≠ uQ ∨
        ∃ l, unclampedDuty s vbus k l < 0 ∨ 32768 < unclampedDuty s vbus k l) ∧
      (if drives (s.chan c).state then
        ch'.accD = accumulated g.kiD eD uD k.results.vd (s.chan c).accD ∧
          ch'.accQ = accumulated g.kiQ eQ uQ k.results.vq (s.chan c).accQ
      else ch'.accD = (s.chan c).accD ∧ ch'.accQ = (s.chan c).accQ)

/-- Steps 12 to 16: the compare values, by the minimum-pulse step (R53, R54), and the bus value. -/
structure TakesCompares (s : State) (vbus : Word) (k : Computation) : Prop where
  compares : ∀ l, ∃ n : Nat,
    (n : Int) = rshift 15 (clamp 0 32768 (unclampedDuty s vbus k l) * s.station.carrierH) ∧
      tripleLeg k.triple l = (if n < s.station.minp then 0
        else if s.station.carrierH - s.station.minp < n then s.station.carrierH else n)
  bus : k.results.vbus = vbus.toNat ∧ k.busNotNormal = decide (s.bus.state ≠ .normal)

/-- Step 17: the thermal model and the foldback it leads to (R67, R68). -/
structure TakesHeat (s : State) (c : Chan) (ch' : Channel) (k : Computation) : Prop where
  level : ∃ be, be = sat (rshift 15 ((k.results.ia + 2 * k.results.ib) * 18919)) ∧
    (ch'.i2t : Int) = clamp 0 ((s.chan c).record.i2tLim * 65536)
      ((s.chan c).i2t + rshift 15 (k.results.ia ^ 2 + be ^ 2) - rshift 15 ((s.chan c).record.cont ^ 2))
  results : k.results.i2t = ch'.i2t ∧ k.foldback = ch'.foldback
  foldback : ch'.foldback = true ↔ 0 < (s.chan c).record.i2tLim ∧
    (((s.chan c).foldback = false ∧ ch'.i2t = (s.chan c).record.i2tLim * 65536) ∨
      ((s.chan c).foldback = true ∧ (s.chan c).record.i2tLim * 57344 < ch'.i2t))

/-! ## Words and trailers as they leave -/

/-- Slot word `w` of frame `f` leaves as `out` (R119, R139, R148, R150): as received where no produce entry
names it or the frame came in CONFIG, and otherwise with the value of the entry's item from the last results
as they stand. -/
def WordLeavesAs (s : State) (f : FrameCtx) (w : Nat) (out : List Byte) : Prop :=
  (f.recordOut = none → (f.phase = .config ∨ ∀ i, NamesWord s i w → s.slotMap[i].produce = false) →
    out = [f.rx.getD f.tx.length 0, f.rx.getD (f.tx.length + 1) 0]) ∧
  ∀ i e r, NamesWord s i w → e = s.slotMap[i] → e.produce = true → f.phase = .operational →
    r = (s.chan e.channel).last →
    ∃ v, out = wordBytes v ∧
      (e.item.val = 0 → v = word (rshift e.shift r.iq)) ∧
      (e.item.val = 1 → v = word (rshift e.shift r.id)) ∧
      (e.item.val = 2 → v = r.status) ∧
      (e.item.val = 3 → v = word (rshift e.shift r.speed)) ∧
      (e.item.val = 4 → v = word (rshift e.shift (rshift 16 r.i2t))) ∧
      (e.item.val = 5 → v = word (rshift e.shift r.vbus)) ∧
      (e.item.val = 6 → v.toNat < 256 ∧ ∀ c : Chan,
        (v.getLsbD c.val = true ↔
          (s.station.matchCare.getLsbD 0 = true →
            (s.chan c).last.status.toNat % 8 = s.station.matchState) ∧
          (s.station.matchCare.getLsbD 1 = true →
            (s.chan c).last.status.getLsbD 4 = s.station.matchFlags.getLsbD 1) ∧
          (s.station.matchCare.getLsbD 2 = true →
            (s.chan c).last.status.getLsbD 5 = s.station.matchFlags.getLsbD 2) ∧
          (s.station.matchCare.getLsbD 3 = true →
            (s.chan c).last.status.getLsbD 6 = s.station.matchFlags.getLsbD 3) ∧
          (s.station.matchCare.getLsbD 4 = true →
            (s.chan c).last.status.getLsbD 7 = s.station.matchFlags.getLsbD 4) ∧
          (s.station.matchCare.getLsbD 5 = true →
            (s.chan c).last.status.getLsbD 15 = s.station.matchFlags.getLsbD 5)))

/-! ## Captures -/

/-- A trigger is taken (R174): POST, with the P records before the pointer as the segment's content. -/
def Triggered (u v : TraceUnit) : Prop :=
  ∃ o : Nat, (o : Int) = ((u.pointer : Int) - u.armedCfg.preCount) % (traceL u : Int) ∧
    v = { u with capture := .post, segs := u.segs.set u.seg ⟨u.armedCfg.preCount, o⟩ }

/-- Record `r` is written at the pointer and the segment's count and offset become `valid` and `oldest`
(R173); nothing else of the memory and of the configuration changes. -/
structure RecordWritten (u v : TraceUnit) (r : TraceRec) (valid : Nat) (oldest : Int) : Prop where
  written : traceRead v.mem ((if u.armedCfg.segmented then 1024 * u.seg.val else 0) + u.pointer) = r
  others : ∀ n, n ≠ (if u.armedCfg.segmented then 1024 * u.seg.val else 0) + u.pointer →
    traceRead v.mem n = traceRead u.mem n
  pointer : v.pointer = (u.pointer + 1) % traceL u
  valid : v.segs[v.seg].valid = valid
  oldest : (v.segs[v.seg].oldest : Int) = oldest
  segments : ∀ k : Fin 4, k ≠ u.seg → v.segs[k] = u.segs[k]
  period : v.period = (if u.armedCfg.decim ≤ 1 then 0 else 1)
  seg : v.seg = u.seg
  cfg : v.cfg = u.cfg ∧ v.armedCfg = u.armedCfg

/-! ## The station as a whole -/

/-- What holds between the phase, the pairs, the channels and the frame being received: in CONFIG no channel
drives and no pair is configured (R24, R106); the frame is processed in the phase the station holds (R116);
a GO_OPERATIONAL waits only in CONFIG (R158) and a LEAVE_OPERATIONAL only over channels at rest (R159); and
a paired follower is in RUN or HOLD only while its leader is (R110). -/
structure StationSound (s : State) : Prop where
  config : s.phase = .config → (∀ c, drives (s.chan c).state = false) ∧ ∀ p : Fin 4, s.pairs[p] = false
  phase : ∀ f, s.port.receiving = some f → f.phase = s.phase
  go : ∀ f r, s.port.receiving = some f → f.taken = some r → r.cmd = .goOperational → s.phase = .config
  leave : ∀ f r, s.port.receiving = some f → f.taken = some r → r.cmd = .leaveOperational →
    ∀ c, atRest (s.chan c).state = true
  pairs : ∀ p : Fin 4, s.pairs[p] = true → runOrHold (s.chan (oddOf p)).state = true →
    runOrHold (s.chan (evenOf p)).state = true

end Sys2Proof.Machine
end

