-- ==== Sys2Proof/Certificates/Slice0/Obligations.lean ====
section
/-! DEFINITION. The statements for the provers. -/

open Sys2Proof Sys2Proof.Machine

/-! ## The queue and the station as a whole -/

/-- The command at the front of the queue runs on the state with the queue's rest; on an empty queue the
block idles, which is the model's choice (log 4). -/
def Obligations.FrontCommandRunsWithTheRest : Prop :=
  (∀ (s : State) (c : Instr) (rest : List Instr), s.pending = c :: rest →
      step s = exec c { s with pending := rest }) ∧
    ∀ s : State, s.pending = [] → step s = .next s

/-- Every command answers a next state and none touches the queue. Both are the model's choice: a row that is
not due has no effect and completes (log 2), and the queue is the model's own (log 1). The phase (R116), the
reference latches (R143), the previous control words (R145), the configured flags of the pairs (R106) and the
slot map (R136) change only at an end of reception or a pin reset, and the straps only at the two edges of
RESETN (R124, R160). -/
def Obligations.PhaseStrapsAndLatchesChangeOnlyAtCommitsAndResets : Prop :=
  ∀ (i : Instr) (s : State), ∃ t, exec i s = .next t ∧ t.pending = s.pending ∧
    ((∀ at_ rest, i ≠ .endOfReception at_ rest) → (∀ at_, i ≠ .resetnAsserted at_) →
      t.phase = s.phase ∧ t.latches = s.latches ∧ t.prevControl = s.prevControl ∧ t.pairs = s.pairs ∧
        t.slotMap = s.slotMap) ∧
    ((∀ at_, i ≠ .resetnAsserted at_) → (∀ at_ straps, i ≠ .resetnReleased at_ straps) →
      t.address = s.address ∧ t.resetLow = s.resetLow)

/-! ## Resets and pins -/

/-- RESETN_ASSERTED (R23, R62, R76, R103, R106, R124, R126, R151, R160, R172): every part of the state takes
its reset value, every switch goes off, every frame is dropped. Time, the pin INHN, the words of the trace
memory, the record of what left on TXL and the model's own fields stay (log 5, 7, 8, 10). The last arrival and
the presented values, which the spec gives no reset value, read 0 after it (log 6). -/
def Obligations.PinResetLeavesResetValues : Prop :=
  ∀ (at_ : Nat) (s : State), ∃ t, exec (.resetnAsserted at_) s = .next t ∧
    (∀ c, SwitchedOff (t.gate c)) ∧
    t = { State.reset with
      now := max s.now at_
      inhnLow := s.inhnLow
      gates := t.gates
      port := { State.reset.port with lastSent := s.port.lastSent }
      trace := { State.reset.trace with mem := s.trace.mem }
      freeUsed := s.freeUsed
      pending := s.pending }

/-- The reset values the spec gives (R23, R62, R76, R84, R103, R106, R126, R130, R151, R160, R165, R171, R172
and the defaults of section 1.2): what the state after reset holds. -/
def Obligations.ResetHoldsTheValuesOfTheSpec : Prop :=
  (∀ c, State.reset.chan c =
      { state := .off, calibrated := false, offA := 0, offB := 0, calCount := 0, sumA := 0, sumB := 0,
        accD := 0, accQ := 0, lastRefD := 0, lastRefQ := 0, rampD := 0, rampQ := 0,
        rampComplete := false, pendRefLoss := false, pendPartner := false, enableRefused := false,
        clearRefused := false, band := 0, speed := 0, prevAngle := 0, invalidCount := 0, i2t := 0,
        foldback := false, noticeArmed := true, noticePending := false,
        last := { ia := 0, ib := 0, id := 0, iq := 0, idRef := 0, iqRef := 0, vd := 0, vq := 0, speed := 0,
                  angle := 0, vbus := 0, i2t := 0, state := .off, status := 0 },
        comp := none,
        record := { pp := 1, angOffs := 0, spdFilt := 4, trip := 32767, peak := 0, cont := 0, i2tLim := 0,
                    ramp := 100, pairRole := .none, share := 32768, subMask := 0, frzMask := 0,
                    subIqRef := 0, subIdRef := 0, subIlimScale := 32768, subYawCorr := 0,
                    subControl := 0 },
        fault := { firstCause := none, stamp := 0, tripState := .off, tripIa := 0, tripIb := 0,
                   tripVbus := 0, alsoSeen := 0, laterCount := 0, lastLater := none, totalCount := 0,
                   holdCount := 0 } } ∧
      SwitchedOff (State.reset.gate c)) ∧
    State.reset.phase = .config ∧
    State.reset.station =
      { carrierH := 3125, deadTime := 100, minp := 50, cycleRatio := 4, cycleTol := 1000, missLimit := 3,
        underLim := 0, overLim := 65535, vnom := 32768, winFirst := 0, winLast := 127, matchState := 0,
        matchFlags := 0, matchCare := 0, discardShort := false } ∧
    State.reset.bus = { state := .normal, candidate := .normal, count := 0, last := 0 } ∧
    (∀ g : Fin 16, State.reset.active.gains[g] =
        { kpD := 0, kiD := 0, kpQ := 0, kiQ := 0, vlim := 31130, decL := 0, ke := 0 } ∧
      State.reset.staged.gains[g] = State.reset.active.gains[g]) ∧
    (∀ c : Chan, State.reset.active.scheds[c] =
        { used := 1, t1 := 0, t2 := 0, t3 := 0, hy := 0, g0 := 0, g1 := 0, g2 := 0, g3 := 0 } ∧
      State.reset.staged.scheds[c] = State.reset.active.scheds[c]) ∧
    State.reset.commit.state = .idle ∧ State.reset.commit.rejChannel = 0 ∧ State.reset.commit.reason = 0 ∧
    (∀ p : Fin 4, State.reset.pairs[p] = false) ∧
    State.reset.timer.running = false ∧ State.reset.timer.deadline = none ∧
    State.reset.timer.missCount = 0 ∧ State.reset.timer.missed = false ∧ State.reset.timer.stamp = 0 ∧
    State.reset.counters =
      { frames := 0, crcErrors := 0, formatErrors := 0, foreign := 0, missed := 0, late := 0, early := 0,
        short := 0, service := 0, checkFails := 0 } ∧
    (∀ n : Fin 48, State.reset.slotMap[n] =
      { valid := false, offset := 0, produce := false, channel := 0, item := 0, shift := 0,
        increment := false }) ∧
    (∀ c, State.reset.latch c = { iqRef := 0, idRef := 0, ilimScale := 0, yawCorr := 0, control := 0 } ∧
      State.reset.prevCtrl c = 0) ∧
    State.reset.service.checkMode = false ∧ State.reset.service.tagFirst = none ∧
    State.reset.service.tagLast = none ∧ State.reset.service.window = none ∧
    State.reset.service.stream = none ∧ State.reset.service.closure = .none ∧
    State.reset.service.total = 0 ∧ State.reset.service.result = [] ∧
    State.reset.trace.cfg =
      { sel0Ch := 0, sel0Q := 13, sel1Ch := 0, sel1Q := 13, sel2Ch := 0, sel2Q := 13, sel3Ch := 0,
        sel3Q := 13, decim := 1, segmented := false, preCount := 0, source := 0, threshold := 0,
        sourceArg := 0 } ∧
    State.reset.trace.armedCfg = State.reset.trace.cfg ∧ State.reset.trace.capture = .idle ∧
    State.reset.trace.seg = 0 ∧ State.reset.trace.pointer = 0 ∧ State.reset.trace.period = 0 ∧
    (∀ k : Fin 4, State.reset.trace.segs[k] = { valid := 0, oldest := 0 }) ∧
    State.reset.port.receiving = none ∧ State.reset.port.leaving = []

/-- RESETN_RELEASED (R50, R124, R160): the straps become the station address and the first period start is
due at the release. No frame is opened until LINE_IDLE_AFTER_RESET has found the line idle. -/
def Obligations.ReleaseSamplesStrapsAndWaitsForIdleLine : Prop :=
  (∀ (at_ : Nat) (straps : Byte) (s : State), s.resetLow = true →
      exec (.resetnReleased at_ straps) s = .next { s with
        now := max s.now at_
        resetLow := false
        address := straps
        carrier := { s.carrier with periodAt := max s.now at_, nextPeriod := max s.now at_ }
        port := { s.port with waiting := true } }) ∧
    (∀ (kind : Byte) (s : State), s.port.waiting = true → exec (.frameStart kind) s = .next s) ∧
    ∀ s : State, s.resetLow = false →
      exec .lineIdleAfterReset s = .next { s with port := { s.port with waiting := false } }

/-- INHN_ASSERTED (R60, R77): every switch of the station goes off and INHIBIT is detected in every channel;
while the input stays asserted nothing is detected again. INHN_RELEASED detects nothing. -/
def Obligations.InhibitFaultsEveryDrivingChannel : Prop :=
  (∀ (at_ : Nat) (orders : PairOrders) (s : State), s.inhnLow = false → s.moment = none →
      ∃ t, exec (.inhnAsserted at_ orders) s = .next t ∧
        t = { s with now := max s.now at_, inhnLow := true, channels := t.channels, gates := t.gates,
                     trace := t.trace } ∧
        (∀ c l, (gateLeg (t.gate c) l).highOn = false ∧ (gateLeg (t.gate c) l).lowOn = false) ∧
        ∀ c, TookDetection .inhibit (s.chan c) (t.chan c) (t.gate c)) ∧
    (∀ (at_ : Nat) (orders : PairOrders) (s : State), s.inhnLow = true →
      exec (.inhnAsserted at_ orders) s = .next s) ∧
    ∀ (at_ : Nat) (s : State), s.inhnLow = true → s.moment = none →
      ∃ t, exec (.inhnReleased at_) s = .next t ∧
        t = { s with now := max s.now at_, inhnLow := false, gates := t.gates }

/-! ## The period start -/

/-- PERIOD_START (R50, R51, R73, R74): the period begins where the last one ended, 2 x CARRIER_H ticks long,
with the settings of the STATION table in force; the presented values are taken; the bus value is classified
and the debounce record moves. While RESETN is asserted there is no period start. -/
def Obligations.PeriodStartMovesCarrierAndDebounce : Prop :=
  (∀ (x : SampleInputs) (o : SampleOrder) (s : State), s.resetLow = false →
      ∃ t, exec (.periodStart x o) s = .next t ∧
        t.carrier = { periodAt := s.carrier.nextPeriod,
                      nextPeriod := s.carrier.nextPeriod + 2 * s.station.carrierH,
                      h := s.station.carrierH, deadTime := s.station.deadTime,
                      minp := s.station.minp } ∧
        t.now = max s.now s.carrier.nextPeriod ∧ t.sense = x.chans ∧ t.bus.last = x.vbus.toNat ∧
        t.station = s.station ∧ t.port = s.port ∧ t.slotMap = s.slotMap ∧ t.timer = s.timer ∧
        t.counters = s.counters ∧ t.staged = s.staged) ∧
    (∀ (x : SampleInputs) (o : SampleOrder) (s : State), s.resetLow = false → s.moment = none →
      ∃ t k, exec (.periodStart x o) s = .next t ∧
        k = (if x.vbus.toNat < s.station.underLim then BusClass.under
             else if s.station.overLim < x.vbus.toNat then .over else .normal) ∧
        t.bus.state = s.bus.state ∧
        (k = s.bus.state → t.bus.count = 0 ∧ t.bus.candidate = s.bus.candidate) ∧
        (k ≠ s.bus.state → k = s.bus.candidate →
          t.bus.count = s.bus.count + 1 ∧ t.bus.candidate = k) ∧
        (k ≠ s.bus.state → k ≠ s.bus.candidate → t.bus.count = 1 ∧ t.bus.candidate = k)) ∧
    ∀ (x : SampleInputs) (o : SampleOrder) (s : State), s.resetLow = true →
      exec (.periodStart x o) s = .next s

/-- BUS_STATE_CHANGE (R74, R75, R114): in the period-start instant whose bus value has made the count 4, the
bus state takes the candidate class with the count at 0, and BUS_UNDER or BUS_OVER is detected in every
channel. With other period-start work still due the instant waits for it; with none, the sample event has gone
on (R25). At a due rampdown end either may come first (R80): with the bus entry first the channel enters FAULT
with the detected cause first and its pending causes also seen (R16, R81); with the rampdown end first it enters
READY, where nothing is detected, or FAULT with its pending cause first and the detected one also seen. A
partner's reaction may come before both: PARTNER is then first (R114). -/
def Obligations.BusStateChangeIsDetectedInEveryChannel : Prop :=
  (∀ (orders : PairOrders) (s : State) (w : InstantWork), s.moment = some w → 4 ≤ s.bus.count →
      (∀ p odd, PairEvent.rampEnd odd ∈ orders[p] →
        ¬ RampEndDue s w (if odd then oddOf p else evenOf p)) →
      (s.trace.capture = .idle ∨ s.trace.capture = .done) →
      ∃ t, exec (.busStateChange orders) s = .next t ∧
        t = { s with bus := { s.bus with state := s.bus.candidate, count := 0 }, channels := t.channels,
                     gates := t.gates, trace := t.trace, moment := t.moment } ∧
        (∀ cause, (s.bus.candidate = .under ∧ cause = .busUnder) ∨
            (s.bus.candidate = .over ∧ cause = .busOver) → ∀ c,
          (drives (s.chan c).state = true → (t.chan c).state = .fault ∧
            (t.chan c).fault.firstCause = some cause ∧
            (t.chan c).fault.totalCount = bump (s.chan c).fault.totalCount ∧ SwitchedOff (t.gate c) ∧
            causeIn .refLoss (t.chan c).fault.alsoSeen = (s.chan c).pendRefLoss ∧
            ((s.chan c).pendPartner = true → causeIn .partner (t.chan c).fault.alsoSeen = true) ∧
            ((s.chan c).state = .rampdown → (t.chan c).fault.tripState = .rampdown)) ∧
          ((s.chan c).state = .fault → (t.chan c).state = .fault ∧
            (t.chan c).fault.firstCause = (s.chan c).fault.firstCause ∧
            causeIn cause (t.chan c).fault.alsoSeen = true) ∧
          ((s.chan c).state = .off ∨ (s.chan c).state = .calibrate ∨ (s.chan c).state = .ready →
            (t.chan c).state = (s.chan c).state ∧ (t.chan c).fault = (s.chan c).fault)) ∧
        ((w.timeoutDue = true ∨ w.validationDue = true ∨ w.switchDue = true ∨
            (s.bus.candidate = .normal ∧ ∃ c, RampEndDue s w c)) →
          t.moment = s.moment ∧ t.trace = s.trace ∧
          (∀ c, (s.chan c).state = .off ∨ (s.chan c).state = .calibrate ∨ (s.chan c).state = .ready →
            t.chan c = s.chan c) ∧
          (s.bus.candidate = .normal → t.channels = s.channels ∧ t.gates = s.gates)) ∧
        (w.timeoutDue = false → w.validationDue = false → w.switchDue = false → w.angleDue = none →
          (s.bus.candidate = .normal → ∀ c, ¬ RampEndDue s w c) →
          (∀ c, ¬ ((s.chan c).state = .calibrate ∧ (s.chan c).calCount = 64)) →
          t.moment = none ∨ ∃ v, t.moment = some v ∧ v.begun = true)) ∧
    (∀ (orders : PairOrders) (s : State) (w : InstantWork) (p : Fin 4) (odd : Bool) (rest : PairOrder)
        (cause : Cause) (e : Chan), s.moment = some w → 4 ≤ s.bus.count →
      (s.bus.candidate = .under ∧ cause = .busUnder) ∨ (s.bus.candidate = .over ∧ cause = .busOver) →
      e = (if odd then oddOf p else evenOf p) → RampEndDue s w e → orders[p] = .rampEnd odd :: rest →
      ∃ t, exec (.busStateChange orders) s = .next t ∧ SwitchedOff (t.gate e) ∧
        ((s.chan e).pendRefLoss = false → (s.chan e).pendPartner = false →
          (t.chan e).state = .ready ∧ (t.chan e).fault = (s.chan e).fault) ∧
        ((s.chan e).pendRefLoss = true ∨ (s.chan e).pendPartner = true →
          (t.chan e).state = .fault ∧
          (t.chan e).fault.firstCause =
            some (if (s.chan e).pendRefLoss then .refLoss else .partner) ∧
          causeIn cause (t.chan e).fault.alsoSeen = true ∧
          (t.chan e).fault.totalCount = bump (s.chan e).fault.totalCount)) ∧
    ∀ (orders : PairOrders) (s : State) (w : InstantWork) (p : Fin 4) (odd : Bool) (cause : Cause) (d e : Chan),
      s.moment = some w → 4 ≤ s.bus.count → s.pairs[p] = true →
      (s.bus.candidate = .under ∧ cause = .busUnder) ∨ (s.bus.candidate = .over ∧ cause = .busOver) →
      (d, e) = (if odd then (oddOf p, evenOf p) else (evenOf p, oddOf p)) →
      drives (s.chan d).state = true → RampEndDue s w e → (s.chan e).pendRefLoss = false → (s.chan e).pendPartner = false →
      orders[p] = [.detect odd, .react !odd, .rampEnd !odd, .detect !odd] →
      ∃ t, exec (.busStateChange orders) s = .next t ∧
        (t.chan d).state = .fault ∧ (t.chan d).fault.firstCause = some cause ∧
        causeIn .partner (t.chan d).fault.alsoSeen = true ∧ SwitchedOff (t.gate d) ∧
        (t.chan e).state = .fault ∧ (t.chan e).fault.firstCause = some .partner ∧
        causeIn cause (t.chan e).fault.alsoSeen = true ∧ SwitchedOff (t.gate e)

/-- At a period start a pending triple becomes the active triple of a channel whose output enable is on
(R55), and every leg takes the level of position 0 of the period (R56), unless the sample event of that
instant takes the channel into FAULT (R58). -/
def Obligations.PendingTripleBecomesActive : Prop :=
  ∀ (x : SampleInputs) (o : SampleOrder) (s : State) (c : Chan) (tr : Triple),
    s.resetLow = false → s.moment = none → s.inhnLow = false → s.now ≤ s.carrier.nextPeriod →
    (s.chan c).comp = none → (s.gate c).enable = true → (s.gate c).pendingTriple = some tr →
    ∃ t, exec (.periodStart x o) s = .next t ∧
      ((t.chan c).state = .fault ∨
        ((t.gate c).activeTriple = some tr ∧ (t.gate c).pendingTriple = none ∧
          (t.gate c).enable = true ∧
          ∀ l, (gateLeg (t.gate c) l).level =
            some (if s.station.carrierH ≤ tripleLeg tr l ∧ 0 < s.station.carrierH + tripleLeg tr l then
                    Level.high else .low)))

/-- The sample event of a channel in OFF, CALIBRATE, READY or FAULT (R3, R28, R30, R32, R33, R35, R37): the
computation reads the sample with the stored offsets, the context takes its new angle, speed and sums, and
integrators, last effective references and state stay; its compare values will not be handed on. -/
def Obligations.RestingChannelSamples : Prop :=
  ∀ (x : SampleInputs) (o : SampleOrder) (s : State) (c : Chan), QuietStart s x →
    drives (s.chan c).state = false →
    ∃ t k, exec (.periodStart x o) s = .next t ∧ (t.chan c).comp = some k ∧ k.handOn = false ∧
      (t.chan c).state = (s.chan c).state ∧
      (t.chan c).accD = (s.chan c).accD ∧ (t.chan c).accQ = (s.chan c).accQ ∧
      (t.chan c).lastRefD = (s.chan c).lastRefD ∧ (t.chan c).lastRefQ = (s.chan c).lastRefQ ∧
      k.results.state = (s.chan c).state ∧
      k.results.ia = sat ((x.chans[c]).aRaw.toInt - (s.chan c).offA) ∧
      k.results.ib = sat ((x.chans[c]).bRaw.toInt - (s.chan c).offB) ∧
      (t.chan c).prevAngle =
        ((x.chans[c]).angle.toNat * (s.chan c).record.pp + (s.chan c).record.angOffs) % 65536 ∧
      k.results.angle = (t.chan c).prevAngle ∧ (t.chan c).invalidCount = 0 ∧
      (t.chan c).speed = (s.chan c).speed +
        rshift (s.chan c).record.spdFilt
          (sat (angleDiff (t.chan c).prevAngle (s.chan c).prevAngle) - (s.chan c).speed) ∧
      k.results.speed = (t.chan c).speed ∧ k.results.vbus = x.vbus.toNat ∧
      (∃ be, be = sat (rshift 15 ((k.results.ia + 2 * k.results.ib) * 18919)) ∧
        k.results.id = sat (rshift 15 (k.results.ia * cosOf k.results.angle + be * sinOf k.results.angle)) ∧
        k.results.iq = sat (rshift 15 (be * cosOf k.results.angle - k.results.ia * sinOf k.results.angle))) ∧
      ((s.chan c).state = .calibrate →
        (t.chan c).calCount = (s.chan c).calCount + 1 ∧
        (t.chan c).sumA = (s.chan c).sumA + (x.chans[c]).aRaw.toInt ∧
        (t.chan c).sumB = (s.chan c).sumB + (x.chans[c]).bRaw.toInt) ∧
      ((s.chan c).state ≠ .calibrate →
        (t.chan c).calCount = (s.chan c).calCount ∧ (t.chan c).sumA = (s.chan c).sumA ∧
        (t.chan c).sumB = (s.chan c).sumB)

/-- The computation of a sample event, driving or not, in a channel that neither it nor its partner takes into
FAULT: its references by state and the follower's derivation (R11, R38, R107), the current limit chain (R64,
R65), band and gain set (R39, R91), the regulators (R40, R41, R42, R43), the voltage vector and the integrators
(R44, R45), the compare values (R46, R47, R52, R53, R54), the thermal model and its foldback (R67, R68), and
whether the compare values may be handed on (R25). Over every channel: the voltage vector lies within its limit
(R44), and every compare value is 0, H, or between MINP and H - MINP (R54). -/
def Obligations.ComputedVectorsAndComparesKeepTheirLimits : Prop :=
  (∀ (x : SampleInputs) (o : SampleOrder) (s : State) (c : Chan), QuietStart s x →
    (s.chan c).record.peak ≤ 32767 → (s.chan c).band ≤ 3 → (s.active.scheds[c]).used ≤ 4 →
    (∀ g : Fin 16, s.active.gains[g].vlim ≤ 32767) →
    (∀ d : Chan, d = c ∨ (paired s c = true ∧ d = partnerOf c) → ¬ HasFinding (s.chan d) x.chans[d]) →
    ∃ t k, exec (.periodStart x o) s = .next t ∧ (t.chan c).comp = some k ∧
      TakesReferences s x.chans[c] c (t.chan c) k ∧ TakesRegulators s x.vbus c (t.chan c) k ∧
      TakesCompares s x.vbus k ∧ TakesHeat s c (t.chan c) k ∧
      k.handOn = (drives (s.chan c).state && !(t.chan c).rampComplete)) ∧
  ∀ (x : SampleInputs) (o : SampleOrder) (s : State), QuietStart s x →
    (∀ g : Fin 16, s.active.gains[g].vlim ≤ 32767) → 2 * s.station.minp ≤ s.station.carrierH →
    ∃ t, exec (.periodStart x o) s = .next t ∧ ∀ c, ∃ k vmax, (t.chan c).comp = some k ∧
      vmax = rshift 15 ((s.active.gains[bandGain s.active.scheds[c] k.band].vlim : Int) * 32767) ∧
      |k.results.vd| ≤ vmax ∧ k.results.vd ^ 2 + k.results.vq ^ 2 ≤ vmax ^ 2 ∧ vmax ≤ 32767 ∧
      ∀ l, tripleLeg k.triple l = 0 ∨ tripleLeg k.triple l = s.station.carrierH ∨
        (s.station.minp ≤ tripleLeg k.triple l ∧
          tripleLeg k.triple l ≤ s.station.carrierH - s.station.minp)

/-- An overrange or overcurrent finding in RUN, HOLD or RAMPDOWN takes the channel into FAULT at the sample
event (R16, R58, R70, R72, R81): OVERRANGE before OVERCURRENT before ANGLE_LOST, the others in the also-seen
set with the pending causes, the currents and the bus value of that sample in the record. The partner of a
paired channel reacts before or after its own sample, as the sample order says (R10, R112, R113). -/
def Obligations.CurrentFindingsTakeADrivingChannelIntoFault : Prop :=
  (∀ (x : SampleInputs) (o : SampleOrder) (s : State) (c : Chan), QuietStart s x →
    HasFinding (s.chan c) x.chans[c] →
    (paired s c = true → ¬ HasFinding (s.chan (partnerOf c)) x.chans[partnerOf c]) →
    ∃ t, exec (.periodStart x o) s = .next t ∧ (t.chan c).state = .fault ∧ SwitchedOff (t.gate c) ∧
      (t.chan c).accD = 0 ∧ (t.chan c).accQ = 0 ∧ (t.chan c).lastRefD = 0 ∧ (t.chan c).lastRefQ = 0 ∧
      (IsOverrange x.chans[c] → (t.chan c).fault.firstCause = some .overrange ∧
        (IsOvercurrent (s.chan c) x.chans[c] ↔
          causeIn .overcurrent (t.chan c).fault.alsoSeen = true)) ∧
      (¬ IsOverrange x.chans[c] → (t.chan c).fault.firstCause = some .overcurrent) ∧
      (causeIn .refLoss (t.chan c).fault.alsoSeen = (s.chan c).pendRefLoss) ∧
      (causeIn .partner (t.chan c).fault.alsoSeen = (s.chan c).pendPartner) ∧
      (t.chan c).fault.tripState = (s.chan c).state ∧
      (t.chan c).fault.tripIa = sat ((x.chans[c]).aRaw.toInt - (s.chan c).offA) ∧
      (t.chan c).fault.tripIb = sat ((x.chans[c]).bRaw.toInt - (s.chan c).offB) ∧
      (t.chan c).fault.tripVbus = x.vbus.toNat ∧ (t.chan c).fault.stamp = s.timer.stamp ∧
      (t.chan c).fault.totalCount = bump (s.chan c).fault.totalCount ∧
      (t.chan c).fault.laterCount = (s.chan c).fault.laterCount) ∧
  (∀ (x : SampleInputs) (o : SampleOrder) (s : State) (c q : Chan), QuietStart s x →
    HasFinding (s.chan c) x.chans[c] → paired s c = true → q = partnerOf c →
    ¬ HasFinding (s.chan q) x.chans[q] →
    ∃ t k, exec (.periodStart x o) s = .next t ∧ (t.chan q).comp = some k ∧
      ((s.chan q).state = .run ∨ (s.chan q).state = .hold →
        (t.chan q).state = .rampdown ∧ (t.chan q).pendPartner = true ∧
        (t.chan q).pendRefLoss = (s.chan q).pendRefLoss ∧ (t.gate q).enable = (s.gate q).enable ∧
        ((q.val % 2 = 1 ↔ o.oddFirst.getLsbD (pairOf c).val = true) →
          k.results.state = (s.chan q).state ∧ (t.chan q).rampD = (t.chan q).lastRefD ∧
          (t.chan q).rampQ = (t.chan q).lastRefQ ∧ (t.chan q).rampComplete = false) ∧
        (¬ (q.val % 2 = 1 ↔ o.oddFirst.getLsbD (pairOf c).val = true) →
          k.results.state = .rampdown ∧
          StepsToZero (s.chan q).record.ramp (s.chan q).lastRefD (t.chan q).rampD ∧
          StepsToZero (s.chan q).record.ramp (s.chan q).lastRefQ (t.chan q).rampQ ∧
          ((t.chan q).rampComplete = true ↔ (t.chan q).rampD = 0 ∧ (t.chan q).rampQ = 0))) ∧
      ((s.chan q).state = .rampdown →
        (t.chan q).state = .rampdown ∧ (t.chan q).pendPartner = true ∧
        (t.chan q).pendRefLoss = (s.chan q).pendRefLoss ∧
        StepsToZero (s.chan q).record.ramp (s.chan q).rampD (t.chan q).rampD ∧
        StepsToZero (s.chan q).record.ramp (s.chan q).rampQ (t.chan q).rampQ) ∧
      ((s.chan q).state = .fault → (t.chan q).state = .fault ∧
        (t.chan q).fault = { (s.chan q).fault with
          alsoSeen := (s.chan q).fault.alsoSeen ||| causeBit .partner
          laterCount := bumpTo 255 (s.chan q).fault.laterCount
          lastLater := some .partner }) ∧
      ((s.chan q).state = .off ∨ (s.chan q).state = .calibrate ∨ (s.chan q).state = .ready →
        (t.chan q).state = (s.chan q).state ∧ (t.chan q).fault = (s.chan q).fault)) ∧
  ∀ (x : SampleInputs) (o : SampleOrder) (s : State) (c : Chan), CalmStart s → CaptureWaits s →
    HasFinding (s.chan c) x.chans[c] → paired s c = false → (x.chans[c]).valid = false →
    (s.chan c).invalidCount = 2 →
    (∀ d : Chan, d ≠ c → (x.chans[d]).valid = true ∨ (s.chan d).invalidCount ≠ 2) →
    ∃ t, exec (.periodStart x o) s = .next t ∧ (t.chan c).state = .fault ∧
      (t.chan c).fault.firstCause =
        some (if x.chans[c].aRaw.toInt = -32768 ∨ x.chans[c].aRaw.toInt = 32767 ∨
          x.chans[c].bRaw.toInt = -32768 ∨ x.chans[c].bRaw.toInt = 32767 then .overrange
          else .overcurrent) ∧
      causeIn .angleLost (t.chan c).fault.alsoSeen = true

/-! ## What falls due at a period start or a sample event -/

/-- ANGLE_LOST (R16, R71, R82): the channel whose count has reached 3 enters FAULT when it drives, takes a
later fault in FAULT, and keeps its state otherwise; the partner of a paired channel that enters FAULT reacts
(R112). At a sample with an invalid angle word the angle is extrapolated, the speed is held and the count rises
(R34); a count that reaches 3 makes ANGLE_LOST due in a channel that drives or is in FAULT (R71). -/
def Obligations.AngleLossIsTakenByTheChannelsState : Prop :=
  (∀ (s : State) (c : Chan) (w : InstantWork), s.moment = some w → w.angleDue = some c →
    paired s c = false →
    ∃ t, exec (.angleLost c) s = .next t ∧
      (drives (s.chan c).state = true →
        (t.chan c).state = .fault ∧ (t.chan c).fault.firstCause = some .angleLost ∧
        (t.chan c).fault.tripState = (s.chan c).state ∧ SwitchedOff (t.gate c)) ∧
      ((s.chan c).state = .fault →
        (t.chan c).state = .fault ∧ (t.chan c).fault.firstCause = (s.chan c).fault.firstCause ∧
        causeIn .angleLost (t.chan c).fault.alsoSeen = true ∧
        (t.chan c).fault.lastLater = some .angleLost) ∧
      ((s.chan c).state = .off ∨ (s.chan c).state = .calibrate ∨ (s.chan c).state = .ready →
        (t.chan c).state = (s.chan c).state ∧ (t.chan c).fault = (s.chan c).fault)) ∧
  (∀ (s : State) (c q : Chan) (w : InstantWork), s.moment = some w → w.angleDue = some c → w.walk = [] →
    paired s c = true → q = partnerOf c →
    ∃ t, exec (.angleLost c) s = .next t ∧
      (drives (s.chan c).state = true →
        (t.chan c).state = .fault ∧ (t.chan c).fault.firstCause = some .angleLost ∧
        (t.chan c).fault.tripState = (s.chan c).state ∧ SwitchedOff (t.gate c) ∧
        Reacted (s.chan q) (t.chan q)) ∧
      (drives (s.chan c).state = false → t.chan q = s.chan q) ∧
      ∀ d, d ≠ c → d ≠ q → t.chan d = s.chan d) ∧
  ∀ (x : SampleInputs) (o : SampleOrder) (s : State) (c : Chan), CalmStart s → CaptureWaits s →
    (x.chans[c]).valid = false →
    (∀ d : Chan, d ≠ c → (x.chans[d]).valid = true ∨ (s.chan d).invalidCount ≠ 2) →
    ∃ t k, exec (.periodStart x o) s = .next t ∧ (t.chan c).comp = some k ∧
      ((t.chan c).prevAngle : Int) = ((s.chan c).prevAngle + (s.chan c).speed) % 65536 ∧
      (t.chan c).speed = (s.chan c).speed ∧ (t.chan c).invalidCount = bump (s.chan c).invalidCount ∧
      k.results.angle = (t.chan c).prevAngle ∧ k.results.speed = (s.chan c).speed ∧
      ((s.chan c).invalidCount = 2 → (s.chan c).state = .fault ∨
          (drives (s.chan c).state = true ∧ ¬ HasFinding (s.chan c) x.chans[c]) →
        ∃ w, t.moment = some w ∧ w.angleDue = some c) ∧
      ((s.chan c).invalidCount ≠ 2 ∨ (s.chan c).state = .off ∨ (s.chan c).state = .calibrate ∨
          (s.chan c).state = .ready → t.moment = none)

/-- CALIBRATION_COMPLETE (R15, R31): the offsets are the sums divided by 64 with halves rounded up; within
plus or minus 2,048 they are stored and the channel enters READY, beyond it the channel enters FAULT with
OFFSET_RANGE, offsets 0 and calibrated cleared, and the partner of a paired channel reacts (R112). -/
def Obligations.CalibrationEndsInReadyOrOffsetFault : Prop :=
  (∀ (s : State) (c : Chan) (oa ob : Int), (s.chan c).state = .calibrate → (s.chan c).calCount = 64 →
    paired s c = false → oa = ((s.chan c).sumA + 32) / 64 → ob = ((s.chan c).sumB + 32) / 64 →
    ∃ t, exec (.calibrationComplete c) s = .next t ∧
      (|oa| ≤ 2048 ∧ |ob| ≤ 2048 →
        (t.chan c).state = .ready ∧ (t.chan c).calibrated = true ∧ (t.chan c).offA = oa ∧
        (t.chan c).offB = ob) ∧
      (¬ (|oa| ≤ 2048 ∧ |ob| ≤ 2048) →
        (t.chan c).state = .fault ∧ (t.chan c).fault.firstCause = some .offsetRange ∧
        (t.chan c).calibrated = false ∧ (t.chan c).offA = 0 ∧ (t.chan c).offB = 0 ∧
        SwitchedOff (t.gate c))) ∧
  ∀ (s : State) (c q : Chan) (oa ob : Int) (w : InstantWork), s.moment = some w → w.walk = [] →
    (s.chan c).state = .calibrate → (s.chan c).calCount = 64 → paired s c = true → q = partnerOf c →
    oa = ((s.chan c).sumA + 32) / 64 → ob = ((s.chan c).sumB + 32) / 64 →
    ∃ t, exec (.calibrationComplete c) s = .next t ∧ (∀ d, d ≠ c → d ≠ q → t.chan d = s.chan d) ∧
      (|oa| ≤ 2048 ∧ |ob| ≤ 2048 →
        t.chan c = { s.chan c with state := .ready, calibrated := true, offA := oa, offB := ob } ∧
        t.chan q = s.chan q) ∧
      (¬ (|oa| ≤ 2048 ∧ |ob| ≤ 2048) →
        (t.chan c).state = .fault ∧ (t.chan c).fault.firstCause = some .offsetRange ∧
        (t.chan c).calibrated = false ∧ (t.chan c).offA = 0 ∧ (t.chan c).offB = 0 ∧
        SwitchedOff (t.gate c) ∧ Reacted (s.chan q) (t.chan q))

/-- COMPUTATION_COMPLETE (R22, R25, R48, R55, R109, R134): the results replace the last results as one whole
with the status word formed now, and the compare values become the pending triple exactly when the sample was
taken driving with ramp complete clear and the channel still drives. Nothing else changes. A FAULT entry between
the sample and the completion, here by INHIBIT, withholds the compare values (R16, R25), even if the channel
drives again at the completion, which is the model's reading (log 18). -/
def Obligations.ComputationPublishesAndHandsOn : Prop :=
  (∀ (s : State) (c : Chan) (k : Computation), s.moment = none → (s.chan c).comp = some k → k.band ≤ 3 →
    ∃ t st, exec (.computationComplete c) s = .next t ∧
      t = { s with channels := t.channels, gates := t.gates } ∧
      t.chan c = { s.chan c with last := { k.results with status := st }, comp := none } ∧
      (∀ d, d ≠ c → t.chan d = s.chan d ∧ t.gate d = s.gate d) ∧
      (k.handOn = true ∧ drives (s.chan c).state = true →
        t.gate c = { s.gate c with pendingTriple := some k.triple }) ∧
      (¬ (k.handOn = true ∧ drives (s.chan c).state = true) → t.gate c = s.gate c) ∧
      st.toNat % 8 = stateCode (s.chan c).state ∧ st.getLsbD 3 = (s.chan c).calibrated ∧
      st.getLsbD 4 = (s.chan c).noticePending ∧ st.getLsbD 5 = k.currentLimited ∧
      st.getLsbD 6 = k.voltageLimited ∧ st.getLsbD 7 = k.foldback ∧
      st.getLsbD 8 = (s.chan c).enableRefused ∧ st.getLsbD 9 = (s.chan c).clearRefused ∧
      st.toNat / 1024 % 4 = k.band ∧ st.getLsbD 12 = decide ((s.chan c).invalidCount ≠ 0) ∧
      st.getLsbD 13 = k.busNotNormal ∧
      st.getLsbD 14 = decide (s.pairs[pairOf c] = true ∧ c.val % 2 = 0 ∧ (s.chan c).state = .ready ∧
        ¬ ((s.chan (partnerOf c)).state = .ready ∧ (s.chan (partnerOf c)).invalidCount = 0)) ∧
      st.getLsbD 15 = decide ((s.chan c).state = .hold ∨
        ((s.chan c).state = .rampdown ∧ (s.chan c).pendRefLoss = true))) ∧
    ∀ (at_ : Nat) (orders : PairOrders) (s : State) (c : Chan) (k : Computation), s.inhnLow = false →
      s.moment = none → (s.chan c).comp = some k →
      ∃ t, exec (.inhnAsserted at_ orders) s = .next t ∧
        (drives (s.chan c).state = true → (t.chan c).comp = some { k with handOn := false }) ∧
        (drives (s.chan c).state = false → (t.chan c).comp = some k)

/-- LEG_LEVEL_CHANGE (R56, R57): the level of a leg with compare value C changes to high at H - C and to low
at H + C; the switch leaving its side goes off at that instant, and the other goes on at once only when it
has been off for the dead time. -/
def Obligations.LegLevelChangesAtItsEdges : Prop :=
  ∀ (s : State) (c : Chan) (l : Leg) (tr : Triple), s.moment = none →
    (s.gate c).activeTriple = some tr → 0 < tripleLeg tr l → tripleLeg tr l < s.carrier.h →
    ((gateLeg (s.gate c) l).level = some .low →
      s.now ≤ s.carrier.periodAt + (s.carrier.h - tripleLeg tr l) →
      ∃ t offAt, exec (.legLevelChange c l) s = .next t ∧
        t = { s with now := s.carrier.periodAt + (s.carrier.h - tripleLeg tr l), gates := t.gates } ∧
        offAt = (if (gateLeg (s.gate c) l).lowOn then t.now else (gateLeg (s.gate c) l).lowOffAt) ∧
        t.gate c = setGateLeg (s.gate c) l
          { gateLeg (s.gate c) l with
            level := some .high, lowOn := false, lowOffAt := offAt,
            highOn := decide (offAt + s.carrier.deadTime ≤ t.now) } ∧
        ∀ d, d ≠ c → t.gate d = s.gate d) ∧
    ((gateLeg (s.gate c) l).level = some .high →
      ∃ t offAt, exec (.legLevelChange c l) s = .next t ∧
        t = { s with now := max s.now (s.carrier.periodAt + (s.carrier.h + tripleLeg tr l)),
                     gates := t.gates } ∧
        offAt = (if (gateLeg (s.gate c) l).highOn then t.now else (gateLeg (s.gate c) l).highOffAt) ∧
        t.gate c = setGateLeg (s.gate c) l
          { gateLeg (s.gate c) l with
            level := some .low, highOn := false, highOffAt := offAt,
            lowOn := decide (offAt + s.carrier.deadTime ≤ t.now) } ∧
        ∀ d, d ≠ c → t.gate d = s.gate d)

/-- DEAD_TIME_END (R56, R57): the switch of the commanded side goes on DEAD_TIME after its partner last went
off, if the level is still commanded then; a level that leaves its side at or before that instant leaves the
switch off. A leg with compare value 0 or H keeps its level up to the next period start. -/
def Obligations.DeadTimeEndTurnsTheCommandedSwitchOn : Prop :=
  ∀ (s : State) (c : Chan) (l : Leg) (tr : Triple) (lv : Level) (leaves off : Nat), s.moment = none →
    (s.gate c).activeTriple = some tr →
    (gateLeg (s.gate c) l).highOn = false → (gateLeg (s.gate c) l).lowOn = false →
    (gateLeg (s.gate c) l).level = some lv →
    leaves = (if 0 < tripleLeg tr l ∧ tripleLeg tr l < s.carrier.h then
        (match lv with
          | .high => s.carrier.periodAt + (s.carrier.h + tripleLeg tr l)
          | .low => if s.now ≤ s.carrier.periodAt + (s.carrier.h - tripleLeg tr l) then
              s.carrier.periodAt + (s.carrier.h - tripleLeg tr l) else s.carrier.nextPeriod)
      else s.carrier.nextPeriod) →
    off = (match lv with
      | .high => (gateLeg (s.gate c) l).lowOffAt
      | .low => (gateLeg (s.gate c) l).highOffAt) →
    (off + s.carrier.deadTime < leaves →
      ∃ t, exec (.deadTimeEnd c l) s = .next t ∧
        t = { s with now := max s.now (off + s.carrier.deadTime), gates := t.gates } ∧
        t.gate c = setGateLeg (s.gate c) l
          (match lv with
            | .high => { gateLeg (s.gate c) l with highOn := true }
            | .low => { gateLeg (s.gate c) l with lowOn := true }) ∧
        ∀ d, d ≠ c → t.gate d = s.gate d) ∧
    (leaves ≤ off + s.carrier.deadTime → exec (.deadTimeEnd c l) s = .next s)

/-- Whatever command runs, a switch goes on only with its partner off, and off for at least the dead time
(R57). -/
def Obligations.SwitchesGoOnOnlyAfterTheDeadTime : Prop :=
  ∀ (i : Instr) (s t : State) (c : Chan) (l : Leg), exec i s = .next t →
    ((gateLeg (s.gate c) l).highOn = false → (gateLeg (t.gate c) l).highOn = true →
      (gateLeg (t.gate c) l).lowOn = false ∧
      (gateLeg (t.gate c) l).lowOffAt + t.carrier.deadTime ≤ t.now) ∧
    ((gateLeg (s.gate c) l).lowOn = false → (gateLeg (t.gate c) l).lowOn = true →
      (gateLeg (t.gate c) l).highOn = false ∧
      (gateLeg (t.gate c) l).highOffAt + t.carrier.deadTime ≤ t.now)

/-- RAMPDOWN_END (R11, R59): at the period start after ramp complete the outputs go off and the channel
enters READY, or FAULT with its pending cause, REF_LOSS before PARTNER. The partner of a paired channel that
enters FAULT reacts (R112), here with other period-start work still due, so that the partner has not been
sampled yet. -/
def Obligations.RampdownEndsInReadyOrItsPendingFault : Prop :=
  (∀ (s : State) (c : Chan) (w : InstantWork), s.moment = some w → c ∈ w.rampEnds →
    (s.chan c).state = .rampdown → (s.chan c).rampComplete = true → paired s c = false →
    ∃ t, exec (.rampdownEnd c) s = .next t ∧ SwitchedOff (t.gate c) ∧
      ((s.chan c).pendRefLoss = false → (s.chan c).pendPartner = false →
        (t.chan c).state = .ready ∧ (t.chan c).fault = (s.chan c).fault ∧ (t.chan c).accD = 0 ∧
        (t.chan c).accQ = 0 ∧ (t.chan c).lastRefD = 0 ∧ (t.chan c).lastRefQ = 0) ∧
      ((s.chan c).pendRefLoss = true →
        (t.chan c).state = .fault ∧ (t.chan c).fault.firstCause = some .refLoss ∧
        causeIn .partner (t.chan c).fault.alsoSeen = (s.chan c).pendPartner) ∧
      ((s.chan c).pendRefLoss = false → (s.chan c).pendPartner = true →
        (t.chan c).state = .fault ∧ (t.chan c).fault.firstCause = some .partner)) ∧
  ∀ (s : State) (c q : Chan) (w : InstantWork), s.moment = some w → c ∈ w.rampEnds →
    (s.chan c).state = .rampdown → (s.chan c).rampComplete = true → paired s c = true → q = partnerOf c →
    (w.timeoutDue = true ∨ w.validationDue = true ∨ w.switchDue = true ∨ 4 ≤ s.bus.count) →
    ∃ t, exec (.rampdownEnd c) s = .next t ∧ SwitchedOff (t.gate c) ∧
      (∀ d, d ≠ c → d ≠ q → t.chan d = s.chan d) ∧
      ((s.chan c).pendRefLoss = false → (s.chan c).pendPartner = false →
        (t.chan c).state = .ready ∧ (t.chan c).fault = (s.chan c).fault ∧ t.chan q = s.chan q) ∧
      ((s.chan c).pendRefLoss = true ∨ (s.chan c).pendPartner = true →
        (t.chan c).state = .fault ∧
        (t.chan c).fault.firstCause =
          some (if (s.chan c).pendRefLoss then .refLoss else .partner) ∧
        Reacted (s.chan q) (t.chan q))

/-- BANK_VALIDATION_COMPLETE (R97, R98): the staged schedules are checked from CH0 to CH7. The commit goes to
SWITCH_PENDING when all pass; otherwise to DONE_REJECTED with the lowest-numbered channel that fails and the
reason of the first check it fails. No bank changes. -/
def Obligations.ValidationReportsTheLowestFailingChannel : Prop :=
  ∀ (s : State) (w : InstantWork) (order hyst : Chan → Bool), s.moment = some w → w.validationDue = true →
    s.commit.state = .validating →
    (∀ c, order c = ((decide (s.staged.scheds[c].used < 3) ||
        decide (s.staged.scheds[c].t1 < s.staged.scheds[c].t2)) &&
      (decide (s.staged.scheds[c].used < 4) ||
        decide (s.staged.scheds[c].t2 < s.staged.scheds[c].t3)))) →
    (∀ c, hyst c = (decide (s.staged.scheds[c].used ≤ 1) ||
      decide (s.staged.scheds[c].hy < s.staged.scheds[c].t1))) →
    ∃ t, exec .bankValidationComplete s = .next t ∧ t.active = s.active ∧ t.staged = s.staged ∧
      ((∀ c, order c && hyst c) → t.commit.state = .switchPending) ∧
      ∀ c, (∀ d, d < c → order d && hyst d) → ¬ (order c && hyst c) →
        t.commit.state = .doneRejected ∧ t.commit.rejChannel = c.val ∧
        t.commit.reason = (if order c then 2 else 1)

/-- BANK_SWITCH (R99): the ACTIVE bank takes the STAGED content, no band index stands above the new USED - 1,
the commit state becomes DONE_OK. -/
def Obligations.SwitchMakesTheStagedBankActive : Prop :=
  ∀ (s : State) (w : InstantWork), s.moment = some w → w.switchDue = true →
    s.commit.state = .switchPending →
    ∃ t, exec .bankSwitch s = .next t ∧ t.active = s.staged ∧ t.staged = s.staged ∧
      t.commit.state = .doneOk ∧ t.commit.rejChannel = 0 ∧ t.commit.reason = 0 ∧
      ∀ c, (t.chan c).band ≤ s.staged.scheds[c].used - 1

/-- The idle count of an open stream rises at a period start and, at the discard time in force, makes the
timeout due; STREAM_DISCARD_TIMEOUT then closes the stream with cause TIMEOUT and keeps the window and the
total (R169, R170). -/
def Obligations.IdleStreamsAreDiscarded : Prop :=
  (∀ (x : SampleInputs) (o : SampleOrder) (s : State) (st : Stream), s.resetLow = false →
      s.moment = none → s.service.stream = some st →
      ∃ t, exec (.periodStart x o) s = .next t ∧
        t.service = { s.service with idle := s.service.idle + 1 } ∧
        ((if s.station.discardShort then 64 else 1024) ≤ s.service.idle + 1 →
          ∃ w, t.moment = some w ∧ w.timeoutDue = true)) ∧
    ∀ (s : State) (w : InstantWork) (st : Stream), s.moment = some w → w.timeoutDue = true →
      s.service.stream = some st →
      ∃ t, exec .streamDiscardTimeout s = .next t ∧
        t.service = { s.service with stream := none, closure := .timeout }

/-- DEADLINE_EXPIRY (R8, R128): the miss is counted up to MISS_LIMIT and in MISSED, the flag is set, the
deadline moves one cycle period on, and every channel takes the announcement: below the limit RUN enters HOLD;
at the limit RUN and HOLD enter RAMPDOWN with REF_LOSS pending; the other states are unchanged. -/
def Obligations.DeadlineExpiryCountsAndAnnouncesTheMiss : Prop :=
  ∀ (s : State) (d n : Nat), s.moment = none → s.timer.running = true → s.timer.deadline = some d →
    n = (if s.timer.missCount < s.station.missLimit then s.timer.missCount + 1 else s.timer.missCount) →
    ∃ t, exec .deadlineExpiry s = .next t ∧
      t = { s with now := max s.now d, timer := t.timer, counters := t.counters, channels := t.channels } ∧
      t.timer = { s.timer with missCount := n, missed := true,
                               deadline := some (d + s.station.cycleRatio * (2 * s.station.carrierH)) } ∧
      t.counters = { s.counters with missed := bump s.counters.missed } ∧
      ∀ c, ((s.chan c).state = .run → n ≠ s.station.missLimit →
          (t.chan c).state = .hold ∧
          (t.chan c).fault.holdCount = bump (s.chan c).fault.holdCount) ∧
        ((s.chan c).state = .hold → n ≠ s.station.missLimit → t.chan c = s.chan c) ∧
        (runOrHold (s.chan c).state = true → n = s.station.missLimit →
          (t.chan c).state = .rampdown ∧ (t.chan c).pendRefLoss = true ∧
          (t.chan c).rampComplete = false ∧
          (t.chan c).rampD = (s.chan c).lastRefD ∧ (t.chan c).rampQ = (s.chan c).lastRefQ) ∧
        (runOrHold (s.chan c).state = false → t.chan c = s.chan c)

/-! ## Cycle frames -/

/-- The commit of a CYCLE frame in OPERATIONAL (R122, R126, R127, R130, R140): the timer takes the arrival,
the stamp takes the cycle count, and the counters rise. In CONFIG the stamp alone takes the cycle count (R122).
A record that the frame carries, addressed or broadcast, is committed after all that, as one of a SERVICE frame
is (R122, R154, R155; CHECK_FAILS by log 13). -/
def Obligations.CommitTakesTheArrival : Prop :=
  (∀ (s : State) (f : FrameCtx) (h : Header) (at_ : Nat), GoodCycle s f h →
    ∃ t, exec (.endOfReception at_ []) s = .next t ∧ t.now = max s.now at_ ∧
      t.timer = { running := true, lastArrival := t.now,
                  deadline := some (t.now + s.station.cycleRatio * (2 * s.station.carrierH)
                    + s.station.cycleTol),
                  missCount := 0, missed := false, stamp := h.cycleCount.toNat } ∧
      (s.timer.running = false →
        t.counters.early = s.counters.early ∧ t.counters.late = s.counters.late) ∧
      (s.timer.running = true →
        t.counters.early = (if (t.now : Int) < s.timer.lastArrival
            + s.station.cycleRatio * (2 * s.station.carrierH) - s.station.cycleTol
          then bump s.counters.early else s.counters.early) ∧
        t.counters.late = (if s.timer.missed then bump s.counters.late else s.counters.late)) ∧
      ((∃ i : Fin 48, s.slotMap[i].valid = true ∧ h.slotCount.toNat ≤ resolves s i) →
        t.counters.short = bump s.counters.short) ∧
      ((∀ i : Fin 48, s.slotMap[i].valid = true → resolves s i < h.slotCount.toNat) →
        t.counters.short = s.counters.short) ∧
      t.counters = { s.counters with frames := bump s.counters.frames, early := t.counters.early,
                                     late := t.counters.late, short := t.counters.short }) ∧
  (∀ (s : State) (f : FrameCtx) (h : Header) (at_ : Nat), GoodFrame s f h → f.kind = .cycle →
    f.phase = .config → f.taken = none →
    exec (.endOfReception at_ []) s = .next { s with
      now := max s.now at_
      port := { s.port with receiving := none, leaving := s.port.leaving ++ [{ f with verdict := .good }] }
      timer := { s.timer with stamp := h.cycleCount.toNat }
      counters := { s.counters with frames := bump s.counters.frames } }) ∧
  ∀ (s : State) (f : FrameCtx) (h : Header) (at_ : Nat) (r : TakenRecord), GoodFrame s f h →
    f.kind = .cycle → f.taken = some r → (r.cmd = .leaveOperational → f.phase = .config) →
    ∃ u, exec (.endOfReception at_ [])
        { s with port := { s.port with receiving := some { f with taken := none } } } = .next u ∧
      exec (.endOfReception at_ []) s = .next (commitRecord r { u with
        port := { s.port with receiving := none, leaving := s.port.leaving ++ [{ f with verdict := .good }] }
        counters := { u.counters with
          service := bump u.counters.service
          checkFails := if r.answered && r.checkFail then bump u.counters.checkFails
            else u.counters.checkFails } })

/-- The pending values of the committed frame replace their latches; a latch without one keeps its value;
each previous control word becomes the control word handed on (R145). -/
def Obligations.CommitReplacesTheLatches : Prop :=
  ∀ (s : State) (f : FrameCtx) (h : Header) (at_ : Nat), GoodCycle s f h →
    ∃ t, exec (.endOfReception at_ []) s = .next t ∧ ∀ c : Chan,
      t.prevCtrl c = (t.latch c).control ∧
      ((∀ v, LatchWrite.iqRef c v ∉ f.latches) → (t.latch c).iqRef = (s.latch c).iqRef) ∧
      ((∀ v, LatchWrite.idRef c v ∉ f.latches) → (t.latch c).idRef = (s.latch c).idRef) ∧
      ((∀ v, LatchWrite.ilimScale c v ∉ f.latches) → (t.latch c).ilimScale = (s.latch c).ilimScale) ∧
      ((∀ v, LatchWrite.yawCorr c v ∉ f.latches) → (t.latch c).yawCorr = (s.latch c).yawCorr) ∧
      ((∀ v, LatchWrite.control c v ∉ f.latches) → (t.latch c).control = (s.latch c).control) ∧
      (∀ v, LatchWrite.iqRef c v ∈ f.latches → (∀ u, LatchWrite.iqRef c u ∈ f.latches → u = v) →
        (t.latch c).iqRef = v) ∧
      (∀ v, LatchWrite.idRef c v ∈ f.latches → (∀ u, LatchWrite.idRef c u ∈ f.latches → u = v) →
        (t.latch c).idRef = v) ∧
      (∀ v, LatchWrite.ilimScale c v ∈ f.latches →
        (∀ u, LatchWrite.ilimScale c u ∈ f.latches → u = v) → (t.latch c).ilimScale = v) ∧
      (∀ v, LatchWrite.yawCorr c v ∈ f.latches → (∀ u, LatchWrite.yawCorr c u ∈ f.latches → u = v) →
        (t.latch c).yawCorr = v) ∧
      (∀ v, LatchWrite.control c v ∈ f.latches → (∀ u, LatchWrite.control c u ∈ f.latches → u = v) →
        (t.latch c).control = v)

/-- The edges of an unpaired channel's control word `n` at a cycle commit, and its QUICKSTOP level: ENABLE,
with the band of R92, and QUICKSTOP (R5, R6, R7, R9, R10, R21, R55, R92); FAULT_ACK, with REF_LOSS always
clearable there (R4, R18, R19, R78, R79); CALIBRATE (R4, R13); and, of any channel, NOTICE_ACK (R85) and
TRACE_TRIG (R174). -/
def Obligations.ControlWordMovesAnUnpairedChannel : Prop :=
  (∀ (s : State) (f : FrameCtx) (h : Header) (at_ : Nat) (c : Chan) (n : Control), GoodCycle s f h →
    f.latches = [.control c n] → paired s c = false → s.phase = .operational →
    n.getLsbD 2 = false → n.getLsbD 4 = false →
    ∃ t, exec (.endOfReception at_ []) s = .next t ∧
      ((s.chan c).state = .ready → (s.prevCtrl c).getLsbD 0 = false → n.getLsbD 0 = true →
        (s.bus.state = .normal ∧ (s.chan c).invalidCount = 0 ∧ s.inhnLow = false ∧
            n.getLsbD 1 = false →
          (t.chan c).state = .run ∧ (t.gate c).enable = true ∧ (t.chan c).enableRefused = false ∧
          (t.chan c).accD = 0 ∧ (t.chan c).accQ = 0 ∧ (t.chan c).lastRefD = 0 ∧
          (t.chan c).lastRefQ = 0 ∧ (t.chan c).rampD = 0 ∧ (t.chan c).rampQ = 0 ∧
          (t.chan c).rampComplete = false ∧ (t.chan c).pendRefLoss = false ∧
          (t.chan c).pendPartner = false ∧
          ((s.active.scheds[c]).used ≤ 4 →
            BandRises s.active.scheds[c] (s.chan c).speed.natAbs 0 (t.chan c).band)) ∧
        (¬ (s.bus.state = .normal ∧ (s.chan c).invalidCount = 0 ∧ s.inhnLow = false ∧
            n.getLsbD 1 = false) →
          (t.chan c).state = .ready ∧ (t.chan c).enableRefused = true ∧ t.gate c = s.gate c)) ∧
      (runOrHold (s.chan c).state = true →
        (n.getLsbD 1 = true ∨ ((s.prevCtrl c).getLsbD 0 = true ∧ n.getLsbD 0 = false) →
          (t.chan c).state = .rampdown ∧ (t.chan c).rampD = (s.chan c).lastRefD ∧
          (t.chan c).rampQ = (s.chan c).lastRefQ ∧ (t.chan c).rampComplete = false ∧
          (t.chan c).pendRefLoss = (s.chan c).pendRefLoss ∧
          (t.chan c).pendPartner = (s.chan c).pendPartner ∧ t.gate c = s.gate c) ∧
        (¬ (n.getLsbD 1 = true ∨ ((s.prevCtrl c).getLsbD 0 = true ∧ n.getLsbD 0 = false)) →
          (t.chan c).state = .run ∧ (t.chan c).accD = (s.chan c).accD ∧
          (t.chan c).accQ = (s.chan c).accQ ∧ (t.chan c).enableRefused = (s.chan c).enableRefused)) ∧
      ((s.chan c).state = .off ∨ (s.chan c).state = .calibrate ∨ (s.chan c).state = .rampdown ∨
          (s.chan c).state = .fault →
        (t.chan c).state = (s.chan c).state ∧
        (t.chan c).enableRefused =
          ((s.chan c).enableRefused || (!(s.prevCtrl c).getLsbD 0 && n.getLsbD 0)))) ∧
  (∀ (s : State) (f : FrameCtx) (h : Header) (at_ : Nat) (c : Chan) (n : Control) (recd : Cause → Prop)
      (ok starts : Prop), GoodCycle s f h →
    f.latches = [.control c n] → paired s c = false → s.phase = .operational →
    (s.prevCtrl c).getLsbD 2 = false → n.getLsbD 2 = true → n.getLsbD 4 = false →
    (s.chan c).state = .fault →
    (∀ k, recd k ↔ ((s.chan c).fault.firstCause = some k ∨ causeIn k (s.chan c).fault.alsoSeen = true)) →
    (ok ↔ (recd .angleLost → (s.chan c).invalidCount = 0) ∧
      (recd .busUnder ∨ recd .busOver → s.bus.state = .normal) ∧ (recd .inhibit → s.inhnLow = false)) →
    (starts ↔ (s.prevCtrl c).getLsbD 0 = false ∧ n.getLsbD 0 = true) →
    ∃ t, exec (.endOfReception at_ []) s = .next t ∧ (t.chan c).fault = (s.chan c).fault ∧
      (¬ ok → (t.chan c).state = .fault ∧ (t.chan c).clearRefused = true) ∧
      (ok → (t.chan c).clearRefused = false) ∧
      (ok → recd .offsetRange → (t.chan c).state = .off ∧ (t.chan c).calibrated = false ∧
        (t.chan c).offA = 0 ∧ (t.chan c).offB = 0) ∧
      (ok → ¬ recd .offsetRange →
        (t.chan c).calibrated = (s.chan c).calibrated ∧ (t.chan c).offA = (s.chan c).offA ∧
        (t.chan c).offB = (s.chan c).offB ∧
        (starts ∧ s.bus.state = .normal ∧ (s.chan c).invalidCount = 0 ∧ s.inhnLow = false ∧
            n.getLsbD 1 = false → (t.chan c).state = .run) ∧
        (¬ (starts ∧ s.bus.state = .normal ∧ (s.chan c).invalidCount = 0 ∧ s.inhnLow = false ∧
            n.getLsbD 1 = false) → (t.chan c).state = .ready) ∧
        (starts → (t.chan c).state = .ready → (t.chan c).enableRefused = true))) ∧
  (∀ (s : State) (f : FrameCtx) (h : Header) (at_ : Nat) (c : Chan) (n : Control), GoodCycle s f h →
    f.latches = [.control c n] → paired s c = false → s.phase = .operational →
    n.getLsbD 2 = false → (s.prevCtrl c).getLsbD 4 = false → n.getLsbD 4 = true →
    ∃ t, exec (.endOfReception at_ []) s = .next t ∧
      ((s.chan c).state = .off ∨ (s.chan c).state = .ready →
        (t.chan c).state = .calibrate ∧ (t.chan c).calCount = 0 ∧ (t.chan c).sumA = 0 ∧
        (t.chan c).sumB = 0 ∧ (t.chan c).calibrated = false ∧ (t.chan c).offA = (s.chan c).offA ∧
        (t.chan c).offB = (s.chan c).offB ∧
        (t.chan c).enableRefused =
          ((s.chan c).enableRefused || (!(s.prevCtrl c).getLsbD 0 && n.getLsbD 0))) ∧
      ((s.chan c).state ≠ .off → (s.chan c).state ≠ .ready →
        (t.chan c).calibrated = (s.chan c).calibrated ∧ (t.chan c).calCount = (s.chan c).calCount ∧
        (t.chan c).sumA = (s.chan c).sumA ∧ (t.chan c).sumB = (s.chan c).sumB ∧
        ((s.chan c).state ≠ .calibrate → (t.chan c).state ≠ .calibrate))) ∧
  ∀ (s : State) (f : FrameCtx) (h : Header) (at_ : Nat) (c : Chan) (n : Control), GoodCycle s f h →
    f.latches = [.control c n] → s.phase = .operational →
    ∃ t, exec (.endOfReception at_ []) s = .next t ∧
      (t.chan c).noticeArmed =
        ((s.chan c).noticeArmed || (!(s.prevCtrl c).getLsbD 3 && n.getLsbD 3)) ∧
      (t.chan c).noticePending =
        ((s.chan c).noticePending && !(!(s.prevCtrl c).getLsbD 3 && n.getLsbD 3)) ∧
      (s.trace.capture = .armed → s.trace.armedCfg.source = 3 →
        s.trace.armedCfg.sourceArg.getLsbD c.val = true → s.trace.armedCfg.preCount ≤ traceL s.trace →
        (s.prevCtrl c).getLsbD 5 = false → n.getLsbD 5 = true → Triggered s.trace t.trace) ∧
      (s.trace.capture ≠ .armed ∨ s.trace.armedCfg.source ≠ 3 ∨
          ((s.prevCtrl c).getLsbD 5 = true ∨ n.getLsbD 5 = false ∨
            s.trace.armedCfg.sourceArg.getLsbD c.val = false) ∧
          (∀ d, d ≠ c → (s.prevCtrl d).getLsbD 5 = true ∨ (s.latch d).control.getLsbD 5 = false) →
        t.trace = s.trace)

/-- ENABLE and QUICKSTOP of a configured pair at a cycle commit (R5, R6, R7, R10, R21, R109, R110). A rising
ENABLE edge of the leader in READY takes leader and follower into RUN together when every condition of R5 holds,
and the follower's own QUICKSTOP then takes it on into RAMPDOWN; when any condition fails, neither enters RUN
and the leader is refused. A follower's own ENABLE edge in READY is refused and its falling ENABLE is not taken;
its QUICKSTOP takes it into RAMPDOWN alone; a leader that enters RAMPDOWN takes it along without a cause. -/
def Obligations.FollowerEntersRunWithItsLeader : Prop :=
  (∀ (s : State) (f : FrameCtx) (h : Header) (at_ : Nat) (p : Fin 4) (n m : Control) (ld fl : Chan)
      (allowed : Prop), GoodCycle s f h →
    ld = evenOf p → fl = oddOf p → s.pairs[p] = true → s.phase = .operational →
    f.latches = [.control ld n, .control fl m] →
    n.getLsbD 2 = false → n.getLsbD 4 = false → m.getLsbD 2 = false → m.getLsbD 4 = false →
    (s.chan ld).state = .ready → (s.prevCtrl ld).getLsbD 0 = false → n.getLsbD 0 = true →
    (allowed ↔ s.bus.state = .normal ∧ (s.chan ld).invalidCount = 0 ∧ s.inhnLow = false ∧
      n.getLsbD 1 = false ∧ (s.chan fl).state = .ready ∧ (s.chan fl).invalidCount = 0) →
    ∃ t, exec (.endOfReception at_ []) s = .next t ∧
      (allowed → (t.chan ld).state = .run ∧
        (t.chan fl).state = (if m.getLsbD 1 then .rampdown else .run) ∧
        (t.gate ld).enable = true ∧ (t.gate fl).enable = true ∧
        (t.chan ld).enableRefused = false ∧ (t.chan fl).enableRefused = false ∧
        (t.chan fl).accD = 0 ∧ (t.chan fl).accQ = 0 ∧ (t.chan fl).rampD = 0 ∧ (t.chan fl).rampQ = 0 ∧
        (t.chan fl).pendRefLoss = false ∧ (t.chan fl).pendPartner = false) ∧
      (¬ allowed → (t.chan ld).state = .ready ∧ (t.chan ld).enableRefused = true ∧
        t.gate ld = s.gate ld ∧
        ((s.chan fl).state = .off ∨ (s.chan fl).state = .calibrate ∨ (s.chan fl).state = .ready ∨
            (s.chan fl).state = .rampdown ∨ (s.chan fl).state = .fault →
          (t.chan fl).state = (s.chan fl).state ∧ t.gate fl = s.gate fl ∧
          (t.chan fl).enableRefused =
            ((s.chan fl).enableRefused || (!(s.prevCtrl fl).getLsbD 0 && m.getLsbD 0))))) ∧
  (∀ (s : State) (f : FrameCtx) (h : Header) (at_ : Nat) (p : Fin 4) (m : Control) (ld fl : Chan),
    GoodCycle s f h → ld = evenOf p → fl = oddOf p → s.pairs[p] = true → s.phase = .operational →
    f.latches = [.control fl m] → m.getLsbD 2 = false → m.getLsbD 4 = false →
    s.prevCtrl ld = (s.latch ld).control → (s.latch ld).control.getLsbD 1 = false →
    ∃ t, exec (.endOfReception at_ []) s = .next t ∧
      ((s.chan ld).state = .hold → (t.chan ld).state = .run) ∧
      ((s.chan ld).state ≠ .hold → t.chan ld = s.chan ld) ∧
      ((s.chan fl).state = .ready → (t.chan fl).state = .ready ∧
        (t.chan fl).enableRefused =
          ((s.chan fl).enableRefused || (!(s.prevCtrl fl).getLsbD 0 && m.getLsbD 0))) ∧
      (runOrHold (s.chan fl).state = true → m.getLsbD 1 = true →
        (t.chan fl).state = .rampdown ∧ (t.chan fl).rampD = (s.chan fl).lastRefD ∧
        (t.chan fl).rampQ = (s.chan fl).lastRefQ ∧ (t.chan fl).rampComplete = false ∧
        (t.chan fl).pendRefLoss = (s.chan fl).pendRefLoss ∧
        (t.chan fl).pendPartner = (s.chan fl).pendPartner) ∧
      (runOrHold (s.chan fl).state = true → m.getLsbD 1 = false → (t.chan fl).state = .run ∧
        (t.chan fl).enableRefused = (s.chan fl).enableRefused)) ∧
  ∀ (s : State) (f : FrameCtx) (h : Header) (at_ : Nat) (p : Fin 4) (n : Control) (ld fl : Chan),
    GoodCycle s f h → ld = evenOf p → fl = oddOf p → s.pairs[p] = true → s.phase = .operational →
    f.latches = [.control ld n] → n.getLsbD 2 = false → n.getLsbD 4 = false →
    s.prevCtrl fl = (s.latch fl).control → runOrHold (s.chan ld).state = true →
    (n.getLsbD 1 = true ∨ ((s.prevCtrl ld).getLsbD 0 = true ∧ n.getLsbD 0 = false)) →
    ∃ t, exec (.endOfReception at_ []) s = .next t ∧ (t.chan ld).state = .rampdown ∧
      (t.chan ld).rampD = (s.chan ld).lastRefD ∧ (t.chan ld).rampQ = (s.chan ld).lastRefQ ∧
      (t.chan ld).rampComplete = false ∧ (t.chan ld).pendRefLoss = (s.chan ld).pendRefLoss ∧
      (t.chan ld).pendPartner = (s.chan ld).pendPartner ∧
      (runOrHold (s.chan fl).state = true →
        (t.chan fl).state = .rampdown ∧ (t.chan fl).rampD = (s.chan fl).lastRefD ∧
        (t.chan fl).rampQ = (s.chan fl).lastRefQ ∧ (t.chan fl).rampComplete = false ∧
        (t.chan fl).pendRefLoss = (s.chan fl).pendRefLoss ∧
        (t.chan fl).pendPartner = (s.chan fl).pendPartner) ∧
      (runOrHold (s.chan fl).state = false → (t.chan fl).state = (s.chan fl).state)

/-- A frame with a bad incoming CRC or with a format error is discarded at its end of reception: the counters
rise, the frame waits to be sent with an inverted trailer, and nothing else of it takes effect (R118, R121,
R123). -/
def Obligations.DiscardedFramesTakeNoEffect : Prop :=
  (∀ (s : State) (f : FrameCtx) (h : Header) (at_ : Nat), WholeFrame s f h →
      bytesWord (f.rx.getD (f.rx.length - 2) 0) (f.rx.getD (f.rx.length - 1) 0) ≠ f.crcIn →
      exec (.endOfReception at_ []) s = .next { s with
        now := max s.now at_
        port := { s.port with receiving := none, leaving := s.port.leaving ++ [{ f with verdict := .void }] }
        counters := { s.counters with frames := bump s.counters.frames,
                                      crcErrors := bump s.counters.crcErrors } }) ∧
    ∀ (s : State) (f : FrameCtx) (at_ : Nat) (rest : List Byte), s.port.receiving = some f →
      s.moment = none → f.kind ≠ .foreign →
      ((∃ h, f.header = some h ∧ f.badHeader = true) ∨
        (rest = [] ∧ f.header = none) ∨
        (rest = [] ∧ ∃ h, f.header = some h ∧
          f.rx.length ≠ 8 + (if h.servicePresent = 1 then 26 else 0) + 2 * h.slotCount.toNat)) →
      exec (.endOfReception at_ rest) s = .next { s with
        now := max s.now at_
        port := { s.port with
          receiving := none
          leaving := s.port.leaving ++ [{ f with rx := f.rx ++ rest, verdict := .void }] }
        counters := { s.counters with frames := bump s.counters.frames,
                                      formatErrors := bump s.counters.formatErrors } }

/-- FRAME_START opens a context in the phase of its first byte, one frame at a time; HEADER is taken as
received and checked at bytes 4 and 5; a FOREIGN frame ends with its two counters alone and leaves byte for
byte (R116, R117, R118). END_OF_RECEPTION brings the bytes that came by no row of their own, the trailer last,
which is the model's choice (log 8): a header, a service record or a slot word among them is received as by the
row of its own (R118, R131, R139, R153), and bytes that are no whole part, the trailer among them, are received
and enter no CRC (R121). The statements about an END_OF_RECEPTION that brings no bytes therefore say what it does
with any. -/
def Obligations.FramesOpenAreCheckedAndForeignOnesPass : Prop :=
  (∀ (kind : Byte) (s : State), s.resetLow = false → s.port.waiting = false → s.port.receiving = none →
      exec (.frameStart kind) s = .next { s with
        port := { s.port with
          receiving := some { kind := if kind = 0xC1 then .cycle else if kind = 0xC2 then .service
                                      else .foreign
                              phase := s.phase
                              rx := [kind]
                              crcIn := crc16 [kind] } } }) ∧
    (∀ (kind : Byte) (s : State) (f : FrameCtx), s.port.receiving = some f →
      exec (.frameStart kind) s = .next s) ∧
    (∀ (s : State) (f : FrameCtx) (at_ : Nat) (rest : List Byte), s.port.receiving = some f →
      s.moment = none → f.kind = .foreign →
      exec (.endOfReception at_ rest) s = .next { s with
        now := max s.now at_
        port := { s.port with
          receiving := none
          leaving := s.port.leaving ++ [{ f with rx := f.rx ++ rest, verdict := .foreign }] }
        counters := { s.counters with frames := bump s.counters.frames,
                                      foreign := bump s.counters.foreign } }) ∧
    (∀ (s : State) (f : FrameCtx) (h : Header), s.port.receiving = some f → f.kind ≠ .foreign →
      f.header = none → f.rx.length = 1 →
      ∃ t g, exec (.header h) s = .next t ∧
        t = { s with port := { s.port with receiving := some g } } ∧
        g = { f with rx := f.rx ++ headerBytes h, crcIn := crcBytes f.crcIn (headerBytes h),
                     header := some h, badHeader := g.badHeader } ∧
        (g.badHeader = true ↔ 128 < h.slotCount.toNat ∨
          (h.servicePresent ≠ 0 ∧ h.servicePresent ≠ 1) ∨
          (f.kind = .service ∧ (h.slotCount ≠ 0 ∨ h.servicePresent ≠ 1)))) ∧
    (∀ (s : State) (f : FrameCtx) (rest : List FrameCtx), s.port.leaving = f :: rest →
      f.verdict = .foreign →
      exec .trailerSent s = .next { s with port := { s.port with leaving := rest, lastSent := f.rx } }) ∧
    (∀ (i : Instr) (s : State) (f : FrameCtx) (at_ : Nat) (bytes more : List Byte),
      s.port.receiving = some f → s.moment = none → ReceivesPart i f bytes →
      ∃ t, exec i s = .next t ∧
        exec (.endOfReception at_ (bytes ++ more)) s = exec (.endOfReception at_ more) t) ∧
    ∀ (s : State) (f : FrameCtx) (at_ : Nat) (rest : List Byte), s.port.receiving = some f →
      s.moment = none → EndsWithin f rest →
      exec (.endOfReception at_ rest) s =
        exec (.endOfReception at_ [])
          { s with port := { s.port with receiving := some { f with rx := f.rx ++ rest } } }

/-- SUMMARY: as bytes 0 and 1 of a CYCLE frame leave an OPERATIONAL station, bit 0 of byte 1 is set when any
channel is in FAULT; in every other case both bytes leave as received (R120). -/
def Obligations.SummaryByteShowsFaultPresent : Prop :=
  ∀ (s : State) (f : FrameCtx) (kind b : Byte) (more : List Byte), f.rx = kind :: b :: more →
    f.tx = [] →
    ∃ out,
      out = (if f.kind = .cycle ∧ f.badHeader = false ∧ s.phase = .operational ∧
          ∃ c, (s.chan c).state = .fault then b ||| 1 else b) ∧
      (∀ rest, s.port.leaving = f :: rest → f.verdict ≠ .arriving → 2 ≤ more.length →
        exec .summary s = .next { s with
          port := { s.port with
            leaving := { f with tx := [kind, out], crcOut := crcBytes f.crcOut [kind, out] } :: rest } }) ∧
      (s.port.leaving = [] → s.port.receiving = some f → 26 ≤ more.length →
        exec .summary s = .next { s with
          port := { s.port with
            receiving := some { f with tx := [kind, out], crcOut := crcBytes f.crcOut [kind, out] } } })

/-- The four stages of a consume word (R139, R141, R142, R143, R144): the received value is scaled and
saturated, replaced by the substitute where SUB_MASK says so, combined with the latch by MODE, and placed in
the pending commit list unless FRZ_MASK freezes the item. -/
def Obligations.ConsumeWordTakesTheFourStages : Prop :=
  ∀ (s : State) (f : FrameCtx) (w : Nat) (x : Word), s.port.receiving = some f → nextPart f = .slot w →
    f.kind = .cycle → f.badHeader = false →
    ∃ added, exec (.consumeWord x) s = .next { s with
        port := { s.port with receiving := some { f with
          rx := f.rx ++ wordBytes x
          crcIn := crcBytes f.crcIn (wordBytes x)
          latches := f.latches ++ added } } } ∧
      (f.phase = .config → added = []) ∧
      ((∀ i, NamesWord s i w → s.slotMap[i].produce = true) → added = []) ∧
      ∀ i e r l y z, NamesWord s i w → e = s.slotMap[i] → e.produce = false → f.phase = .operational →
        r = (s.chan e.channel).record → l = s.latch e.channel →
        (r.frzMask.getLsbD e.item.val = true → added = []) ∧
        (r.frzMask.getLsbD e.item.val = false →
          (e.item.val = 0 →
            y = (if r.subMask.getLsbD 0 then r.subIqRef else sat (x.toInt * 2 ^ e.shift)) →
            added = [.iqRef e.channel (if e.increment then sat (l.iqRef + y) else y)]) ∧
          (e.item.val = 1 →
            y = (if r.subMask.getLsbD 1 then r.subIdRef else sat (x.toInt * 2 ^ e.shift)) →
            added = [.idRef e.channel (if e.increment then sat (l.idRef + y) else y)]) ∧
          (e.item.val = 2 →
            z = (if r.subMask.getLsbD 2 then r.subIlimScale
                 else (clamp 0 32768 (x.toInt * 2 ^ e.shift)).toNat) →
            added = [.ilimScale e.channel (if e.increment then min 32768 (l.ilimScale + z) else z)]) ∧
          (e.item.val = 3 →
            y = (if r.subMask.getLsbD 3 then r.subYawCorr else sat (x.toInt * 2 ^ e.shift)) →
            added = [.yawCorr e.channel (if e.increment then sat (l.yawCorr + y) else y)]) ∧
          (e.item.val = 4 →
            added = [.control e.channel
              (if r.subMask.getLsbD 4 then r.subControl else x.extractLsb' 0 6)]))

/-- PRODUCE_WORD: the slot word of a produce entry leaves with the value of its item from the last results
standing as it leaves, and enters the outgoing CRC as written; a word without one leaves as received (R119,
R139, R148, R150). So does a word that leaves while its frame is still being received, 26 bytes behind (R116). -/
def Obligations.ProduceWordWritesTheMeasuredValue : Prop :=
  ∀ (s : State) (f : FrameCtx) (h : Header) (w : Nat), f.kind = .cycle → f.header = some h →
    f.badHeader = false → w < h.slotCount.toNat →
    f.tx.length = 6 + (if h.servicePresent = 1 then 26 else 0) + 2 * w →
    (∀ rest, s.port.leaving = f :: rest → f.verdict ≠ .arriving →
      f.rx.length = 8 + (if h.servicePresent = 1 then 26 else 0) + 2 * h.slotCount.toNat →
      ∃ out, WordLeavesAs s f w out ∧ exec .produceWord s = .next { s with
        port := { s.port with
          leaving := { f with tx := f.tx ++ out, crcOut := crcBytes f.crcOut out } :: rest } }) ∧
    (s.port.leaving = [] → s.port.receiving = some f → f.verdict = .arriving →
      f.tx.length + 28 ≤ f.rx.length →
      ∃ out, WordLeavesAs s f w out ∧ exec .produceWord s = .next { s with
        port := { s.port with
          receiving := some { f with tx := f.tx ++ out, crcOut := crcBytes f.crcOut out } } })

/-- TRAILER_SENT: a committed frame leaves with the CRC of the bytes as sent, a discarded one with that CRC
inverted, and its context is dropped (R116, R121). The bytes that have not left by rows of their own leave
first, the service record as this station forwards it among them (R119); bytes 0 and 1 and the slot words then
leave just as by SUMMARY and PRODUCE_WORD (R120, R139). -/
def Obligations.TrailerCarriesTheOutgoingCrc : Prop :=
  (∀ (s : State) (f : FrameCtx) (rest : List FrameCtx), s.port.leaving = f :: rest →
    (f.verdict = .good ∨ f.verdict = .void) → f.tx.length + 2 = f.rx.length →
    f.crcOut = crc16 f.tx →
    exec .trailerSent s = .next { s with
      port := { s.port with
        leaving := rest
        lastSent := f.tx ++ wordBytes (if f.verdict = .good then crc16 f.tx else ~~~ crc16 f.tx) } }) ∧
  (∀ (s : State) (f : FrameCtx) (rest : List FrameCtx) (bytes sent : List Byte),
    s.port.leaving = f :: rest → (f.verdict = .good ∨ f.verdict = .void) → 2 ≤ f.rx.length → f.tx ≠ [] →
    f.crcOut = crc16 f.tx → (f.kind = .service ∨ ∃ h, f.header = some h ∧ h.slotCount = 0) →
    (f.recordOut = none → bytes = f.rx) →
    (∀ r, f.recordOut = some r → bytes = f.rx.take 6 ++ r ++ f.rx.drop 32) →
    sent = f.tx ++ (bytes.take (f.rx.length - 2)).drop f.tx.length →
    exec .trailerSent s = .next { s with
      port := { s.port with
        leaving := rest
        lastSent := sent ++ wordBytes (if f.verdict = .good then crc16 sent else ~~~ crc16 sent) } }) ∧
  ∀ (i : Instr) (s : State) (f : FrameCtx) (h : Header) (rest : List FrameCtx), s.port.leaving = f :: rest →
    i = .summary ∨ i = .produceWord → (f.verdict = .good ∨ f.verdict = .void) → f.kind = .cycle →
    f.header = some h → f.badHeader = false →
    f.rx.length = 8 + (if h.servicePresent = 1 then 26 else 0) + 2 * h.slotCount.toNat →
    (∀ r, f.recordOut = some r → r.length = 26 ∧ h.servicePresent = 1) →
    ∃ t, exec i s = .next t ∧ exec .trailerSent t = exec .trailerSent s

/-! ## Service records -/

/-- A record row with a bad check byte under check mode on is answered CHECK_FAIL and acts on nothing else;
one with a word count above 8 is answered RANGE and not executed (R154, R162, R169). An overlong GROUP_ACTION
clears the tags without being answered SEQ_CLEARED, which is the model's choice (log 23). At the commit of a
CHECK_FAIL record CHECK_FAILS rises (R130); that it forms an empty result is the model's choice too (log 12). -/
def Obligations.CorruptAndOverlongRecordsAreRefused : Prop :=
  (∀ (i : Instr) (s : State) (f : FrameCtx) (code : Byte) (b : RecordBody), rowRecord i = some (code, b) →
    i.wf = true → ForThisStation s f b →
    (s.service.checkMode = true → byteSum (recordBytes code b) ≠ 0 →
      TakesRecord i s f code b 0x08 ⟨true, true, .notExecuted, false⟩ false) ∧
    ((s.service.checkMode = false ∨ byteSum (recordBytes code b) = 0) → 8 < b.wordCount.toNat →
      ∀ seq clears closes : Bool,
        (seq = true ↔ tagsPresent s = true ∧ code ∉ [0x00, 0x01, 0x20, 0x21, (0x22 : Byte)]) →
        (clears = true ↔ seq = true ∨ code = 0x22) →
        (closes = true ↔ code ∉ [0x00, (0x01 : Byte)] ∧
          ¬ (code = 0x12 ∧ ∃ p, s.service.stream = some ⟨.write, p⟩) ∧
          ¬ (code = 0x14 ∧ ∃ p, s.service.stream = some ⟨.read, p⟩)) →
        TakesRecord i s f code b (0x20 ||| (if seq then 0x02 else 0)) (answeredWith .notExecuted clears)
          closes)) ∧
  ∀ (s : State) (f : FrameCtx) (h : Header) (at_ : Nat) (t : State), GoodFrame s f h → f.kind = .service →
    f.taken = some ⟨true, true, .notExecuted, false⟩ → t = afterService s f at_ false [] →
    exec (.endOfReception at_ []) s = .next { t with
      counters := { t.counters with checkFails := bump s.counters.checkFails } }

/-- A record for another station, or answered upstream, passes as received and is not executed (R153). -/
def Obligations.RecordsOfOtherStationsPass : Prop :=
  ∀ (i : Instr) (s : State) (f : FrameCtx) (code : Byte) (b : RecordBody), rowRecord i = some (code, b) →
    i.wf = true → s.port.receiving = some f → nextPart f = .record → b.station ≠ 255 →
    (b.station ≠ s.address ∨ s.address = 0 ∨ b.replier ≠ 0) →
    exec i s = .next { s with
      port := { s.port with
        receiving := some { f with rx := f.rx ++ recordBytes code b,
                                   crcIn := crcBytes f.crcIn (recordBytes code b) } } }

/-- Broadcasts (R156): the allowed ones are judged without an answer and executed at the commit, with the
result buffer kept (R155); one that the phase, a channel or a running capture does not allow, or that is no
broadcast command, ORs in UNKNOWN; a GO_OPERATIONAL that fails its checks VALUE, a SET_CHECK argument above 1
and a word count above 8 RANGE; a corrupt one under check mode ORs in CHECK_FAIL; one already found corrupt
passes as received. That STARTUP and SEQ_CLEARED are ORed in, and the order CHECK_FAIL, RANGE, UNKNOWN, are the
model's reading (log 22), and that CHECK_FAILS does not rise is too (log 13). The commits are those of R158,
R159, R172 and R177. -/
def Obligations.BroadcastsAreJudgedAndNotAnswered : Prop :=
  (∀ (s : State) (f : FrameCtx) (b : RecordBody),
      (BroadcastSound s f 0x00 b →
        TakesBroadcast (.nop b) s f 0x00 b 0 ⟨false, false, .nop, false⟩ false) ∧
      (BroadcastSound s f 0x02 b →
        (b.argument = 0 → BroadcastExecuted (.setCheck b) s f 0x02 b (.setCheck false)) ∧
        (b.argument = 1 → BroadcastExecuted (.setCheck b) s f 0x02 b (.setCheck true)) ∧
        (1 < b.argument.toNat →
          TakesBroadcast (.setCheck b) s f 0x02 b 0x20 ⟨false, false, .notExecuted, false⟩ false)) ∧
      (BroadcastSound s f 0x03 b → f.phase = .config → SlotMapSound s → (∀ p, RolesSound s p) →
        BroadcastExecuted (.goOperational b) s f 0x03 b .goOperational) ∧
      (BroadcastSound s f 0x03 b → f.phase = .config → (¬ SlotMapSound s ∨ ¬ ∀ p, RolesSound s p) →
        TakesBroadcast (.goOperational b) s f 0x03 b 0x40 ⟨false, false, .notExecuted, false⟩ false) ∧
      (BroadcastSound s f 0x04 b → f.phase = .operational → (∀ c, atRest (s.chan c).state = true) →
        BroadcastExecuted (.leaveOperational b) s f 0x04 b .leaveOperational) ∧
      (BroadcastSound s f 0x03 b → f.phase = .operational →
        TakesBroadcast (.goOperational b) s f 0x03 b 0x04 ⟨false, false, .notExecuted, false⟩ false) ∧
      (BroadcastSound s f 0x04 b → (f.phase = .config ∨ ∃ c, (s.chan c).state ≠ .off ∧
          (s.chan c).state ≠ .ready ∧ (s.chan c).state ≠ .fault) →
        TakesBroadcast (.leaveOperational b) s f 0x04 b 0x04 ⟨false, false, .notExecuted, false⟩ false) ∧
      (BroadcastSound s f 0x30 b →
        (s.trace.capture = .pre ∨ s.trace.capture = .armed ∨ s.trace.capture = .post) →
        TakesBroadcast (.traceArm b) s f 0x30 b 0x04 ⟨false, false, .notExecuted, false⟩ false) ∧
      (BroadcastSound s f 0x30 b → (s.trace.capture = .idle ∨ s.trace.capture = .done) →
        BroadcastExecuted (.traceArm b) s f 0x30 b .traceArm) ∧
      (BroadcastSound s f 0x32 b → BroadcastExecuted (.traceTrigger b) s f 0x32 b .traceTrigger)) ∧
    (∀ (i : Instr) (s : State) (f : FrameCtx) (code : Byte) (b : RecordBody),
      rowRecord i = some (code, b) → i.wf = true →
      (BroadcastSound s f code b → code ∉ [0x00, 0x02, 0x03, 0x04, 0x30, (0x32 : Byte)] →
        TakesBroadcast i s f code b 0x04 ⟨false, false, .notExecuted, false⟩ false) ∧
      (BroadcastHere s f b → (s.service.checkMode = false ∨ byteSum (recordBytes code b) = 0) →
        8 < b.wordCount.toNat →
        TakesBroadcast i s f code b 0x20 ⟨false, false, .notExecuted, false⟩ false) ∧
      (BroadcastHere s f b → s.service.checkMode = true → byteSum (recordBytes code b) ≠ 0 →
        TakesBroadcast i s f code b 0x08 ⟨false, true, .notExecuted, false⟩ false) ∧
      (s.port.receiving = some f → nextPart f = .record → b.station = 255 → b.flags &&& 0x08 ≠ 0 →
        exec i s = .next { s with
          port := { s.port with
            receiving := some { f with rx := f.rx ++ recordBytes code b,
                                       crcIn := crcBytes f.crcIn (recordBytes code b) } } })) ∧
    ∀ s : State, BroadcastCommitsAs s .nop id ∧ BroadcastCommitsAs s .notExecuted id ∧
      (∀ on : Bool, BroadcastCommitsAs s (.setCheck on)
        fun t => { t with service := { t.service with checkMode := on } }) ∧
      (BroadcastCommitsAs s .goOperational fun t =>
        { t with phase := .operational,
                 pairs := Vector.ofFn fun p =>
                   (s.chan (evenOf p)).record.pairRole == .leader &&
                     (s.chan (oddOf p)).record.pairRole == .follower }) ∧
      (BroadcastCommitsAs s .leaveOperational fun t =>
        { t with phase := .config,
                 timer := { t.timer with running := false, deadline := none, missCount := 0,
                                         missed := false },
                 pairs := Vector.replicate 4 false, latches := Vector.replicate 8 {},
                 prevControl := Vector.replicate 8 0 }) ∧
      (BroadcastCommitsAs s .traceArm fun t =>
        { t with trace := { s.trace with
            armedCfg := s.trace.cfg, segs := Vector.replicate 4 { valid := 0, oldest := 0 }, seg := 0,
            pointer := 0, period := 0,
            capture := if s.trace.cfg.preCount = 0 then .armed else .pre } }) ∧
      (s.trace.capture ≠ .armed → BroadcastCommitsAs s .traceTrigger id) ∧
      (s.trace.capture = .armed → s.trace.armedCfg.preCount ≤ traceL s.trace →
        ∃ u, Triggered s.trace u ∧ BroadcastCommitsAs s .traceTrigger fun t => { t with trace := u })

/-- The addressed records that need no test of their own: how each is answered, what it closes and clears,
and which command waits for the commit. At the commit NOP, STOP_STREAM and every refused record form an empty
result and change nothing else, GET_STATUS forms its eight words, SET_CHECK sets the check mode (R154, R155,
R157, R161, R162, R169, R177). -/
def Obligations.PlainRecordsAreTakenAndFormTheirResults : Prop :=
  (∀ (s : State) (f : FrameCtx) (b : RecordBody),
      (TakenHere s f 0x00 b →
        TakesRecord (.nop b) s f 0x00 b 0 (answeredWith .nop false) false) ∧
      (TakenHere s f 0x01 b →
        TakesRecord (.getStatus b) s f 0x01 b 0 (answeredWith .getStatus false) false) ∧
      (TakenHere s f 0x02 b →
        (b.argument = 0 → TakesPlainly (.setCheck b) s f 0x02 b 0 (.setCheck false)) ∧
        (b.argument = 1 → TakesPlainly (.setCheck b) s f 0x02 b 0 (.setCheck true)) ∧
        (1 < b.argument.toNat → TakesPlainly (.setCheck b) s f 0x02 b 0x20 .notExecuted)) ∧
      (TakenHere s f 0x05 b → TakesPlainly (.resetStation b) s f 0x05 b 0 .resetStation) ∧
      (TakenHere s f 0x15 b → TakesPlainly (.stopStream b) s f 0x15 b 0 .stopStream) ∧
      (TakenHere s f 0x31 b → TakesPlainly (.traceStop b) s f 0x31 b 0 .traceStop) ∧
      (TakenHere s f 0x32 b → TakesPlainly (.traceTrigger b) s f 0x32 b 0 .traceTrigger)) ∧
    ∀ s : State,
      CommitsAs s .nop [] id ∧ CommitsAs s .stopStream [] id ∧ CommitsAs s .notExecuted [] id ∧
      (∀ on : Bool, CommitsAs s (.setCheck on) []
        fun t => { t with service := { t.service with checkMode := on } }) ∧
      ∃ r : List Word, CommitsAs s .getStatus r id ∧ r.length = 8 ∧
        r.getD 0 0 = (if s.phase = .config then 0 else 1) ∧
        r.getD 1 0 = (if s.service.checkMode then 1 else 0) ∧
        (r.getD 2 0 = (match s.commit.state with
          | .idle => 0
          | .validating => 1
          | .switchPending => 2
          | .doneOk => 3
          | .doneRejected => 4)) ∧
        r.getD 3 0 = BitVec.ofNat 16 s.commit.rejChannel ∧ r.getD 4 0 = BitVec.ofNat 16 s.commit.reason ∧
        (s.service.stream = none → r.getD 5 0 = 0) ∧
        (∀ p, s.service.stream = some ⟨.read, p⟩ → r.getD 5 0 = 1) ∧
        (∀ p, s.service.stream = some ⟨.write, p⟩ → r.getD 5 0 = 2) ∧
        (r.getD 6 0 = (match s.service.closure with
          | .none => 0
          | .command => 1
          | .timeout => 2
          | .refused => 3)) ∧
        r.getD 7 0 = BitVec.ofNat 16 s.service.total

/-- UNKNOWN: a code outside the command table, and a command that its phase or state does not allow (R133,
R154, R157, R159, R172). -/
def Obligations.UnknownAndForbiddenCommandsAreRefused : Prop :=
  ∀ (s : State) (f : FrameCtx) (b : RecordBody),
    (∀ code, TakenHere s f code b →
      code ∉ [0x00, 0x01, 0x02, 0x03, 0x04, 0x05, 0x10, 0x11, 0x12, 0x13, 0x14, 0x15, 0x18, 0x19, 0x20, 0x21,
        0x22, 0x30, 0x31, (0x32 : Byte)] →
      TakesPlainly (.unknown code b) s f code b 0x04 .notExecuted) ∧
    (TakenHere s f 0x03 b → f.phase = .operational →
      TakesPlainly (.goOperational b) s f 0x03 b 0x04 .notExecuted) ∧
    (TakenHere s f 0x04 b →
      (f.phase = .config ∨ ∃ c, (s.chan c).state ≠ .off ∧ (s.chan c).state ≠ .ready ∧
        (s.chan c).state ≠ .fault) →
      TakesPlainly (.leaveOperational b) s f 0x04 b 0x04 .notExecuted) ∧
    (TakenHere s f 0x30 b →
      (s.trace.capture = .pre ∨ s.trace.capture = .armed ∨ s.trace.capture = .post) →
      TakesPlainly (.traceArm b) s f 0x30 b 0x04 .notExecuted)

/-! ## Phases -/

/-- GO_OPERATIONAL in CONFIG: the slot map validation, then the pair check, as the record is taken; at the
commit the phase and the pair flags, or the three result words of the refusal (R105, R106, R138, R158). -/
def Obligations.GoOperationalRunsItsTwoChecks : Prop :=
  (∀ (s : State) (f : FrameCtx) (b : RecordBody), TakenHere s f 0x03 b → f.phase = .config →
      (SlotMapSound s → (∀ p, RolesSound s p) →
        TakesPlainly (.goOperational b) s f 0x03 b 0 .goOperational) ∧
      (∀ i r, EntryFails s i r → (∀ j, j < i → ∀ q, ¬ EntryFails s j q) →
        TakesPlainly (.goOperational b) s f 0x03 b 0x40 (.goRefused 1 i.val r)) ∧
      (∀ p, SlotMapSound s → ¬ RolesSound s p → (∀ q, q < p → RolesSound s q) →
        TakesPlainly (.goOperational b) s f 0x03 b 0x40 (.goRefused 2 p.val 0))) ∧
    ∀ s : State,
      (CommitsAs s .goOperational [] fun t =>
        { t with phase := .operational,
                 pairs := Vector.ofFn fun p =>
                   (s.chan (evenOf p)).record.pairRole == .leader &&
                     (s.chan (oddOf p)).record.pairRole == .follower }) ∧
      ∀ k n r : Nat, CommitsAs s (.goRefused k n r)
        [BitVec.ofNat 16 k, BitVec.ofNat 16 n, BitVec.ofNat 16 r] id

/-- LEAVE_OPERATIONAL in OPERATIONAL with every channel in OFF, READY or FAULT; at its commit the timer
stops, the latches, previous control words and pair flags are cleared and the station enters CONFIG; in a
CYCLE frame no channel is handed a control word (R106, R126, R145, R151, R159). -/
def Obligations.LeaveOperationalReturnsToConfig : Prop :=
  (∀ (s : State) (f : FrameCtx) (b : RecordBody), TakenHere s f 0x04 b → f.phase = .operational →
      (∀ c, (s.chan c).state = .off ∨ (s.chan c).state = .ready ∨ (s.chan c).state = .fault) →
      TakesPlainly (.leaveOperational b) s f 0x04 b 0 .leaveOperational) ∧
    (∀ s : State, CommitsAs s .leaveOperational [] fun t =>
      { t with phase := .config,
               timer := { t.timer with running := false, deadline := none, missCount := 0,
                                       missed := false },
               pairs := Vector.replicate 4 false, latches := Vector.replicate 8 {},
               prevControl := Vector.replicate 8 0 }) ∧
    ∀ (s : State) (f : FrameCtx) (h : Header) (at_ : Nat) (clears : Bool), GoodFrame s f h →
      f.kind = .cycle → f.phase = .operational →
      f.taken = some (answeredWith .leaveOperational clears) →
      ∃ t, exec (.endOfReception at_ []) s = .next t ∧ t.phase = .config ∧
        t.latches = Vector.replicate 8 {} ∧ t.prevControl = Vector.replicate 8 0 ∧
        t.pairs = Vector.replicate 4 false ∧ t.channels = s.channels ∧ t.gates = s.gates ∧
        t.timer = { running := false, lastArrival := max s.now at_, deadline := none, missCount := 0,
                    missed := false, stamp := h.cycleCount.toNat }

/-- RESET_STATION at its commit: every switch goes off and every part of the state takes its station-reset
value; the address, the link counters, the running carrier period, the pins and the frames in passage stay
(R23, R62, R76, R103, R106, R124, R126, R151, R160, R172). The words of the trace memory stay (log 7). The
presented values stay and the last arrival reads 0, which is the model's choice (log 6). -/
def Obligations.StationResetKeepsAddressAndCounters : Prop :=
  ∀ (s : State) (f : FrameCtx) (h : Header) (at_ : Nat) (clears : Bool),
    GoodService s f h .resetStation clears →
    ∃ t, exec (.endOfReception at_ []) s = .next t ∧ (∀ c, SwitchedOff (t.gate c)) ∧
      t = { State.reset with
        now := max s.now at_
        resetLow := s.resetLow
        inhnLow := s.inhnLow
        address := s.address
        carrier := s.carrier
        gates := t.gates
        sense := s.sense
        counters := { s.counters with frames := bump s.counters.frames,
                                      service := bump s.counters.service }
        port := { s.port with receiving := none,
                              leaving := s.port.leaving ++ [{ f with verdict := .good }] }
        trace := { State.reset.trace with mem := s.trace.mem }
        freeUsed := s.freeUsed
        pending := s.pending }

/-! ## Windows and streams -/

/-- SET_WINDOW: the bounds are judged as the record is taken and the window is replaced at the commit, or
left as it stands when the record was answered RANGE; the positions of a window walk its rectangle, each cell
once, in the order named (R164, R166). -/
def Obligations.SetWindowTakesSoundBounds : Prop :=
  (∀ (s : State) (f : FrameCtx) (b : RecordBody), TakenHere s f 0x10 b →
      (∀ t, tableOf b.argument.toNat = some t → 6 ≤ b.wordCount.toNat →
        b.data[1].toNat < tableEntries t → b.data[3].toNat < tableFields t →
        b.data[0].toNat ≤ b.data[1].toNat → b.data[2].toNat ≤ b.data[3].toNat →
        b.data[4].toNat ≤ 1 → b.data[5].toNat ≤ 1 →
        TakesPlainly (.setWindow b) s f 0x10 b 0
          (.setWindow ⟨t, b.data[0].toNat, b.data[1].toNat, b.data[2].toNat, b.data[3].toNat,
            decide (b.data[4].toNat = 1), decide (b.data[5].toNat = 1)⟩)) ∧
      ((10 < b.argument.toNat ∨ b.wordCount.toNat < 6 ∨
          (∃ t, tableOf b.argument.toNat = some t ∧
            (tableEntries t ≤ b.data[1].toNat ∨ tableFields t ≤ b.data[3].toNat)) ∨
          b.data[1].toNat < b.data[0].toNat ∨ b.data[3].toNat < b.data[2].toNat ∨
          1 < b.data[4].toNat ∨ 1 < b.data[5].toNat) →
        TakesPlainly (.setWindow b) s f 0x10 b 0x20 .notExecuted)) ∧
    (∀ (s : State) (w : Window), CommitsAs s (.setWindow w) []
      fun t => { t with service := { t.service with window := some w } }) ∧
    (∀ s : State, CommitsAs s .notExecuted [] id) ∧
    ∀ w : Window, w.firstEntry ≤ w.lastEntry → w.firstField ≤ w.lastField →
      windowLength w = (w.lastEntry - w.firstEntry + 1) * (w.lastField - w.firstField + 1) ∧
      (∀ e f, w.firstEntry ≤ e → e ≤ w.lastEntry → w.firstField ≤ f → f ≤ w.lastField →
        ∃! p, p < windowLength w ∧ windowCell w p = (e, f)) ∧
      (w.fieldMajor = false → ∀ p, windowCell w p = (w.firstEntry + p / (w.lastField - w.firstField + 1),
        w.firstField + p % (w.lastField - w.firstField + 1))) ∧
      (w.fieldMajor = true → ∀ p, windowCell w p = (w.firstEntry + p % (w.lastEntry - w.firstEntry + 1),
        w.firstField + p / (w.lastEntry - w.firstEntry + 1)))

/-- WRITE_START and WRITE_CONTINUE as they are taken: SEQ_FAULT without a window or a write stream, BUSY on
a STAGED table while a commit is busy, otherwise the words in order until one meets a field that is not
writable (VALUE), the end of the window under STOP, or the end of the record (R101, R167). Which field of which
table is writable in which phase and state (R2, R83, R90, R101, R130, R136, R165, R171, R178). -/
def Obligations.WriteRecordsAreJudgedWordByWord : Prop :=
  (∀ (s : State) (f : FrameCtx) (b : RecordBody),
    (TakenHere s f 0x11 b →
      (s.service.window = none → TakesPlainly (.writeStart b) s f 0x11 b 0x10 .notExecuted) ∧
      ∀ w, s.service.window = some w →
        ((w.table = .gainStaged ∨ w.table = .schedStaged) →
          (s.commit.state = .validating ∨ s.commit.state = .switchPending) →
          TakesPlainly (.writeStart b) s f 0x11 b 0x80 (.writeBusy true)) ∧
        (¬ ((w.table = .gainStaged ∨ w.table = .schedStaged) ∧
            (s.commit.state = .validating ∨ s.commit.state = .switchPending)) →
          ∀ m : Fin 9, m.val ≤ b.wordCount.toNat →
            (∀ k, k < m.val → streamPos w 0 k < windowLength w ∧
              fieldWritable s w.table (windowCell w (streamPos w 0 k)).1
                (windowCell w (streamPos w 0 k)).2 = true) →
            (m.val < b.wordCount.toNat → streamPos w 0 m.val < windowLength w →
              fieldWritable s w.table (windowCell w (streamPos w 0 m.val)).1
                (windowCell w (streamPos w 0 m.val)).2 = false) →
            ∃ xs q refused,
              TakesPlainly (.writeStart b) s f 0x11 b (if refused then 0x40 else 0)
                (.write true xs q refused) ∧
              (refused = true ↔ m.val < b.wordCount.toNat ∧ streamPos w 0 m.val < windowLength w) ∧
              (refused = false → m.val ≠ 0 → q = streamPos w 0 (m.val - 1) + 1) ∧
              (refused = false → m.val = 0 → q = 0) ∧
              xs = (List.range m.val).map fun k =>
                ⟨(windowCell w (streamPos w 0 k)).1, (windowCell w (streamPos w 0 k)).2,
                  b.data.toList.getD k 0⟩)) ∧
    (TakenHere s f 0x12 b →
      ((∀ p, s.service.stream ≠ some ⟨.write, p⟩) →
        TakesPlainly (.writeContinue b) s f 0x12 b 0x10 .notExecuted) ∧
      ∀ w p, s.service.stream = some ⟨.write, p⟩ → s.service.window = some w → p ≤ windowLength w →
        ((w.table = .gainStaged ∨ w.table = .schedStaged) →
          (s.commit.state = .validating ∨ s.commit.state = .switchPending) →
          TakesRecord (.writeContinue b) s f 0x12 b (0x80 ||| seqFlag s)
            (answeredWith (.writeBusy false) (tagsPresent s)) false) ∧
        (¬ ((w.table = .gainStaged ∨ w.table = .schedStaged) ∧
            (s.commit.state = .validating ∨ s.commit.state = .switchPending)) →
          ∀ m : Fin 9, m.val ≤ b.wordCount.toNat →
            (∀ k, k < m.val → streamPos w p k < windowLength w ∧
              fieldWritable s w.table (windowCell w (streamPos w p k)).1
                (windowCell w (streamPos w p k)).2 = true) →
            (m.val < b.wordCount.toNat → streamPos w p m.val < windowLength w →
              fieldWritable s w.table (windowCell w (streamPos w p m.val)).1
                (windowCell w (streamPos w p m.val)).2 = false) →
            ∃ xs q refused,
              TakesRecord (.writeContinue b) s f 0x12 b ((if refused then 0x40 else 0) ||| seqFlag s)
                (answeredWith (.write false xs q refused) (tagsPresent s)) false ∧
              (refused = true ↔ m.val < b.wordCount.toNat ∧ streamPos w p m.val < windowLength w) ∧
              (refused = false → m.val ≠ 0 → q = streamPos w p (m.val - 1) + 1) ∧
              (refused = false → m.val = 0 → q = p) ∧
              xs = (List.range m.val).map fun k =>
                ⟨(windowCell w (streamPos w p k)).1, (windowCell w (streamPos w p k)).2,
                  b.data.toList.getD k 0⟩))) ∧
  ∀ (s : State) (f : Nat),
    (∀ e, fieldWritable s .station e f = true ↔
      (5 ≤ f ∧ f ≤ 15 ∧ s.phase = .config) ∨ (16 ≤ f ∧ f ≤ 19)) ∧
    (∀ c : Chan, fieldWritable s .channel c.val f = true ↔
      (f ∈ [0, 1, 3, 6] ∧
        ((s.chan c).state = .off ∨ (s.chan c).state = .ready ∨ (s.chan c).state = .fault)) ∨
      (f = 8 ∧ s.phase = .config) ∨ f ∈ [2, 4, 5, 7, 9, 10, 11, 12, 13, 14, 15, 16]) ∧
    (∀ e, fieldWritable s .slotMap e f = true ↔ s.phase = .config) ∧
    (∀ e tb, tb = .gainStaged ∨ tb = .schedStaged →
      (fieldWritable s tb e f = true ↔ s.commit.state ≠ .validating ∧ s.commit.state ≠ .switchPending)) ∧
    (∀ e tb, tb = .gainActive ∨ tb = .schedActive ∨ tb = .faults ∨ tb = .traceData →
      fieldWritable s tb e f = false) ∧
    (∀ e, fieldWritable s .counters e f = true) ∧
    ∀ e, fieldWritable s .traceCfg e f = true ↔ s.trace.capture = .idle ∨ s.trace.capture = .done

/-- A write record at its commit: the Service Unit's stream, total, idle count, closure cause and result
(R155, R167, R169, R170); a write answered BUSY, and a CONTINUE whose stream the timer has closed, write
nothing and form one word, 0. The running total stops at 65,535 as a counter (log 23). -/
def Obligations.WriteCommitsMoveStreamAndTotal : Prop :=
  ∀ (s : State) (f : FrameCtx) (h : Header) (at_ : Nat) (clears : Bool),
    (∀ start xs q refused w, GoodService s f h (.write start xs q refused) clears →
      s.service.window = some w → (start = true ∨ s.service.stream.isSome = true) → xs.length ≤ 8 →
      ∃ t, exec (.endOfReception at_ []) s = .next t ∧
        t.service = { s.service with
          tagFirst := if clears then none else s.service.tagFirst
          tagLast := if clears then none else s.service.tagLast
          stream := if refused then none else some ⟨.write, q⟩
          closure := if refused then .refused else s.service.closure
          total := if start then xs.length else min (s.service.total + xs.length) 65535
          idle := 0
          result := [BitVec.ofNat 16 xs.length] } ∧
        t.phase = s.phase ∧ t.commit = s.commit ∧ t.active = s.active ∧ t.latches = s.latches ∧
        t.timer = s.timer ∧ t.gates = s.gates ∧ t.pairs = s.pairs ∧ t.bus = s.bus) ∧
    (∀ xs q refused, GoodService s f h (.write false xs q refused) clears → s.service.stream = none →
      exec (.endOfReception at_ []) s = .next (afterService s f at_ clears [0])) ∧
    (GoodService s f h (.writeBusy true) clears →
      exec (.endOfReception at_ []) s = .next (afterService s f at_ clears [0])) ∧
    (GoodService s f h (.writeBusy false) clears → ∀ st, s.service.stream = some st →
      ∃ t, t = afterService s f at_ clears [0] ∧
        exec (.endOfReception at_ []) s = .next { t with
          service := { t.service with stream := none, closure := .refused } })

/-- The accepted words of a WRITE_START, or of a WRITE_CONTINUE whose stream is still open (R170), refused later in
the record or not, stand in their fields at the commit, written in record order (R167): a field holds the last
word written to it, clamped into the field's range, and every other field of every table reads as before, but for the clamps of CYCLE_TOL and
PRE_COUNT that the commit of CARRIER_H, CYCLE_RATIO or MODE makes, and the counters of the frame itself (R2, R51,
R87, R88, R125, R130, R136, R150, R165, R171). A written I2T_LIM below the level takes the level down to the
limit and sets foldback on, or off at a limit of 0 (R69). -/
def Obligations.WrittenFieldHoldsTheClampedWord : Prop :=
  (∀ (s : State) (fr : FrameCtx) (h : Header) (at_ : Nat) (clears start refused : Bool) (w : Window)
      (xs : List WordWrite) (q : Nat),
    GoodService s fr h (.write start xs q refused) clears → s.service.window = some w →
    (start = true ∨ s.service.stream.isSome = true) →
    (∀ x ∈ xs, x.entry < tableEntries w.table ∧ (clampedWrite s w.table x.field x.word).isSome = true) →
    ∃ t, exec (.endOfReception at_ []) s = .next t ∧
      (∀ ys zs x v, xs = ys ++ x :: zs → (∀ z ∈ zs, (z.entry, z.field) ≠ (x.entry, x.field)) →
        clampedWrite t w.table x.field x.word = some v → readField t w.table x.entry x.field = word v) ∧
      (∀ tb e f, e < tableEntries tb → (tb = w.table → ∀ x ∈ xs, (x.entry, x.field) ≠ (e, f)) →
        (tb ≠ .counters ∨ (f ≠ 0 ∧ f ≠ 8)) → ¬ (tb = .station ∧ f = 9 ∧ w.table = .station) →
        ¬ (tb = .traceCfg ∧ f = 10 ∧ w.table = .traceCfg) → readField t tb e f = readField s tb e f) ∧
      (w.table = .station → (∀ x ∈ xs, x.field ≠ 9) → t.station.cycleTol =
        min s.station.cycleTol (min 65535 (t.station.cycleRatio * (2 * t.station.carrierH) / 2))) ∧
      (w.table = .traceCfg → (∀ x ∈ xs, x.field ≠ 10) → t.trace.cfg.preCount =
        min s.trace.cfg.preCount (if t.trace.cfg.segmented then 1023 else 4095)) ∧
      (w.table = .channel → ∀ c : Chan,
        t.chan c = { s.chan c with record := (t.chan c).record, i2t := (t.chan c).i2t,
                                   foldback := (t.chan c).foldback } ∧
        ((t.chan c).i2t, (t.chan c).foldback) = xs.foldl (fun level x =>
          if x.entry = c.val ∧ x.field = 6 ∧ min x.word.toNat 32767 * 65536 < level.1 then
            (min x.word.toNat 32767 * 65536, decide (0 < x.word.toNat)) else level)
          ((s.chan c).i2t, (s.chan c).foldback))) ∧
  ∀ (s : State) (fr : FrameCtx) (h : Header) (at_ : Nat) (clears : Bool) (w : Window) (c : Chan) (x : Word)
    (q lim : Nat),
    GoodService s fr h (.write true [⟨c.val, 6, x⟩] q false) clears → s.service.window = some w →
    w.table = .channel → lim = min x.toNat 32767 →
    ∃ t, exec (.endOfReception at_ []) s = .next t ∧ (∀ d, d ≠ c → t.chan d = s.chan d) ∧
      t.chan c = { s.chan c with
        record := { (s.chan c).record with i2tLim := lim }
        i2t := min (s.chan c).i2t (lim * 65536)
        foldback := if lim * 65536 < (s.chan c).i2t then decide (0 < lim) else (s.chan c).foldback }

/-- READ_START and READ_CONTINUE as they are taken: SEQ_FAULT, RANGE, BUSY, or the words to read at the
commit; a CONTINUE with its count out of range leaves the stream open (R168). The order of the three where two
hold at once is the model's choice (log 24). -/
def Obligations.ReadRecordsAreJudged : Prop :=
  ∀ (s : State) (f : FrameCtx) (b : RecordBody) (n : Nat), n = b.argument.toNat →
    (TakenHere s f 0x13 b →
      (s.service.window = none → TakesPlainly (.readStart b) s f 0x13 b 0x10 .notExecuted) ∧
      ∀ w, s.service.window = some w →
        ((n < 1 ∨ 8 < n) → TakesPlainly (.readStart b) s f 0x13 b 0x20 .notExecuted) ∧
        (1 ≤ n → n ≤ 8 → w.table = .traceData →
          (s.trace.capture = .pre ∨ s.trace.capture = .armed ∨ s.trace.capture = .post) →
          TakesPlainly (.readStart b) s f 0x13 b 0x80 .notExecuted) ∧
        (1 ≤ n → n ≤ 8 →
          (w.table ≠ .traceData ∨ s.trace.capture = .idle ∨ s.trace.capture = .done) →
          TakesPlainly (.readStart b) s f 0x13 b 0 (.read true n))) ∧
    (TakenHere s f 0x14 b →
      ((∀ p, s.service.stream ≠ some ⟨.read, p⟩) →
        TakesPlainly (.readContinue b) s f 0x14 b 0x10 .notExecuted) ∧
      ∀ p, s.service.stream = some ⟨.read, p⟩ →
        ((n < 1 ∨ 8 < n) →
          TakesRecord (.readContinue b) s f 0x14 b (0x20 ||| seqFlag s)
            (answeredWith .notExecuted (tagsPresent s)) false) ∧
        (1 ≤ n → n ≤ 8 →
          TakesRecord (.readContinue b) s f 0x14 b (seqFlag s)
            (answeredWith (.read false n) (tagsPresent s)) false))

/-- A read record at its commit: the result is the n words from the position on, read as the fields stand
after the frame's counters, with the last field again at N under STOP and from 0 on under WRAP; the stream
keeps the position after them, and its idle count returns to 0 (R155, R168, R170). TRACE_DATA entries read the
records of the last capture, oldest first, segment after segment, and 0 beyond the valid count (R178). -/
def Obligations.ReadCommitsFormTheWordsRead : Prop :=
  (∀ (s : State) (f : FrameCtx) (h : Header) (at_ : Nat) (clears start : Bool) (n p : Nat) (w : Window),
    GoodService s f h (.read start n) clears → 1 ≤ n →
    (s.service.window = some w → p ≤ windowLength w → (start = true → p = 0) →
      (start = false → s.service.stream = some ⟨.read, p⟩) →
      ∃ t r, t = afterService s f at_ clears r ∧
        exec (.endOfReception at_ []) s = .next { t with
          service := { t.service with
            stream := some ⟨.read, if w.wrap then (p + n - 1) % windowLength w + 1
                                   else min (p + n) (windowLength w)⟩
            idle := 0 } } ∧
        r.length = n ∧
        ∀ k, k < n → r.getD k 0 = readField t w.table
          (windowCell w (if w.wrap then (p + k) % windowLength w
            else min (p + k) (windowLength w - 1))).1
          (windowCell w (if w.wrap then (p + k) % windowLength w
            else min (p + k) (windowLength w - 1))).2) ∧
    (start = false → s.service.stream = none →
      exec (.endOfReception at_ []) s = .next (afterService s f at_ clears []))) ∧
  ∀ (s : State) (k : Fin 4) (j e f : Nat) (r : TraceRec),
    (s.trace.armedCfg.segmented = false → k = 0 ∧ j < 4096 ∧ e = j) →
    (s.trace.armedCfg.segmented = true → j < 1024 ∧ e = 1024 * k.val + j) →
    (j < s.trace.segs[k].valid → r = traceRead s.trace.mem (1024 * k.val +
      (s.trace.segs[k].oldest + j) % (if s.trace.armedCfg.segmented then 1024 else 4096))) →
    (s.trace.segs[k].valid ≤ j → r = { w0 := 0, w1 := 0, w2 := 0, w3 := 0 }) →
    (f = 0 → readField s .traceData e f = r.w0) ∧ (f = 1 → readField s .traceData e f = r.w1) ∧
      (f = 2 → readField s .traceData e f = r.w2) ∧ (f = 3 → readField s .traceData e f = r.w3)

/-! ## Banks, tags and group actions -/

/-- COMMIT_BANK and COPY_ACTIVE_TO_STAGED are answered BUSY while a commit is busy; otherwise the commit
starts the validation, or copies the ACTIVE bank into the STAGED bank (R95, R96, R101, R102). -/
def Obligations.BankCommandsWaitForAnIdleCommit : Prop :=
  (∀ (s : State) (f : FrameCtx) (b : RecordBody),
      (TakenHere s f 0x18 b →
        (s.commit.state = .validating ∨ s.commit.state = .switchPending →
          TakesPlainly (.commitBank b) s f 0x18 b 0x80 .notExecuted) ∧
        (s.commit.state = .idle ∨ s.commit.state = .doneOk ∨ s.commit.state = .doneRejected →
          TakesPlainly (.commitBank b) s f 0x18 b 0 .commitBank)) ∧
      (TakenHere s f 0x19 b →
        (s.commit.state = .validating ∨ s.commit.state = .switchPending →
          TakesPlainly (.copyActiveToStaged b) s f 0x19 b 0x80 .notExecuted) ∧
        (s.commit.state = .idle ∨ s.commit.state = .doneOk ∨ s.commit.state = .doneRejected →
          TakesPlainly (.copyActiveToStaged b) s f 0x19 b 0 .copyActiveToStaged))) ∧
    ∀ s : State,
      (CommitsAs s .commitBank [] fun t =>
        { t with commit := { state := .validating, rejChannel := 0, reason := 0, periods := 0 } }) ∧
      CommitsAs s .copyActiveToStaged [] fun t => { t with staged := s.active }

/-- TAG_FIRST and TAG_LAST set their tag at the commit to a channel 0 to 7, and are answered RANGE beyond
it; neither clears a tag (R157, R162). -/
def Obligations.TagCommandsSetTheirTag : Prop :=
  (∀ (s : State) (f : FrameCtx) (b : RecordBody) (c : Chan),
      (TakenHere s f 0x20 b →
        (b.argument.toNat = c.val →
          TakesRecord (.tagFirst b) s f 0x20 b 0 (answeredWith (.tagFirst c) false) true) ∧
        (7 < b.argument.toNat →
          TakesRecord (.tagFirst b) s f 0x20 b 0x20 (answeredWith .notExecuted false) true)) ∧
      (TakenHere s f 0x21 b →
        (b.argument.toNat = c.val →
          TakesRecord (.tagLast b) s f 0x21 b 0 (answeredWith (.tagLast c) false) true) ∧
        (7 < b.argument.toNat →
          TakesRecord (.tagLast b) s f 0x21 b 0x20 (answeredWith .notExecuted false) true))) ∧
    ∀ (s : State) (c : Chan),
      (CommitsAs s (.tagFirst c) [] fun t => { t with service := { t.service with tagFirst := some c } }) ∧
      CommitsAs s (.tagLast c) [] fun t => { t with service := { t.service with tagLast := some c } }

/-- GROUP_ACTION as it is taken: its four rows with sound tags, SEQ_FAULT without them, RANGE for an action
code above 3; in every case the tags are cleared at the commit and SEQ_CLEARED is not set (R162, R163). -/
def Obligations.GroupActionsAreJudgedByTheTags : Prop :=
  ∀ (i : Instr) (a : GroupAction) (s : State) (f : FrameCtx) (b : RecordBody),
    ((i = .groupActionCalibrate b ∧ a = .calibrate ∧ b.argument = 0) ∨
      (i = .groupActionClearFault b ∧ a = .clearFault ∧ b.argument = 1) ∨
      (i = .groupActionAckNotice b ∧ a = .ackNotice ∧ b.argument = 2) ∨
      (i = .groupActionRampdown b ∧ a = .rampdown ∧ b.argument = 3) ∨
      (i = .groupActionCalibrate b ∧ 3 < b.argument.toNat)) → TakenHere s f 0x22 b →
    (∀ first last, s.service.tagFirst = some first → s.service.tagLast = some last → first ≤ last →
      (b.argument.toNat ≤ 3 →
        TakesRecord i s f 0x22 b 0 (answeredWith (.groupAction a first last) true) true) ∧
      (3 < b.argument.toNat →
        TakesRecord i s f 0x22 b 0x20 (answeredWith .notExecuted true) true)) ∧
    ((s.service.tagFirst = none ∨ s.service.tagLast = none ∨
        ∃ first last, s.service.tagFirst = some first ∧ s.service.tagLast = some last ∧ last < first) →
      TakesRecord i s f 0x22 b 0x10 (answeredWith .notExecuted true) true)

/-- CALIBRATE, ACK_NOTICE and RAMPDOWN as group actions at their commit: each tagged channel takes them by
its state, and the result is the mask of the channels that did. RAMPDOWN adds no pending cause, and a paired
leader takes its follower along (R10, R13, R20, R85, R110, R163). -/
def Obligations.GroupActionsReachTheTaggedChannels : Prop :=
  ∀ (s : State) (f : FrameCtx) (h : Header) (at_ : Nat) (clears : Bool) (first last : Chan),
    (GoodService s f h (.groupAction .calibrate first last) clears →
      ∃ t m, exec (.endOfReception at_ []) s = .next t ∧ m.toNat < 256 ∧
        t = { afterService s f at_ clears [m] with channels := t.channels } ∧
        ∀ c, (m.getLsbD c.val = true ↔ first ≤ c ∧ c ≤ last ∧
            ((s.chan c).state = .off ∨ (s.chan c).state = .ready)) ∧
          (m.getLsbD c.val = true → t.chan c = { s.chan c with
            state := .calibrate, calCount := 0, sumA := 0, sumB := 0, calibrated := false }) ∧
          (m.getLsbD c.val = false → t.chan c = s.chan c)) ∧
    (GoodService s f h (.groupAction .ackNotice first last) clears →
      ∃ t m, exec (.endOfReception at_ []) s = .next t ∧ m.toNat < 256 ∧
        t = { afterService s f at_ clears [m] with channels := t.channels } ∧
        ∀ c, (m.getLsbD c.val = true ↔ first ≤ c ∧ c ≤ last ∧ (s.chan c).noticePending = true) ∧
          (first ≤ c ∧ c ≤ last →
            t.chan c = { s.chan c with noticeArmed := true, noticePending := false }) ∧
          (¬ (first ≤ c ∧ c ≤ last) → t.chan c = s.chan c)) ∧
    (GoodService s f h (.groupAction .rampdown first last) clears →
      ∃ t m, exec (.endOfReception at_ []) s = .next t ∧ m.toNat < 256 ∧
        t = { afterService s f at_ clears [m] with channels := t.channels } ∧
        ∀ c, (m.getLsbD c.val = true ↔ first ≤ c ∧ c ≤ last ∧ runOrHold (s.chan c).state = true) ∧
          ((first ≤ c ∧ c ≤ last ∨ (pairedFollower s c = true ∧ first ≤ partnerOf c ∧ partnerOf c ≤ last ∧
              runOrHold (s.chan (partnerOf c)).state = true)) → runOrHold (s.chan c).state = true →
            t.chan c = { s.chan c with state := .rampdown, rampD := (s.chan c).lastRefD,
                                       rampQ := (s.chan c).lastRefQ, rampComplete := false }) ∧
          (¬ ((first ≤ c ∧ c ≤ last ∨ (pairedFollower s c = true ∧ first ≤ partnerOf c ∧
              partnerOf c ≤ last ∧ runOrHold (s.chan (partnerOf c)).state = true)) ∧
              runOrHold (s.chan c).state = true) →
            t.chan c = s.chan c))

/-- CLEAR_FAULT as a group action at its commit: a tagged channel in FAULT all of whose recorded causes meet
their clear conditions enters READY, or OFF with its offsets at 0 when OFFSET_RANGE is recorded; one with a
cause that does not stays and sets clear refused (R18, R20, R78, R79, R163). -/
def Obligations.GroupClearFaultNeedsEveryCauseClearable : Prop :=
  ∀ (s : State) (f : FrameCtx) (h : Header) (at_ : Nat) (clears : Bool) (first last : Chan),
    GoodService s f h (.groupAction .clearFault first last) clears →
    ∃ t m, exec (.endOfReception at_ []) s = .next t ∧ m.toNat < 256 ∧
      t = { afterService s f at_ clears [m] with channels := t.channels } ∧
      ∀ (c : Chan) (recd : Cause → Prop) (ok : Prop),
        (∀ k, recd k ↔ ((s.chan c).fault.firstCause = some k ∨
          causeIn k (s.chan c).fault.alsoSeen = true)) →
        (ok ↔ (recd .angleLost → (s.chan c).invalidCount = 0) ∧
          (recd .busUnder ∨ recd .busOver → s.bus.state = .normal) ∧
          (recd .inhibit → s.inhnLow = false) ∧
          (recd .refLoss → s.phase = .operational ∧ s.timer.missCount = 0)) →
        (m.getLsbD c.val = true ↔ first ≤ c ∧ c ≤ last ∧ (s.chan c).state = .fault ∧ ok) ∧
        (m.getLsbD c.val = true →
          (recd .offsetRange → t.chan c = { s.chan c with
            state := .off, calibrated := false, offA := 0, offB := 0, clearRefused := false }) ∧
          (¬ recd .offsetRange → t.chan c = { s.chan c with state := .ready, clearRefused := false })) ∧
        (first ≤ c ∧ c ≤ last ∧ (s.chan c).state = .fault ∧ ¬ ok →
          t.chan c = { s.chan c with clearRefused := true }) ∧
        (¬ (first ≤ c ∧ c ≤ last ∧ (s.chan c).state = .fault) → t.chan c = s.chan c)

/-! ## Trace capture -/

/-- TRACE_ARM is taken in IDLE and DONE and copies the configuration at its commit; TRACE_STOP ends a
capture; TRACE_TRIGGER is taken in ARMED alone (R172, R174, R177). A FAULT entry of a masked channel, here by
INHIBIT, triggers a capture of source FAULT that is in ARMED, and no other (R174). -/
def Obligations.TraceCommandsMoveTheCapture : Prop :=
  (∀ (s : State) (f : FrameCtx) (b : RecordBody), TakenHere s f 0x30 b →
      (s.trace.capture = .idle ∨ s.trace.capture = .done) →
      TakesPlainly (.traceArm b) s f 0x30 b 0 .traceArm) ∧
    (∀ s : State,
      (CommitsAs s .traceArm [] fun t =>
        { t with trace := { s.trace with
            armedCfg := s.trace.cfg, segs := Vector.replicate 4 { valid := 0, oldest := 0 }, seg := 0,
            pointer := 0, period := 0,
            capture := if s.trace.cfg.preCount = 0 then .armed else .pre } }) ∧
      (CommitsAs s .traceStop [] fun t =>
        { t with trace := { s.trace with
            capture := if s.trace.capture = .idle then .idle else .done } }) ∧
      (s.trace.capture ≠ .armed → CommitsAs s .traceTrigger [] id) ∧
      (s.trace.capture = .armed → s.trace.armedCfg.preCount ≤ traceL s.trace →
        ∃ o : Nat, (o : Int) = ((s.trace.pointer : Int) - s.trace.armedCfg.preCount) % (traceL s.trace : Int) ∧
          CommitsAs s .traceTrigger [] fun t =>
            { t with trace := { s.trace with
                capture := .post
                segs := s.trace.segs.set s.trace.seg ⟨s.trace.armedCfg.preCount, o⟩ } })) ∧
    ∀ (at_ : Nat) (orders : PairOrders) (s : State), s.inhnLow = false → s.moment = none →
      s.trace.armedCfg.preCount ≤ traceL s.trace →
      ∃ t, exec (.inhnAsserted at_ orders) s = .next t ∧
        (s.trace.capture = .armed → s.trace.armedCfg.source = 2 →
          (∃ c : Chan, drives (s.chan c).state = true ∧
            s.trace.armedCfg.sourceArg.getLsbD c.val = true) → Triggered s.trace t.trace) ∧
        (s.trace.capture ≠ .armed ∨ s.trace.armedCfg.source ≠ 2 ∨
            (∀ c : Chan, drives (s.chan c).state = true →
              s.trace.armedCfg.sourceArg.getLsbD c.val = false) → t.trace = s.trace)

/-- A recording sample event writes one record of four last-results words at the pointer and nothing else of
the memory; the pointer, the valid count and the oldest offset move within the segment, in ARMED and PRE with
the oldest record following and in POST with it fixed; a sample event between two recording ones moves the
period count alone (R173). In ARMED the LEVEL source takes a crossing of word 0 as a trigger before the record
is written (R174, R175). The words of the quantities (R173). -/
def Obligations.RecordingSampleWritesOneRecord : Prop :=
  (∀ (x : SampleInputs) (o : SampleOrder) (s : State) (r : TraceRec) (base V : Nat), QuietStart s x →
    s.trace.capture = .armed → s.trace.period = 0 → (∀ c, (s.chan c).comp = none) →
    TraceMem.wf s.trace.mem = true → s.trace.pointer < traceL s.trace →
    r = formRecord s.trace.armedCfg (fun c => (s.chan c).last) →
    base = (if s.trace.armedCfg.segmented then 1024 * s.trace.seg.val else 0) →
    V = min (s.trace.segs[s.trace.seg].valid + 1) (traceL s.trace) →
    ∃ t, exec (.periodStart x o) s = .next t ∧
      traceRead t.trace.mem (base + s.trace.pointer) = r ∧
      (∀ n, n ≠ base + s.trace.pointer → traceRead t.trace.mem n = traceRead s.trace.mem n) ∧
      t.trace.pointer = (s.trace.pointer + 1) % traceL s.trace ∧
      t.trace.segs[s.trace.seg].valid = V ∧
      ((t.trace.segs[s.trace.seg].oldest : Int) = ((t.trace.pointer : Int) - V) % (traceL s.trace : Int)) ∧
      (∀ k : Fin 4, k ≠ s.trace.seg → t.trace.segs[k] = s.trace.segs[k]) ∧
      t.trace.period = (if s.trace.armedCfg.decim ≤ 1 then 0 else 1) ∧
      t.trace.capture = .armed ∧ t.trace.seg = s.trace.seg ∧ t.trace.cfg = s.trace.cfg ∧
      t.trace.armedCfg = s.trace.armedCfg) ∧
  (∀ (x : SampleInputs) (o : SampleOrder) (s : State) (r : TraceRec) (V : Nat), CalmStart s →
    (∀ c : Chan, (x.chans[c]).valid = true) → (∀ c, (s.chan c).comp = none) →
    TraceMem.wf s.trace.mem = true → s.trace.pointer < traceL s.trace → s.trace.period = 0 →
    s.trace.armedCfg.preCount < traceL s.trace →
    r = formRecord s.trace.armedCfg (fun c => (s.chan c).last) → V = s.trace.segs[s.trace.seg].valid →
    ∃ t, exec (.periodStart x o) s = .next t ∧
      (s.trace.capture = .pre → V < s.trace.armedCfg.preCount → t.trace.capture = .pre ∧
        RecordWritten s.trace t.trace r (V + 1)
          (((s.trace.pointer : Int) + 1 - (V + 1 : Nat)) % (traceL s.trace : Int))) ∧
      (s.trace.capture = .post → V < traceL s.trace → t.trace.capture = .post ∧
        RecordWritten s.trace t.trace r (V + 1) s.trace.segs[s.trace.seg].oldest) ∧
      (s.trace.capture = .armed → s.trace.armedCfg.source = 1 →
        ∀ (crossed : Prop) (value : Word → Int) (prev : Word),
        value = (fun y => if s.trace.armedCfg.sel0Q ≤ 8 then y.toInt else (y.toNat : Int)) →
        prev = (traceRead s.trace.mem ((if s.trace.armedCfg.segmented then 1024 * s.trace.seg.val else 0) +
          (s.trace.pointer + traceL s.trace - 1) % traceL s.trace)).w0 →
        (crossed ↔ V ≠ 0 ∧
          (s.trace.armedCfg.sourceArg = 0 → value prev < value s.trace.armedCfg.threshold ∧
            value s.trace.armedCfg.threshold ≤ value r.w0) ∧
          (s.trace.armedCfg.sourceArg ≠ 0 → value s.trace.armedCfg.threshold < value prev ∧
            value r.w0 ≤ value s.trace.armedCfg.threshold)) →
        (crossed → t.trace.capture = .post ∧
          RecordWritten s.trace t.trace r (s.trace.armedCfg.preCount + 1)
            (((s.trace.pointer : Int) - s.trace.armedCfg.preCount) % (traceL s.trace : Int))) ∧
        (¬ crossed → t.trace.capture = .armed ∧
          RecordWritten s.trace t.trace r (min (V + 1) (traceL s.trace))
            (((s.trace.pointer : Int) + 1 - (min (V + 1) (traceL s.trace) : Nat)) %
              (traceL s.trace : Int))))) ∧
  (∀ (x : SampleInputs) (o : SampleOrder) (s : State), CalmStart s →
    (∀ c : Chan, (x.chans[c]).valid = true) → s.trace.period ≠ 0 →
    (s.trace.capture = .pre ∧ s.trace.segs[s.trace.seg].valid < s.trace.armedCfg.preCount) ∨
      (s.trace.capture = .armed ∧ s.trace.armedCfg.source ≠ 2) ∨
      (s.trace.capture = .post ∧ s.trace.segs[s.trace.seg].valid < traceL s.trace) →
    ∃ t, exec (.periodStart x o) s = .next t ∧
      t.trace = { s.trace with
        period := if s.trace.period + 1 < s.trace.armedCfg.decim then s.trace.period + 1 else 0 }) ∧
  ∀ (cfg : TraceCfg) (last : Chan → LastResults) (q : Nat) (l : LastResults) (y : Word),
    (formRecord cfg last).w0 = quantityWord cfg.sel0Q (last cfg.sel0Ch) ∧
    (formRecord cfg last).w1 = quantityWord cfg.sel1Q (last cfg.sel1Ch) ∧
    (formRecord cfg last).w2 = quantityWord cfg.sel2Q (last cfg.sel2Ch) ∧
    (formRecord cfg last).w3 = quantityWord cfg.sel3Q (last cfg.sel3Ch) ∧
    (y = quantityWord q l →
      (q = 0 → y = word l.ia) ∧ (q = 1 → y = word l.ib) ∧ (q = 2 → y = word l.id) ∧
      (q = 3 → y = word l.iq) ∧ (q = 4 → y = word l.idRef) ∧ (q = 5 → y = word l.iqRef) ∧
      (q = 6 → y = word l.vd) ∧ (q = 7 → y = word l.vq) ∧ (q = 8 → y = word l.speed) ∧
      (q = 9 → y = word l.angle) ∧ (q = 10 → y = word l.vbus) ∧
      (q = 11 → y = word (rshift 16 l.i2t)) ∧ (q = 12 → y = word (stateCode l.state)) ∧
      (q = 13 → y = 0))

/-- TRACE_ARMED_ENTRY: in PRE, when V has reached P, the capture becomes ARMED (R173). SEGMENT_COMPLETE: in
POST, when V has reached L, the next segment starts, or the capture is DONE after the last (R176). Both are
taken here with the sample event over. -/
def Obligations.ArmedEntryAndSegmentCompletionAreTaken : Prop :=
  ∀ s : State, (∀ w, s.moment = some w → w.walk = []) →
    (s.trace.capture = .pre → s.trace.segs[s.trace.seg].valid = s.trace.armedCfg.preCount →
      ∃ t, exec .traceArmedEntry s = .next t ∧
        t = { s with trace := { s.trace with capture := .armed }, moment := t.moment }) ∧
    (s.trace.capture = .post → s.trace.segs[s.trace.seg].valid = traceL s.trace →
      ∃ t, exec .segmentComplete s = .next t ∧
        t = { s with trace := t.trace, moment := t.moment } ∧
        (s.trace.armedCfg.segmented = true ∧ s.trace.seg.val < 3 →
          t.trace = { s.trace with seg := t.trace.seg, pointer := 0,
                                   capture := if s.trace.armedCfg.preCount = 0 then .armed else .pre } ∧
          t.trace.seg.val = s.trace.seg.val + 1) ∧
        (¬ (s.trace.armedCfg.segmented = true ∧ s.trace.seg.val < 3) →
          t.trace = { s.trace with capture := .done }))

/-! ## Invariants of every step -/

/-- The invariants hold after pin reset. -/
def Obligations.InvariantsHoldAtReset : Prop :=
  State.reset.gatesSafe = true ∧ State.reset.channelsSound = true ∧ State.reset.trace.sound = true ∧
    State.reset.counters.bounded = true ∧ StationSound State.reset

/-- Every step keeps the switches safe: no leg with both switches on, switches on only with the output enable
on and INHN released, and the output enable on exactly in RUN, HOLD and RAMPDOWN (R55, R56, R58, R60); while
RESETN is asserted no output enable is on and no frame is being received (R62, R124). -/
def Obligations.EveryStepKeepsTheSwitchesSafe : Prop :=
  ∀ s t : State, s.gatesSafe = true → step s = .next t → t.gatesSafe = true

/-- Every step keeps the channels sound: the integrators within their bound, and at 0 with the last effective
references outside RUN, HOLD and RAMPDOWN; the notice flags opposite; the i2t level within I2T_LIM x 65536 (R3,
R45, R67, R69, R84, R85). Every step keeps the link counters within 65,535 (R130). -/
def Obligations.EveryStepKeepsChannelsAndCountersSound : Prop :=
  ∀ s t : State, step s = .next t →
    (s.channelsSound = true → t.channelsSound = true) ∧
      (s.counters.bounded = true → t.counters.bounded = true)

/-- Every step keeps the Trace Unit sound: no valid count above the capture length, PRE_COUNT below it, the
pointer within the segment, and the memory in its canonical form (R171, R173). -/
def Obligations.EveryStepKeepsTheTraceUnitSound : Prop :=
  ∀ s t : State, s.trace.sound = true → step s = .next t → t.trace.sound = true

/-- Every step keeps the station as a whole sound: in CONFIG no channel drives and no pair is configured, a
frame is processed in the phase the station holds, and a paired follower is in RUN or HOLD only while its
leader is (R24, R106, R110, R116, R158, R159). -/
def Obligations.EveryStepKeepsTheStationSound : Prop :=
  ∀ s t : State, StationSound s → step s = .next t → StationSound t
end

