-- ==== Sys2Proof/Laws/State.lean ====
section
/-! SUPPORT. One lemma per field per named update of the state, and what a channel, its gates and its
latches read after an update. -/

namespace Sys2Proof.Machine

open Sys2Proof

/-! ## setChan -/

@[simp] theorem State.setChan_now (s : State) (c : Chan) (ch : Channel) : (s.setChan c ch).now = s.now := rfl
@[simp] theorem State.setChan_resetLow (s : State) (c : Chan) (ch : Channel) : (s.setChan c ch).resetLow = s.resetLow := rfl
@[simp] theorem State.setChan_inhnLow (s : State) (c : Chan) (ch : Channel) : (s.setChan c ch).inhnLow = s.inhnLow := rfl
@[simp] theorem State.setChan_address (s : State) (c : Chan) (ch : Channel) : (s.setChan c ch).address = s.address := rfl
@[simp] theorem State.setChan_phase (s : State) (c : Chan) (ch : Channel) : (s.setChan c ch).phase = s.phase := rfl
@[simp] theorem State.setChan_station (s : State) (c : Chan) (ch : Channel) : (s.setChan c ch).station = s.station := rfl
@[simp] theorem State.setChan_carrier (s : State) (c : Chan) (ch : Channel) : (s.setChan c ch).carrier = s.carrier := rfl
@[simp] theorem State.setChan_gates (s : State) (c : Chan) (ch : Channel) : (s.setChan c ch).gates = s.gates := rfl
@[simp] theorem State.setChan_sense (s : State) (c : Chan) (ch : Channel) : (s.setChan c ch).sense = s.sense := rfl
@[simp] theorem State.setChan_bus (s : State) (c : Chan) (ch : Channel) : (s.setChan c ch).bus = s.bus := rfl
@[simp] theorem State.setChan_active (s : State) (c : Chan) (ch : Channel) : (s.setChan c ch).active = s.active := rfl
@[simp] theorem State.setChan_staged (s : State) (c : Chan) (ch : Channel) : (s.setChan c ch).staged = s.staged := rfl
@[simp] theorem State.setChan_commit (s : State) (c : Chan) (ch : Channel) : (s.setChan c ch).commit = s.commit := rfl
@[simp] theorem State.setChan_pairs (s : State) (c : Chan) (ch : Channel) : (s.setChan c ch).pairs = s.pairs := rfl
@[simp] theorem State.setChan_timer (s : State) (c : Chan) (ch : Channel) : (s.setChan c ch).timer = s.timer := rfl
@[simp] theorem State.setChan_counters (s : State) (c : Chan) (ch : Channel) : (s.setChan c ch).counters = s.counters := rfl
@[simp] theorem State.setChan_slotMap (s : State) (c : Chan) (ch : Channel) : (s.setChan c ch).slotMap = s.slotMap := rfl
@[simp] theorem State.setChan_latches (s : State) (c : Chan) (ch : Channel) : (s.setChan c ch).latches = s.latches := rfl
@[simp] theorem State.setChan_prevControl (s : State) (c : Chan) (ch : Channel) : (s.setChan c ch).prevControl = s.prevControl := rfl
@[simp] theorem State.setChan_service (s : State) (c : Chan) (ch : Channel) : (s.setChan c ch).service = s.service := rfl
@[simp] theorem State.setChan_port (s : State) (c : Chan) (ch : Channel) : (s.setChan c ch).port = s.port := rfl
@[simp] theorem State.setChan_trace (s : State) (c : Chan) (ch : Channel) : (s.setChan c ch).trace = s.trace := rfl
@[simp] theorem State.setChan_freeUsed (s : State) (c : Chan) (ch : Channel) : (s.setChan c ch).freeUsed = s.freeUsed := rfl
@[simp] theorem State.setChan_moment (s : State) (c : Chan) (ch : Channel) : (s.setChan c ch).moment = s.moment := rfl
@[simp] theorem State.setChan_pending (s : State) (c : Chan) (ch : Channel) : (s.setChan c ch).pending = s.pending := rfl

/-! ## modChan -/

@[simp] theorem State.modChan_now (s : State) (c : Chan) (f : Channel → Channel) : (s.modChan c f).now = s.now := rfl
@[simp] theorem State.modChan_resetLow (s : State) (c : Chan) (f : Channel → Channel) : (s.modChan c f).resetLow = s.resetLow := rfl
@[simp] theorem State.modChan_inhnLow (s : State) (c : Chan) (f : Channel → Channel) : (s.modChan c f).inhnLow = s.inhnLow := rfl
@[simp] theorem State.modChan_address (s : State) (c : Chan) (f : Channel → Channel) : (s.modChan c f).address = s.address := rfl
@[simp] theorem State.modChan_phase (s : State) (c : Chan) (f : Channel → Channel) : (s.modChan c f).phase = s.phase := rfl
@[simp] theorem State.modChan_station (s : State) (c : Chan) (f : Channel → Channel) : (s.modChan c f).station = s.station := rfl
@[simp] theorem State.modChan_carrier (s : State) (c : Chan) (f : Channel → Channel) : (s.modChan c f).carrier = s.carrier := rfl
@[simp] theorem State.modChan_gates (s : State) (c : Chan) (f : Channel → Channel) : (s.modChan c f).gates = s.gates := rfl
@[simp] theorem State.modChan_sense (s : State) (c : Chan) (f : Channel → Channel) : (s.modChan c f).sense = s.sense := rfl
@[simp] theorem State.modChan_bus (s : State) (c : Chan) (f : Channel → Channel) : (s.modChan c f).bus = s.bus := rfl
@[simp] theorem State.modChan_active (s : State) (c : Chan) (f : Channel → Channel) : (s.modChan c f).active = s.active := rfl
@[simp] theorem State.modChan_staged (s : State) (c : Chan) (f : Channel → Channel) : (s.modChan c f).staged = s.staged := rfl
@[simp] theorem State.modChan_commit (s : State) (c : Chan) (f : Channel → Channel) : (s.modChan c f).commit = s.commit := rfl
@[simp] theorem State.modChan_pairs (s : State) (c : Chan) (f : Channel → Channel) : (s.modChan c f).pairs = s.pairs := rfl
@[simp] theorem State.modChan_timer (s : State) (c : Chan) (f : Channel → Channel) : (s.modChan c f).timer = s.timer := rfl
@[simp] theorem State.modChan_counters (s : State) (c : Chan) (f : Channel → Channel) : (s.modChan c f).counters = s.counters := rfl
@[simp] theorem State.modChan_slotMap (s : State) (c : Chan) (f : Channel → Channel) : (s.modChan c f).slotMap = s.slotMap := rfl
@[simp] theorem State.modChan_latches (s : State) (c : Chan) (f : Channel → Channel) : (s.modChan c f).latches = s.latches := rfl
@[simp] theorem State.modChan_prevControl (s : State) (c : Chan) (f : Channel → Channel) : (s.modChan c f).prevControl = s.prevControl := rfl
@[simp] theorem State.modChan_service (s : State) (c : Chan) (f : Channel → Channel) : (s.modChan c f).service = s.service := rfl
@[simp] theorem State.modChan_port (s : State) (c : Chan) (f : Channel → Channel) : (s.modChan c f).port = s.port := rfl
@[simp] theorem State.modChan_trace (s : State) (c : Chan) (f : Channel → Channel) : (s.modChan c f).trace = s.trace := rfl
@[simp] theorem State.modChan_freeUsed (s : State) (c : Chan) (f : Channel → Channel) : (s.modChan c f).freeUsed = s.freeUsed := rfl
@[simp] theorem State.modChan_moment (s : State) (c : Chan) (f : Channel → Channel) : (s.modChan c f).moment = s.moment := rfl
@[simp] theorem State.modChan_pending (s : State) (c : Chan) (f : Channel → Channel) : (s.modChan c f).pending = s.pending := rfl

/-! ## mapChans -/

@[simp] theorem State.mapChans_now (s : State) (f : Chan → Channel → Channel) : (s.mapChans f).now = s.now := rfl
@[simp] theorem State.mapChans_resetLow (s : State) (f : Chan → Channel → Channel) : (s.mapChans f).resetLow = s.resetLow := rfl
@[simp] theorem State.mapChans_inhnLow (s : State) (f : Chan → Channel → Channel) : (s.mapChans f).inhnLow = s.inhnLow := rfl
@[simp] theorem State.mapChans_address (s : State) (f : Chan → Channel → Channel) : (s.mapChans f).address = s.address := rfl
@[simp] theorem State.mapChans_phase (s : State) (f : Chan → Channel → Channel) : (s.mapChans f).phase = s.phase := rfl
@[simp] theorem State.mapChans_station (s : State) (f : Chan → Channel → Channel) : (s.mapChans f).station = s.station := rfl
@[simp] theorem State.mapChans_carrier (s : State) (f : Chan → Channel → Channel) : (s.mapChans f).carrier = s.carrier := rfl
@[simp] theorem State.mapChans_gates (s : State) (f : Chan → Channel → Channel) : (s.mapChans f).gates = s.gates := rfl
@[simp] theorem State.mapChans_sense (s : State) (f : Chan → Channel → Channel) : (s.mapChans f).sense = s.sense := rfl
@[simp] theorem State.mapChans_bus (s : State) (f : Chan → Channel → Channel) : (s.mapChans f).bus = s.bus := rfl
@[simp] theorem State.mapChans_active (s : State) (f : Chan → Channel → Channel) : (s.mapChans f).active = s.active := rfl
@[simp] theorem State.mapChans_staged (s : State) (f : Chan → Channel → Channel) : (s.mapChans f).staged = s.staged := rfl
@[simp] theorem State.mapChans_commit (s : State) (f : Chan → Channel → Channel) : (s.mapChans f).commit = s.commit := rfl
@[simp] theorem State.mapChans_pairs (s : State) (f : Chan → Channel → Channel) : (s.mapChans f).pairs = s.pairs := rfl
@[simp] theorem State.mapChans_timer (s : State) (f : Chan → Channel → Channel) : (s.mapChans f).timer = s.timer := rfl
@[simp] theorem State.mapChans_counters (s : State) (f : Chan → Channel → Channel) : (s.mapChans f).counters = s.counters := rfl
@[simp] theorem State.mapChans_slotMap (s : State) (f : Chan → Channel → Channel) : (s.mapChans f).slotMap = s.slotMap := rfl
@[simp] theorem State.mapChans_latches (s : State) (f : Chan → Channel → Channel) : (s.mapChans f).latches = s.latches := rfl
@[simp] theorem State.mapChans_prevControl (s : State) (f : Chan → Channel → Channel) : (s.mapChans f).prevControl = s.prevControl := rfl
@[simp] theorem State.mapChans_service (s : State) (f : Chan → Channel → Channel) : (s.mapChans f).service = s.service := rfl
@[simp] theorem State.mapChans_port (s : State) (f : Chan → Channel → Channel) : (s.mapChans f).port = s.port := rfl
@[simp] theorem State.mapChans_trace (s : State) (f : Chan → Channel → Channel) : (s.mapChans f).trace = s.trace := rfl
@[simp] theorem State.mapChans_freeUsed (s : State) (f : Chan → Channel → Channel) : (s.mapChans f).freeUsed = s.freeUsed := rfl
@[simp] theorem State.mapChans_moment (s : State) (f : Chan → Channel → Channel) : (s.mapChans f).moment = s.moment := rfl
@[simp] theorem State.mapChans_pending (s : State) (f : Chan → Channel → Channel) : (s.mapChans f).pending = s.pending := rfl

/-! ## setGate -/

@[simp] theorem State.setGate_now (s : State) (c : Chan) (g : Gate) : (s.setGate c g).now = s.now := rfl
@[simp] theorem State.setGate_resetLow (s : State) (c : Chan) (g : Gate) : (s.setGate c g).resetLow = s.resetLow := rfl
@[simp] theorem State.setGate_inhnLow (s : State) (c : Chan) (g : Gate) : (s.setGate c g).inhnLow = s.inhnLow := rfl
@[simp] theorem State.setGate_address (s : State) (c : Chan) (g : Gate) : (s.setGate c g).address = s.address := rfl
@[simp] theorem State.setGate_phase (s : State) (c : Chan) (g : Gate) : (s.setGate c g).phase = s.phase := rfl
@[simp] theorem State.setGate_station (s : State) (c : Chan) (g : Gate) : (s.setGate c g).station = s.station := rfl
@[simp] theorem State.setGate_carrier (s : State) (c : Chan) (g : Gate) : (s.setGate c g).carrier = s.carrier := rfl
@[simp] theorem State.setGate_sense (s : State) (c : Chan) (g : Gate) : (s.setGate c g).sense = s.sense := rfl
@[simp] theorem State.setGate_bus (s : State) (c : Chan) (g : Gate) : (s.setGate c g).bus = s.bus := rfl
@[simp] theorem State.setGate_channels (s : State) (c : Chan) (g : Gate) : (s.setGate c g).channels = s.channels := rfl
@[simp] theorem State.setGate_active (s : State) (c : Chan) (g : Gate) : (s.setGate c g).active = s.active := rfl
@[simp] theorem State.setGate_staged (s : State) (c : Chan) (g : Gate) : (s.setGate c g).staged = s.staged := rfl
@[simp] theorem State.setGate_commit (s : State) (c : Chan) (g : Gate) : (s.setGate c g).commit = s.commit := rfl
@[simp] theorem State.setGate_pairs (s : State) (c : Chan) (g : Gate) : (s.setGate c g).pairs = s.pairs := rfl
@[simp] theorem State.setGate_timer (s : State) (c : Chan) (g : Gate) : (s.setGate c g).timer = s.timer := rfl
@[simp] theorem State.setGate_counters (s : State) (c : Chan) (g : Gate) : (s.setGate c g).counters = s.counters := rfl
@[simp] theorem State.setGate_slotMap (s : State) (c : Chan) (g : Gate) : (s.setGate c g).slotMap = s.slotMap := rfl
@[simp] theorem State.setGate_latches (s : State) (c : Chan) (g : Gate) : (s.setGate c g).latches = s.latches := rfl
@[simp] theorem State.setGate_prevControl (s : State) (c : Chan) (g : Gate) : (s.setGate c g).prevControl = s.prevControl := rfl
@[simp] theorem State.setGate_service (s : State) (c : Chan) (g : Gate) : (s.setGate c g).service = s.service := rfl
@[simp] theorem State.setGate_port (s : State) (c : Chan) (g : Gate) : (s.setGate c g).port = s.port := rfl
@[simp] theorem State.setGate_trace (s : State) (c : Chan) (g : Gate) : (s.setGate c g).trace = s.trace := rfl
@[simp] theorem State.setGate_freeUsed (s : State) (c : Chan) (g : Gate) : (s.setGate c g).freeUsed = s.freeUsed := rfl
@[simp] theorem State.setGate_moment (s : State) (c : Chan) (g : Gate) : (s.setGate c g).moment = s.moment := rfl
@[simp] theorem State.setGate_pending (s : State) (c : Chan) (g : Gate) : (s.setGate c g).pending = s.pending := rfl

/-! ## modGate -/

@[simp] theorem State.modGate_now (s : State) (c : Chan) (f : Gate → Gate) : (s.modGate c f).now = s.now := rfl
@[simp] theorem State.modGate_resetLow (s : State) (c : Chan) (f : Gate → Gate) : (s.modGate c f).resetLow = s.resetLow := rfl
@[simp] theorem State.modGate_inhnLow (s : State) (c : Chan) (f : Gate → Gate) : (s.modGate c f).inhnLow = s.inhnLow := rfl
@[simp] theorem State.modGate_address (s : State) (c : Chan) (f : Gate → Gate) : (s.modGate c f).address = s.address := rfl
@[simp] theorem State.modGate_phase (s : State) (c : Chan) (f : Gate → Gate) : (s.modGate c f).phase = s.phase := rfl
@[simp] theorem State.modGate_station (s : State) (c : Chan) (f : Gate → Gate) : (s.modGate c f).station = s.station := rfl
@[simp] theorem State.modGate_carrier (s : State) (c : Chan) (f : Gate → Gate) : (s.modGate c f).carrier = s.carrier := rfl
@[simp] theorem State.modGate_sense (s : State) (c : Chan) (f : Gate → Gate) : (s.modGate c f).sense = s.sense := rfl
@[simp] theorem State.modGate_bus (s : State) (c : Chan) (f : Gate → Gate) : (s.modGate c f).bus = s.bus := rfl
@[simp] theorem State.modGate_channels (s : State) (c : Chan) (f : Gate → Gate) : (s.modGate c f).channels = s.channels := rfl
@[simp] theorem State.modGate_active (s : State) (c : Chan) (f : Gate → Gate) : (s.modGate c f).active = s.active := rfl
@[simp] theorem State.modGate_staged (s : State) (c : Chan) (f : Gate → Gate) : (s.modGate c f).staged = s.staged := rfl
@[simp] theorem State.modGate_commit (s : State) (c : Chan) (f : Gate → Gate) : (s.modGate c f).commit = s.commit := rfl
@[simp] theorem State.modGate_pairs (s : State) (c : Chan) (f : Gate → Gate) : (s.modGate c f).pairs = s.pairs := rfl
@[simp] theorem State.modGate_timer (s : State) (c : Chan) (f : Gate → Gate) : (s.modGate c f).timer = s.timer := rfl
@[simp] theorem State.modGate_counters (s : State) (c : Chan) (f : Gate → Gate) : (s.modGate c f).counters = s.counters := rfl
@[simp] theorem State.modGate_slotMap (s : State) (c : Chan) (f : Gate → Gate) : (s.modGate c f).slotMap = s.slotMap := rfl
@[simp] theorem State.modGate_latches (s : State) (c : Chan) (f : Gate → Gate) : (s.modGate c f).latches = s.latches := rfl
@[simp] theorem State.modGate_prevControl (s : State) (c : Chan) (f : Gate → Gate) : (s.modGate c f).prevControl = s.prevControl := rfl
@[simp] theorem State.modGate_service (s : State) (c : Chan) (f : Gate → Gate) : (s.modGate c f).service = s.service := rfl
@[simp] theorem State.modGate_port (s : State) (c : Chan) (f : Gate → Gate) : (s.modGate c f).port = s.port := rfl
@[simp] theorem State.modGate_trace (s : State) (c : Chan) (f : Gate → Gate) : (s.modGate c f).trace = s.trace := rfl
@[simp] theorem State.modGate_freeUsed (s : State) (c : Chan) (f : Gate → Gate) : (s.modGate c f).freeUsed = s.freeUsed := rfl
@[simp] theorem State.modGate_moment (s : State) (c : Chan) (f : Gate → Gate) : (s.modGate c f).moment = s.moment := rfl
@[simp] theorem State.modGate_pending (s : State) (c : Chan) (f : Gate → Gate) : (s.modGate c f).pending = s.pending := rfl

/-! ## mapGates -/

@[simp] theorem State.mapGates_now (s : State) (f : Gate → Gate) : (s.mapGates f).now = s.now := rfl
@[simp] theorem State.mapGates_resetLow (s : State) (f : Gate → Gate) : (s.mapGates f).resetLow = s.resetLow := rfl
@[simp] theorem State.mapGates_inhnLow (s : State) (f : Gate → Gate) : (s.mapGates f).inhnLow = s.inhnLow := rfl
@[simp] theorem State.mapGates_address (s : State) (f : Gate → Gate) : (s.mapGates f).address = s.address := rfl
@[simp] theorem State.mapGates_phase (s : State) (f : Gate → Gate) : (s.mapGates f).phase = s.phase := rfl
@[simp] theorem State.mapGates_station (s : State) (f : Gate → Gate) : (s.mapGates f).station = s.station := rfl
@[simp] theorem State.mapGates_carrier (s : State) (f : Gate → Gate) : (s.mapGates f).carrier = s.carrier := rfl
@[simp] theorem State.mapGates_sense (s : State) (f : Gate → Gate) : (s.mapGates f).sense = s.sense := rfl
@[simp] theorem State.mapGates_bus (s : State) (f : Gate → Gate) : (s.mapGates f).bus = s.bus := rfl
@[simp] theorem State.mapGates_channels (s : State) (f : Gate → Gate) : (s.mapGates f).channels = s.channels := rfl
@[simp] theorem State.mapGates_active (s : State) (f : Gate → Gate) : (s.mapGates f).active = s.active := rfl
@[simp] theorem State.mapGates_staged (s : State) (f : Gate → Gate) : (s.mapGates f).staged = s.staged := rfl
@[simp] theorem State.mapGates_commit (s : State) (f : Gate → Gate) : (s.mapGates f).commit = s.commit := rfl
@[simp] theorem State.mapGates_pairs (s : State) (f : Gate → Gate) : (s.mapGates f).pairs = s.pairs := rfl
@[simp] theorem State.mapGates_timer (s : State) (f : Gate → Gate) : (s.mapGates f).timer = s.timer := rfl
@[simp] theorem State.mapGates_counters (s : State) (f : Gate → Gate) : (s.mapGates f).counters = s.counters := rfl
@[simp] theorem State.mapGates_slotMap (s : State) (f : Gate → Gate) : (s.mapGates f).slotMap = s.slotMap := rfl
@[simp] theorem State.mapGates_latches (s : State) (f : Gate → Gate) : (s.mapGates f).latches = s.latches := rfl
@[simp] theorem State.mapGates_prevControl (s : State) (f : Gate → Gate) : (s.mapGates f).prevControl = s.prevControl := rfl
@[simp] theorem State.mapGates_service (s : State) (f : Gate → Gate) : (s.mapGates f).service = s.service := rfl
@[simp] theorem State.mapGates_port (s : State) (f : Gate → Gate) : (s.mapGates f).port = s.port := rfl
@[simp] theorem State.mapGates_trace (s : State) (f : Gate → Gate) : (s.mapGates f).trace = s.trace := rfl
@[simp] theorem State.mapGates_freeUsed (s : State) (f : Gate → Gate) : (s.mapGates f).freeUsed = s.freeUsed := rfl
@[simp] theorem State.mapGates_moment (s : State) (f : Gate → Gate) : (s.mapGates f).moment = s.moment := rfl
@[simp] theorem State.mapGates_pending (s : State) (f : Gate → Gate) : (s.mapGates f).pending = s.pending := rfl

/-! ## setLatch -/

@[simp] theorem State.setLatch_now (s : State) (c : Chan) (l : Latches) : (s.setLatch c l).now = s.now := rfl
@[simp] theorem State.setLatch_resetLow (s : State) (c : Chan) (l : Latches) : (s.setLatch c l).resetLow = s.resetLow := rfl
@[simp] theorem State.setLatch_inhnLow (s : State) (c : Chan) (l : Latches) : (s.setLatch c l).inhnLow = s.inhnLow := rfl
@[simp] theorem State.setLatch_address (s : State) (c : Chan) (l : Latches) : (s.setLatch c l).address = s.address := rfl
@[simp] theorem State.setLatch_phase (s : State) (c : Chan) (l : Latches) : (s.setLatch c l).phase = s.phase := rfl
@[simp] theorem State.setLatch_station (s : State) (c : Chan) (l : Latches) : (s.setLatch c l).station = s.station := rfl
@[simp] theorem State.setLatch_carrier (s : State) (c : Chan) (l : Latches) : (s.setLatch c l).carrier = s.carrier := rfl
@[simp] theorem State.setLatch_gates (s : State) (c : Chan) (l : Latches) : (s.setLatch c l).gates = s.gates := rfl
@[simp] theorem State.setLatch_sense (s : State) (c : Chan) (l : Latches) : (s.setLatch c l).sense = s.sense := rfl
@[simp] theorem State.setLatch_bus (s : State) (c : Chan) (l : Latches) : (s.setLatch c l).bus = s.bus := rfl
@[simp] theorem State.setLatch_channels (s : State) (c : Chan) (l : Latches) : (s.setLatch c l).channels = s.channels := rfl
@[simp] theorem State.setLatch_active (s : State) (c : Chan) (l : Latches) : (s.setLatch c l).active = s.active := rfl
@[simp] theorem State.setLatch_staged (s : State) (c : Chan) (l : Latches) : (s.setLatch c l).staged = s.staged := rfl
@[simp] theorem State.setLatch_commit (s : State) (c : Chan) (l : Latches) : (s.setLatch c l).commit = s.commit := rfl
@[simp] theorem State.setLatch_pairs (s : State) (c : Chan) (l : Latches) : (s.setLatch c l).pairs = s.pairs := rfl
@[simp] theorem State.setLatch_timer (s : State) (c : Chan) (l : Latches) : (s.setLatch c l).timer = s.timer := rfl
@[simp] theorem State.setLatch_counters (s : State) (c : Chan) (l : Latches) : (s.setLatch c l).counters = s.counters := rfl
@[simp] theorem State.setLatch_slotMap (s : State) (c : Chan) (l : Latches) : (s.setLatch c l).slotMap = s.slotMap := rfl
@[simp] theorem State.setLatch_prevControl (s : State) (c : Chan) (l : Latches) : (s.setLatch c l).prevControl = s.prevControl := rfl
@[simp] theorem State.setLatch_service (s : State) (c : Chan) (l : Latches) : (s.setLatch c l).service = s.service := rfl
@[simp] theorem State.setLatch_port (s : State) (c : Chan) (l : Latches) : (s.setLatch c l).port = s.port := rfl
@[simp] theorem State.setLatch_trace (s : State) (c : Chan) (l : Latches) : (s.setLatch c l).trace = s.trace := rfl
@[simp] theorem State.setLatch_freeUsed (s : State) (c : Chan) (l : Latches) : (s.setLatch c l).freeUsed = s.freeUsed := rfl
@[simp] theorem State.setLatch_moment (s : State) (c : Chan) (l : Latches) : (s.setLatch c l).moment = s.moment := rfl
@[simp] theorem State.setLatch_pending (s : State) (c : Chan) (l : Latches) : (s.setLatch c l).pending = s.pending := rfl

/-! ## withNow -/

@[simp] theorem State.withNow_now (s : State) (t : Nat) : (s.withNow t).now = t := rfl
@[simp] theorem State.withNow_resetLow (s : State) (t : Nat) : (s.withNow t).resetLow = s.resetLow := rfl
@[simp] theorem State.withNow_inhnLow (s : State) (t : Nat) : (s.withNow t).inhnLow = s.inhnLow := rfl
@[simp] theorem State.withNow_address (s : State) (t : Nat) : (s.withNow t).address = s.address := rfl
@[simp] theorem State.withNow_phase (s : State) (t : Nat) : (s.withNow t).phase = s.phase := rfl
@[simp] theorem State.withNow_station (s : State) (t : Nat) : (s.withNow t).station = s.station := rfl
@[simp] theorem State.withNow_carrier (s : State) (t : Nat) : (s.withNow t).carrier = s.carrier := rfl
@[simp] theorem State.withNow_gates (s : State) (t : Nat) : (s.withNow t).gates = s.gates := rfl
@[simp] theorem State.withNow_sense (s : State) (t : Nat) : (s.withNow t).sense = s.sense := rfl
@[simp] theorem State.withNow_bus (s : State) (t : Nat) : (s.withNow t).bus = s.bus := rfl
@[simp] theorem State.withNow_channels (s : State) (t : Nat) : (s.withNow t).channels = s.channels := rfl
@[simp] theorem State.withNow_active (s : State) (t : Nat) : (s.withNow t).active = s.active := rfl
@[simp] theorem State.withNow_staged (s : State) (t : Nat) : (s.withNow t).staged = s.staged := rfl
@[simp] theorem State.withNow_commit (s : State) (t : Nat) : (s.withNow t).commit = s.commit := rfl
@[simp] theorem State.withNow_pairs (s : State) (t : Nat) : (s.withNow t).pairs = s.pairs := rfl
@[simp] theorem State.withNow_timer (s : State) (t : Nat) : (s.withNow t).timer = s.timer := rfl
@[simp] theorem State.withNow_counters (s : State) (t : Nat) : (s.withNow t).counters = s.counters := rfl
@[simp] theorem State.withNow_slotMap (s : State) (t : Nat) : (s.withNow t).slotMap = s.slotMap := rfl
@[simp] theorem State.withNow_latches (s : State) (t : Nat) : (s.withNow t).latches = s.latches := rfl
@[simp] theorem State.withNow_prevControl (s : State) (t : Nat) : (s.withNow t).prevControl = s.prevControl := rfl
@[simp] theorem State.withNow_service (s : State) (t : Nat) : (s.withNow t).service = s.service := rfl
@[simp] theorem State.withNow_port (s : State) (t : Nat) : (s.withNow t).port = s.port := rfl
@[simp] theorem State.withNow_trace (s : State) (t : Nat) : (s.withNow t).trace = s.trace := rfl
@[simp] theorem State.withNow_freeUsed (s : State) (t : Nat) : (s.withNow t).freeUsed = s.freeUsed := rfl
@[simp] theorem State.withNow_moment (s : State) (t : Nat) : (s.withNow t).moment = s.moment := rfl
@[simp] theorem State.withNow_pending (s : State) (t : Nat) : (s.withNow t).pending = s.pending := rfl

/-! ## withService -/

@[simp] theorem State.withService_now (s : State) (u : ServiceUnit) : (s.withService u).now = s.now := rfl
@[simp] theorem State.withService_resetLow (s : State) (u : ServiceUnit) : (s.withService u).resetLow = s.resetLow := rfl
@[simp] theorem State.withService_inhnLow (s : State) (u : ServiceUnit) : (s.withService u).inhnLow = s.inhnLow := rfl
@[simp] theorem State.withService_address (s : State) (u : ServiceUnit) : (s.withService u).address = s.address := rfl
@[simp] theorem State.withService_phase (s : State) (u : ServiceUnit) : (s.withService u).phase = s.phase := rfl
@[simp] theorem State.withService_station (s : State) (u : ServiceUnit) : (s.withService u).station = s.station := rfl
@[simp] theorem State.withService_carrier (s : State) (u : ServiceUnit) : (s.withService u).carrier = s.carrier := rfl
@[simp] theorem State.withService_gates (s : State) (u : ServiceUnit) : (s.withService u).gates = s.gates := rfl
@[simp] theorem State.withService_sense (s : State) (u : ServiceUnit) : (s.withService u).sense = s.sense := rfl
@[simp] theorem State.withService_bus (s : State) (u : ServiceUnit) : (s.withService u).bus = s.bus := rfl
@[simp] theorem State.withService_channels (s : State) (u : ServiceUnit) : (s.withService u).channels = s.channels := rfl
@[simp] theorem State.withService_active (s : State) (u : ServiceUnit) : (s.withService u).active = s.active := rfl
@[simp] theorem State.withService_staged (s : State) (u : ServiceUnit) : (s.withService u).staged = s.staged := rfl
@[simp] theorem State.withService_commit (s : State) (u : ServiceUnit) : (s.withService u).commit = s.commit := rfl
@[simp] theorem State.withService_pairs (s : State) (u : ServiceUnit) : (s.withService u).pairs = s.pairs := rfl
@[simp] theorem State.withService_timer (s : State) (u : ServiceUnit) : (s.withService u).timer = s.timer := rfl
@[simp] theorem State.withService_counters (s : State) (u : ServiceUnit) : (s.withService u).counters = s.counters := rfl
@[simp] theorem State.withService_slotMap (s : State) (u : ServiceUnit) : (s.withService u).slotMap = s.slotMap := rfl
@[simp] theorem State.withService_latches (s : State) (u : ServiceUnit) : (s.withService u).latches = s.latches := rfl
@[simp] theorem State.withService_prevControl (s : State) (u : ServiceUnit) : (s.withService u).prevControl = s.prevControl := rfl
@[simp] theorem State.withService_service (s : State) (u : ServiceUnit) : (s.withService u).service = u := rfl
@[simp] theorem State.withService_port (s : State) (u : ServiceUnit) : (s.withService u).port = s.port := rfl
@[simp] theorem State.withService_trace (s : State) (u : ServiceUnit) : (s.withService u).trace = s.trace := rfl
@[simp] theorem State.withService_freeUsed (s : State) (u : ServiceUnit) : (s.withService u).freeUsed = s.freeUsed := rfl
@[simp] theorem State.withService_moment (s : State) (u : ServiceUnit) : (s.withService u).moment = s.moment := rfl
@[simp] theorem State.withService_pending (s : State) (u : ServiceUnit) : (s.withService u).pending = s.pending := rfl

/-! ## withPort -/

@[simp] theorem State.withPort_now (s : State) (p : RingPort) : (s.withPort p).now = s.now := rfl
@[simp] theorem State.withPort_resetLow (s : State) (p : RingPort) : (s.withPort p).resetLow = s.resetLow := rfl
@[simp] theorem State.withPort_inhnLow (s : State) (p : RingPort) : (s.withPort p).inhnLow = s.inhnLow := rfl
@[simp] theorem State.withPort_address (s : State) (p : RingPort) : (s.withPort p).address = s.address := rfl
@[simp] theorem State.withPort_phase (s : State) (p : RingPort) : (s.withPort p).phase = s.phase := rfl
@[simp] theorem State.withPort_station (s : State) (p : RingPort) : (s.withPort p).station = s.station := rfl
@[simp] theorem State.withPort_carrier (s : State) (p : RingPort) : (s.withPort p).carrier = s.carrier := rfl
@[simp] theorem State.withPort_gates (s : State) (p : RingPort) : (s.withPort p).gates = s.gates := rfl
@[simp] theorem State.withPort_sense (s : State) (p : RingPort) : (s.withPort p).sense = s.sense := rfl
@[simp] theorem State.withPort_bus (s : State) (p : RingPort) : (s.withPort p).bus = s.bus := rfl
@[simp] theorem State.withPort_channels (s : State) (p : RingPort) : (s.withPort p).channels = s.channels := rfl
@[simp] theorem State.withPort_active (s : State) (p : RingPort) : (s.withPort p).active = s.active := rfl
@[simp] theorem State.withPort_staged (s : State) (p : RingPort) : (s.withPort p).staged = s.staged := rfl
@[simp] theorem State.withPort_commit (s : State) (p : RingPort) : (s.withPort p).commit = s.commit := rfl
@[simp] theorem State.withPort_pairs (s : State) (p : RingPort) : (s.withPort p).pairs = s.pairs := rfl
@[simp] theorem State.withPort_timer (s : State) (p : RingPort) : (s.withPort p).timer = s.timer := rfl
@[simp] theorem State.withPort_counters (s : State) (p : RingPort) : (s.withPort p).counters = s.counters := rfl
@[simp] theorem State.withPort_slotMap (s : State) (p : RingPort) : (s.withPort p).slotMap = s.slotMap := rfl
@[simp] theorem State.withPort_latches (s : State) (p : RingPort) : (s.withPort p).latches = s.latches := rfl
@[simp] theorem State.withPort_prevControl (s : State) (p : RingPort) : (s.withPort p).prevControl = s.prevControl := rfl
@[simp] theorem State.withPort_service (s : State) (p : RingPort) : (s.withPort p).service = s.service := rfl
@[simp] theorem State.withPort_port (s : State) (p : RingPort) : (s.withPort p).port = p := rfl
@[simp] theorem State.withPort_trace (s : State) (p : RingPort) : (s.withPort p).trace = s.trace := rfl
@[simp] theorem State.withPort_freeUsed (s : State) (p : RingPort) : (s.withPort p).freeUsed = s.freeUsed := rfl
@[simp] theorem State.withPort_moment (s : State) (p : RingPort) : (s.withPort p).moment = s.moment := rfl
@[simp] theorem State.withPort_pending (s : State) (p : RingPort) : (s.withPort p).pending = s.pending := rfl

/-! ## withTrace -/

@[simp] theorem State.withTrace_now (s : State) (u : TraceUnit) : (s.withTrace u).now = s.now := rfl
@[simp] theorem State.withTrace_resetLow (s : State) (u : TraceUnit) : (s.withTrace u).resetLow = s.resetLow := rfl
@[simp] theorem State.withTrace_inhnLow (s : State) (u : TraceUnit) : (s.withTrace u).inhnLow = s.inhnLow := rfl
@[simp] theorem State.withTrace_address (s : State) (u : TraceUnit) : (s.withTrace u).address = s.address := rfl
@[simp] theorem State.withTrace_phase (s : State) (u : TraceUnit) : (s.withTrace u).phase = s.phase := rfl
@[simp] theorem State.withTrace_station (s : State) (u : TraceUnit) : (s.withTrace u).station = s.station := rfl
@[simp] theorem State.withTrace_carrier (s : State) (u : TraceUnit) : (s.withTrace u).carrier = s.carrier := rfl
@[simp] theorem State.withTrace_gates (s : State) (u : TraceUnit) : (s.withTrace u).gates = s.gates := rfl
@[simp] theorem State.withTrace_sense (s : State) (u : TraceUnit) : (s.withTrace u).sense = s.sense := rfl
@[simp] theorem State.withTrace_bus (s : State) (u : TraceUnit) : (s.withTrace u).bus = s.bus := rfl
@[simp] theorem State.withTrace_channels (s : State) (u : TraceUnit) : (s.withTrace u).channels = s.channels := rfl
@[simp] theorem State.withTrace_active (s : State) (u : TraceUnit) : (s.withTrace u).active = s.active := rfl
@[simp] theorem State.withTrace_staged (s : State) (u : TraceUnit) : (s.withTrace u).staged = s.staged := rfl
@[simp] theorem State.withTrace_commit (s : State) (u : TraceUnit) : (s.withTrace u).commit = s.commit := rfl
@[simp] theorem State.withTrace_pairs (s : State) (u : TraceUnit) : (s.withTrace u).pairs = s.pairs := rfl
@[simp] theorem State.withTrace_timer (s : State) (u : TraceUnit) : (s.withTrace u).timer = s.timer := rfl
@[simp] theorem State.withTrace_counters (s : State) (u : TraceUnit) : (s.withTrace u).counters = s.counters := rfl
@[simp] theorem State.withTrace_slotMap (s : State) (u : TraceUnit) : (s.withTrace u).slotMap = s.slotMap := rfl
@[simp] theorem State.withTrace_latches (s : State) (u : TraceUnit) : (s.withTrace u).latches = s.latches := rfl
@[simp] theorem State.withTrace_prevControl (s : State) (u : TraceUnit) : (s.withTrace u).prevControl = s.prevControl := rfl
@[simp] theorem State.withTrace_service (s : State) (u : TraceUnit) : (s.withTrace u).service = s.service := rfl
@[simp] theorem State.withTrace_port (s : State) (u : TraceUnit) : (s.withTrace u).port = s.port := rfl
@[simp] theorem State.withTrace_trace (s : State) (u : TraceUnit) : (s.withTrace u).trace = u := rfl
@[simp] theorem State.withTrace_freeUsed (s : State) (u : TraceUnit) : (s.withTrace u).freeUsed = s.freeUsed := rfl
@[simp] theorem State.withTrace_moment (s : State) (u : TraceUnit) : (s.withTrace u).moment = s.moment := rfl
@[simp] theorem State.withTrace_pending (s : State) (u : TraceUnit) : (s.withTrace u).pending = s.pending := rfl

/-! ## withCounters -/

@[simp] theorem State.withCounters_now (s : State) (k : Counters) : (s.withCounters k).now = s.now := rfl
@[simp] theorem State.withCounters_resetLow (s : State) (k : Counters) : (s.withCounters k).resetLow = s.resetLow := rfl
@[simp] theorem State.withCounters_inhnLow (s : State) (k : Counters) : (s.withCounters k).inhnLow = s.inhnLow := rfl
@[simp] theorem State.withCounters_address (s : State) (k : Counters) : (s.withCounters k).address = s.address := rfl
@[simp] theorem State.withCounters_phase (s : State) (k : Counters) : (s.withCounters k).phase = s.phase := rfl
@[simp] theorem State.withCounters_station (s : State) (k : Counters) : (s.withCounters k).station = s.station := rfl
@[simp] theorem State.withCounters_carrier (s : State) (k : Counters) : (s.withCounters k).carrier = s.carrier := rfl
@[simp] theorem State.withCounters_gates (s : State) (k : Counters) : (s.withCounters k).gates = s.gates := rfl
@[simp] theorem State.withCounters_sense (s : State) (k : Counters) : (s.withCounters k).sense = s.sense := rfl
@[simp] theorem State.withCounters_bus (s : State) (k : Counters) : (s.withCounters k).bus = s.bus := rfl
@[simp] theorem State.withCounters_channels (s : State) (k : Counters) : (s.withCounters k).channels = s.channels := rfl
@[simp] theorem State.withCounters_active (s : State) (k : Counters) : (s.withCounters k).active = s.active := rfl
@[simp] theorem State.withCounters_staged (s : State) (k : Counters) : (s.withCounters k).staged = s.staged := rfl
@[simp] theorem State.withCounters_commit (s : State) (k : Counters) : (s.withCounters k).commit = s.commit := rfl
@[simp] theorem State.withCounters_pairs (s : State) (k : Counters) : (s.withCounters k).pairs = s.pairs := rfl
@[simp] theorem State.withCounters_timer (s : State) (k : Counters) : (s.withCounters k).timer = s.timer := rfl
@[simp] theorem State.withCounters_counters (s : State) (k : Counters) : (s.withCounters k).counters = k := rfl
@[simp] theorem State.withCounters_slotMap (s : State) (k : Counters) : (s.withCounters k).slotMap = s.slotMap := rfl
@[simp] theorem State.withCounters_latches (s : State) (k : Counters) : (s.withCounters k).latches = s.latches := rfl
@[simp] theorem State.withCounters_prevControl (s : State) (k : Counters) : (s.withCounters k).prevControl = s.prevControl := rfl
@[simp] theorem State.withCounters_service (s : State) (k : Counters) : (s.withCounters k).service = s.service := rfl
@[simp] theorem State.withCounters_port (s : State) (k : Counters) : (s.withCounters k).port = s.port := rfl
@[simp] theorem State.withCounters_trace (s : State) (k : Counters) : (s.withCounters k).trace = s.trace := rfl
@[simp] theorem State.withCounters_freeUsed (s : State) (k : Counters) : (s.withCounters k).freeUsed = s.freeUsed := rfl
@[simp] theorem State.withCounters_moment (s : State) (k : Counters) : (s.withCounters k).moment = s.moment := rfl
@[simp] theorem State.withCounters_pending (s : State) (k : Counters) : (s.withCounters k).pending = s.pending := rfl

/-! ## withTimer -/

@[simp] theorem State.withTimer_now (s : State) (k : CycleTimer) : (s.withTimer k).now = s.now := rfl
@[simp] theorem State.withTimer_resetLow (s : State) (k : CycleTimer) : (s.withTimer k).resetLow = s.resetLow := rfl
@[simp] theorem State.withTimer_inhnLow (s : State) (k : CycleTimer) : (s.withTimer k).inhnLow = s.inhnLow := rfl
@[simp] theorem State.withTimer_address (s : State) (k : CycleTimer) : (s.withTimer k).address = s.address := rfl
@[simp] theorem State.withTimer_phase (s : State) (k : CycleTimer) : (s.withTimer k).phase = s.phase := rfl
@[simp] theorem State.withTimer_station (s : State) (k : CycleTimer) : (s.withTimer k).station = s.station := rfl
@[simp] theorem State.withTimer_carrier (s : State) (k : CycleTimer) : (s.withTimer k).carrier = s.carrier := rfl
@[simp] theorem State.withTimer_gates (s : State) (k : CycleTimer) : (s.withTimer k).gates = s.gates := rfl
@[simp] theorem State.withTimer_sense (s : State) (k : CycleTimer) : (s.withTimer k).sense = s.sense := rfl
@[simp] theorem State.withTimer_bus (s : State) (k : CycleTimer) : (s.withTimer k).bus = s.bus := rfl
@[simp] theorem State.withTimer_channels (s : State) (k : CycleTimer) : (s.withTimer k).channels = s.channels := rfl
@[simp] theorem State.withTimer_active (s : State) (k : CycleTimer) : (s.withTimer k).active = s.active := rfl
@[simp] theorem State.withTimer_staged (s : State) (k : CycleTimer) : (s.withTimer k).staged = s.staged := rfl
@[simp] theorem State.withTimer_commit (s : State) (k : CycleTimer) : (s.withTimer k).commit = s.commit := rfl
@[simp] theorem State.withTimer_pairs (s : State) (k : CycleTimer) : (s.withTimer k).pairs = s.pairs := rfl
@[simp] theorem State.withTimer_timer (s : State) (k : CycleTimer) : (s.withTimer k).timer = k := rfl
@[simp] theorem State.withTimer_counters (s : State) (k : CycleTimer) : (s.withTimer k).counters = s.counters := rfl
@[simp] theorem State.withTimer_slotMap (s : State) (k : CycleTimer) : (s.withTimer k).slotMap = s.slotMap := rfl
@[simp] theorem State.withTimer_latches (s : State) (k : CycleTimer) : (s.withTimer k).latches = s.latches := rfl
@[simp] theorem State.withTimer_prevControl (s : State) (k : CycleTimer) : (s.withTimer k).prevControl = s.prevControl := rfl
@[simp] theorem State.withTimer_service (s : State) (k : CycleTimer) : (s.withTimer k).service = s.service := rfl
@[simp] theorem State.withTimer_port (s : State) (k : CycleTimer) : (s.withTimer k).port = s.port := rfl
@[simp] theorem State.withTimer_trace (s : State) (k : CycleTimer) : (s.withTimer k).trace = s.trace := rfl
@[simp] theorem State.withTimer_freeUsed (s : State) (k : CycleTimer) : (s.withTimer k).freeUsed = s.freeUsed := rfl
@[simp] theorem State.withTimer_moment (s : State) (k : CycleTimer) : (s.withTimer k).moment = s.moment := rfl
@[simp] theorem State.withTimer_pending (s : State) (k : CycleTimer) : (s.withTimer k).pending = s.pending := rfl

/-! ## withCommit -/

@[simp] theorem State.withCommit_now (s : State) (b : BankCommit) : (s.withCommit b).now = s.now := rfl
@[simp] theorem State.withCommit_resetLow (s : State) (b : BankCommit) : (s.withCommit b).resetLow = s.resetLow := rfl
@[simp] theorem State.withCommit_inhnLow (s : State) (b : BankCommit) : (s.withCommit b).inhnLow = s.inhnLow := rfl
@[simp] theorem State.withCommit_address (s : State) (b : BankCommit) : (s.withCommit b).address = s.address := rfl
@[simp] theorem State.withCommit_phase (s : State) (b : BankCommit) : (s.withCommit b).phase = s.phase := rfl
@[simp] theorem State.withCommit_station (s : State) (b : BankCommit) : (s.withCommit b).station = s.station := rfl
@[simp] theorem State.withCommit_carrier (s : State) (b : BankCommit) : (s.withCommit b).carrier = s.carrier := rfl
@[simp] theorem State.withCommit_gates (s : State) (b : BankCommit) : (s.withCommit b).gates = s.gates := rfl
@[simp] theorem State.withCommit_sense (s : State) (b : BankCommit) : (s.withCommit b).sense = s.sense := rfl
@[simp] theorem State.withCommit_bus (s : State) (b : BankCommit) : (s.withCommit b).bus = s.bus := rfl
@[simp] theorem State.withCommit_channels (s : State) (b : BankCommit) : (s.withCommit b).channels = s.channels := rfl
@[simp] theorem State.withCommit_active (s : State) (b : BankCommit) : (s.withCommit b).active = s.active := rfl
@[simp] theorem State.withCommit_staged (s : State) (b : BankCommit) : (s.withCommit b).staged = s.staged := rfl
@[simp] theorem State.withCommit_commit (s : State) (b : BankCommit) : (s.withCommit b).commit = b := rfl
@[simp] theorem State.withCommit_pairs (s : State) (b : BankCommit) : (s.withCommit b).pairs = s.pairs := rfl
@[simp] theorem State.withCommit_timer (s : State) (b : BankCommit) : (s.withCommit b).timer = s.timer := rfl
@[simp] theorem State.withCommit_counters (s : State) (b : BankCommit) : (s.withCommit b).counters = s.counters := rfl
@[simp] theorem State.withCommit_slotMap (s : State) (b : BankCommit) : (s.withCommit b).slotMap = s.slotMap := rfl
@[simp] theorem State.withCommit_latches (s : State) (b : BankCommit) : (s.withCommit b).latches = s.latches := rfl
@[simp] theorem State.withCommit_prevControl (s : State) (b : BankCommit) : (s.withCommit b).prevControl = s.prevControl := rfl
@[simp] theorem State.withCommit_service (s : State) (b : BankCommit) : (s.withCommit b).service = s.service := rfl
@[simp] theorem State.withCommit_port (s : State) (b : BankCommit) : (s.withCommit b).port = s.port := rfl
@[simp] theorem State.withCommit_trace (s : State) (b : BankCommit) : (s.withCommit b).trace = s.trace := rfl
@[simp] theorem State.withCommit_freeUsed (s : State) (b : BankCommit) : (s.withCommit b).freeUsed = s.freeUsed := rfl
@[simp] theorem State.withCommit_moment (s : State) (b : BankCommit) : (s.withCommit b).moment = s.moment := rfl
@[simp] theorem State.withCommit_pending (s : State) (b : BankCommit) : (s.withCommit b).pending = s.pending := rfl

/-! ## withMoment -/

@[simp] theorem State.withMoment_now (s : State) (m : Option InstantWork) : (s.withMoment m).now = s.now := rfl
@[simp] theorem State.withMoment_resetLow (s : State) (m : Option InstantWork) : (s.withMoment m).resetLow = s.resetLow := rfl
@[simp] theorem State.withMoment_inhnLow (s : State) (m : Option InstantWork) : (s.withMoment m).inhnLow = s.inhnLow := rfl
@[simp] theorem State.withMoment_address (s : State) (m : Option InstantWork) : (s.withMoment m).address = s.address := rfl
@[simp] theorem State.withMoment_phase (s : State) (m : Option InstantWork) : (s.withMoment m).phase = s.phase := rfl
@[simp] theorem State.withMoment_station (s : State) (m : Option InstantWork) : (s.withMoment m).station = s.station := rfl
@[simp] theorem State.withMoment_carrier (s : State) (m : Option InstantWork) : (s.withMoment m).carrier = s.carrier := rfl
@[simp] theorem State.withMoment_gates (s : State) (m : Option InstantWork) : (s.withMoment m).gates = s.gates := rfl
@[simp] theorem State.withMoment_sense (s : State) (m : Option InstantWork) : (s.withMoment m).sense = s.sense := rfl
@[simp] theorem State.withMoment_bus (s : State) (m : Option InstantWork) : (s.withMoment m).bus = s.bus := rfl
@[simp] theorem State.withMoment_channels (s : State) (m : Option InstantWork) : (s.withMoment m).channels = s.channels := rfl
@[simp] theorem State.withMoment_active (s : State) (m : Option InstantWork) : (s.withMoment m).active = s.active := rfl
@[simp] theorem State.withMoment_staged (s : State) (m : Option InstantWork) : (s.withMoment m).staged = s.staged := rfl
@[simp] theorem State.withMoment_commit (s : State) (m : Option InstantWork) : (s.withMoment m).commit = s.commit := rfl
@[simp] theorem State.withMoment_pairs (s : State) (m : Option InstantWork) : (s.withMoment m).pairs = s.pairs := rfl
@[simp] theorem State.withMoment_timer (s : State) (m : Option InstantWork) : (s.withMoment m).timer = s.timer := rfl
@[simp] theorem State.withMoment_counters (s : State) (m : Option InstantWork) : (s.withMoment m).counters = s.counters := rfl
@[simp] theorem State.withMoment_slotMap (s : State) (m : Option InstantWork) : (s.withMoment m).slotMap = s.slotMap := rfl
@[simp] theorem State.withMoment_latches (s : State) (m : Option InstantWork) : (s.withMoment m).latches = s.latches := rfl
@[simp] theorem State.withMoment_prevControl (s : State) (m : Option InstantWork) : (s.withMoment m).prevControl = s.prevControl := rfl
@[simp] theorem State.withMoment_service (s : State) (m : Option InstantWork) : (s.withMoment m).service = s.service := rfl
@[simp] theorem State.withMoment_port (s : State) (m : Option InstantWork) : (s.withMoment m).port = s.port := rfl
@[simp] theorem State.withMoment_trace (s : State) (m : Option InstantWork) : (s.withMoment m).trace = s.trace := rfl
@[simp] theorem State.withMoment_freeUsed (s : State) (m : Option InstantWork) : (s.withMoment m).freeUsed = s.freeUsed := rfl
@[simp] theorem State.withMoment_moment (s : State) (m : Option InstantWork) : (s.withMoment m).moment = m := rfl
@[simp] theorem State.withMoment_pending (s : State) (m : Option InstantWork) : (s.withMoment m).pending = s.pending := rfl

/-! ## withPending -/

@[simp] theorem State.withPending_now (s : State) (q : List Instr) : (s.withPending q).now = s.now := rfl
@[simp] theorem State.withPending_resetLow (s : State) (q : List Instr) : (s.withPending q).resetLow = s.resetLow := rfl
@[simp] theorem State.withPending_inhnLow (s : State) (q : List Instr) : (s.withPending q).inhnLow = s.inhnLow := rfl
@[simp] theorem State.withPending_address (s : State) (q : List Instr) : (s.withPending q).address = s.address := rfl
@[simp] theorem State.withPending_phase (s : State) (q : List Instr) : (s.withPending q).phase = s.phase := rfl
@[simp] theorem State.withPending_station (s : State) (q : List Instr) : (s.withPending q).station = s.station := rfl
@[simp] theorem State.withPending_carrier (s : State) (q : List Instr) : (s.withPending q).carrier = s.carrier := rfl
@[simp] theorem State.withPending_gates (s : State) (q : List Instr) : (s.withPending q).gates = s.gates := rfl
@[simp] theorem State.withPending_sense (s : State) (q : List Instr) : (s.withPending q).sense = s.sense := rfl
@[simp] theorem State.withPending_bus (s : State) (q : List Instr) : (s.withPending q).bus = s.bus := rfl
@[simp] theorem State.withPending_channels (s : State) (q : List Instr) : (s.withPending q).channels = s.channels := rfl
@[simp] theorem State.withPending_active (s : State) (q : List Instr) : (s.withPending q).active = s.active := rfl
@[simp] theorem State.withPending_staged (s : State) (q : List Instr) : (s.withPending q).staged = s.staged := rfl
@[simp] theorem State.withPending_commit (s : State) (q : List Instr) : (s.withPending q).commit = s.commit := rfl
@[simp] theorem State.withPending_pairs (s : State) (q : List Instr) : (s.withPending q).pairs = s.pairs := rfl
@[simp] theorem State.withPending_timer (s : State) (q : List Instr) : (s.withPending q).timer = s.timer := rfl
@[simp] theorem State.withPending_counters (s : State) (q : List Instr) : (s.withPending q).counters = s.counters := rfl
@[simp] theorem State.withPending_slotMap (s : State) (q : List Instr) : (s.withPending q).slotMap = s.slotMap := rfl
@[simp] theorem State.withPending_latches (s : State) (q : List Instr) : (s.withPending q).latches = s.latches := rfl
@[simp] theorem State.withPending_prevControl (s : State) (q : List Instr) : (s.withPending q).prevControl = s.prevControl := rfl
@[simp] theorem State.withPending_service (s : State) (q : List Instr) : (s.withPending q).service = s.service := rfl
@[simp] theorem State.withPending_port (s : State) (q : List Instr) : (s.withPending q).port = s.port := rfl
@[simp] theorem State.withPending_trace (s : State) (q : List Instr) : (s.withPending q).trace = s.trace := rfl
@[simp] theorem State.withPending_freeUsed (s : State) (q : List Instr) : (s.withPending q).freeUsed = s.freeUsed := rfl
@[simp] theorem State.withPending_moment (s : State) (q : List Instr) : (s.withPending q).moment = s.moment := rfl
@[simp] theorem State.withPending_pending (s : State) (q : List Instr) : (s.withPending q).pending = q := rfl

/-! ## Reading a channel, its gates, its latches -/

@[simp] theorem State.setChan_chan_same (s : State) (c : Chan) (ch : Channel) : (s.setChan c ch).chan c = ch := by
  simp [State.setChan, State.chan]

theorem State.setChan_chan_other (s : State) {c d : Chan} (ch : Channel) (h : d ≠ c) :
    (s.setChan c ch).chan d = s.chan d := by
  have : (c : Nat) ≠ d := fun e => h (Fin.ext e.symm)
  simp [State.setChan, State.chan, this]

@[simp] theorem State.modChan_chan_same (s : State) (c : Chan) (f : Channel → Channel) :
    (s.modChan c f).chan c = f (s.chan c) := by simp [State.modChan]

theorem State.modChan_chan_other (s : State) {c d : Chan} (f : Channel → Channel) (h : d ≠ c) :
    (s.modChan c f).chan d = s.chan d := State.setChan_chan_other s _ h

@[simp] theorem State.mapChans_chan (s : State) (f : Chan → Channel → Channel) (c : Chan) :
    (s.mapChans f).chan c = f c (s.chan c) := by simp [State.mapChans, State.chan]

@[simp] theorem State.setGate_gate_same (s : State) (c : Chan) (g : Gate) : (s.setGate c g).gate c = g := by
  simp [State.setGate, State.gate]

theorem State.setGate_gate_other (s : State) {c d : Chan} (g : Gate) (h : d ≠ c) :
    (s.setGate c g).gate d = s.gate d := by
  have : (c : Nat) ≠ d := fun e => h (Fin.ext e.symm)
  simp [State.setGate, State.gate, this]

@[simp] theorem State.modGate_gate_same (s : State) (c : Chan) (f : Gate → Gate) :
    (s.modGate c f).gate c = f (s.gate c) := by simp [State.modGate]

theorem State.modGate_gate_other (s : State) {c d : Chan} (f : Gate → Gate) (h : d ≠ c) :
    (s.modGate c f).gate d = s.gate d := State.setGate_gate_other s _ h

@[simp] theorem State.mapGates_gate (s : State) (f : Gate → Gate) (c : Chan) :
    (s.mapGates f).gate c = f (s.gate c) := by simp [State.mapGates, State.gate]

@[simp] theorem State.setLatch_latch_same (s : State) (c : Chan) (l : Latches) :
    (s.setLatch c l).latch c = l := by simp [State.setLatch, State.latch]

theorem State.setLatch_latch_other (s : State) {c d : Chan} (l : Latches) (h : d ≠ c) :
    (s.setLatch c l).latch d = s.latch d := by
  have : (c : Nat) ≠ d := fun e => h (Fin.ext e.symm)
  simp [State.setLatch, State.latch, this]

@[simp] theorem State.setGate_chan (s : State) (c : Chan) (g : Gate) (d : Chan) : (s.setGate c g).chan d = s.chan d := rfl
@[simp] theorem State.modGate_chan (s : State) (c : Chan) (f : Gate → Gate) (d : Chan) : (s.modGate c f).chan d = s.chan d := rfl
@[simp] theorem State.mapGates_chan (s : State) (f : Gate → Gate) (d : Chan) : (s.mapGates f).chan d = s.chan d := rfl
@[simp] theorem State.setLatch_chan (s : State) (c : Chan) (l : Latches) (d : Chan) : (s.setLatch c l).chan d = s.chan d := rfl
@[simp] theorem State.withNow_chan (s : State) (t : Nat) (d : Chan) : (s.withNow t).chan d = s.chan d := rfl
@[simp] theorem State.withService_chan (s : State) (u : ServiceUnit) (d : Chan) : (s.withService u).chan d = s.chan d := rfl
@[simp] theorem State.withPort_chan (s : State) (p : RingPort) (d : Chan) : (s.withPort p).chan d = s.chan d := rfl
@[simp] theorem State.withTrace_chan (s : State) (u : TraceUnit) (d : Chan) : (s.withTrace u).chan d = s.chan d := rfl
@[simp] theorem State.withCounters_chan (s : State) (k : Counters) (d : Chan) : (s.withCounters k).chan d = s.chan d := rfl
@[simp] theorem State.withTimer_chan (s : State) (k : CycleTimer) (d : Chan) : (s.withTimer k).chan d = s.chan d := rfl
@[simp] theorem State.withCommit_chan (s : State) (b : BankCommit) (d : Chan) : (s.withCommit b).chan d = s.chan d := rfl
@[simp] theorem State.withMoment_chan (s : State) (m : Option InstantWork) (d : Chan) : (s.withMoment m).chan d = s.chan d := rfl
@[simp] theorem State.withPending_chan (s : State) (q : List Instr) (d : Chan) : (s.withPending q).chan d = s.chan d := rfl

@[simp] theorem State.setChan_gate (s : State) (c : Chan) (ch : Channel) (d : Chan) : (s.setChan c ch).gate d = s.gate d := rfl
@[simp] theorem State.modChan_gate (s : State) (c : Chan) (f : Channel → Channel) (d : Chan) : (s.modChan c f).gate d = s.gate d := rfl
@[simp] theorem State.mapChans_gate (s : State) (f : Chan → Channel → Channel) (d : Chan) : (s.mapChans f).gate d = s.gate d := rfl
@[simp] theorem State.setLatch_gate (s : State) (c : Chan) (l : Latches) (d : Chan) : (s.setLatch c l).gate d = s.gate d := rfl
@[simp] theorem State.withNow_gate (s : State) (t : Nat) (d : Chan) : (s.withNow t).gate d = s.gate d := rfl
@[simp] theorem State.withService_gate (s : State) (u : ServiceUnit) (d : Chan) : (s.withService u).gate d = s.gate d := rfl
@[simp] theorem State.withPort_gate (s : State) (p : RingPort) (d : Chan) : (s.withPort p).gate d = s.gate d := rfl
@[simp] theorem State.withTrace_gate (s : State) (u : TraceUnit) (d : Chan) : (s.withTrace u).gate d = s.gate d := rfl
@[simp] theorem State.withCounters_gate (s : State) (k : Counters) (d : Chan) : (s.withCounters k).gate d = s.gate d := rfl
@[simp] theorem State.withTimer_gate (s : State) (k : CycleTimer) (d : Chan) : (s.withTimer k).gate d = s.gate d := rfl
@[simp] theorem State.withCommit_gate (s : State) (b : BankCommit) (d : Chan) : (s.withCommit b).gate d = s.gate d := rfl
@[simp] theorem State.withMoment_gate (s : State) (m : Option InstantWork) (d : Chan) : (s.withMoment m).gate d = s.gate d := rfl
@[simp] theorem State.withPending_gate (s : State) (q : List Instr) (d : Chan) : (s.withPending q).gate d = s.gate d := rfl

@[simp] theorem State.setChan_latch (s : State) (c : Chan) (ch : Channel) (d : Chan) : (s.setChan c ch).latch d = s.latch d := rfl
@[simp] theorem State.modChan_latch (s : State) (c : Chan) (f : Channel → Channel) (d : Chan) : (s.modChan c f).latch d = s.latch d := rfl
@[simp] theorem State.mapChans_latch (s : State) (f : Chan → Channel → Channel) (d : Chan) : (s.mapChans f).latch d = s.latch d := rfl
@[simp] theorem State.setGate_latch (s : State) (c : Chan) (g : Gate) (d : Chan) : (s.setGate c g).latch d = s.latch d := rfl
@[simp] theorem State.modGate_latch (s : State) (c : Chan) (f : Gate → Gate) (d : Chan) : (s.modGate c f).latch d = s.latch d := rfl
@[simp] theorem State.mapGates_latch (s : State) (f : Gate → Gate) (d : Chan) : (s.mapGates f).latch d = s.latch d := rfl
@[simp] theorem State.withNow_latch (s : State) (t : Nat) (d : Chan) : (s.withNow t).latch d = s.latch d := rfl
@[simp] theorem State.withService_latch (s : State) (u : ServiceUnit) (d : Chan) : (s.withService u).latch d = s.latch d := rfl
@[simp] theorem State.withPort_latch (s : State) (p : RingPort) (d : Chan) : (s.withPort p).latch d = s.latch d := rfl
@[simp] theorem State.withTrace_latch (s : State) (u : TraceUnit) (d : Chan) : (s.withTrace u).latch d = s.latch d := rfl
@[simp] theorem State.withCounters_latch (s : State) (k : Counters) (d : Chan) : (s.withCounters k).latch d = s.latch d := rfl
@[simp] theorem State.withTimer_latch (s : State) (k : CycleTimer) (d : Chan) : (s.withTimer k).latch d = s.latch d := rfl
@[simp] theorem State.withCommit_latch (s : State) (b : BankCommit) (d : Chan) : (s.withCommit b).latch d = s.latch d := rfl
@[simp] theorem State.withMoment_latch (s : State) (m : Option InstantWork) (d : Chan) : (s.withMoment m).latch d = s.latch d := rfl
@[simp] theorem State.withPending_latch (s : State) (q : List Instr) (d : Chan) : (s.withPending q).latch d = s.latch d := rfl

end Sys2Proof.Machine
end

