-- ==== Sys2Proof/Laws/Instant.lean ====
section
/-! SUPPORT. The work of one instant: nothing is left of it when `moment` is none, and which fields the
parts of a sample event cannot touch. -/

namespace Sys2Proof.Machine

open Sys2Proof

/-! ## No instant in progress -/

theorem settle_of_none {s : State} (h : s.moment = none) : settle s = s := by
  unfold settle; rw [h]

theorem resume_of_none {s : State} (h : s.moment = none) : resume s = s := by
  unfold resume; rw [h]

theorem takeTimeout_of_none {s : State} (h : s.moment = none) : takeTimeout s = s := by
  unfold takeTimeout; rw [h]

theorem advanceTo_of_none {s : State} (t : Nat) (h : s.moment = none) :
    advanceTo t s = s.withNow (max s.now t) := by
  unfold advanceTo; split
  · next lt => rw [settle_of_none h, Nat.max_eq_right (Nat.le_of_lt lt)]
  · next ge => rw [Nat.max_eq_left (by omega)]; rfl

theorem finishSample_of_none {s : State} (h : s.moment = none) : finishSample s = s := by
  unfold finishSample; rw [h]

/-- A sample event that has not begun is not finished before a commit, a miss or an inhibit. -/
theorem finishSample_of_waiting {s : State} {w : InstantWork} (h : s.moment = some w) (b : w.begun = false) :
    finishSample s = s := by
  unfold finishSample; rw [h]; simp [b]

/-- One that has begun is finished: no work of the instant is left. -/
theorem finishSample_of_begun {s : State} {w : InstantWork} (h : s.moment = some w) (b : w.begun = true) :
    finishSample s = settle s ∧ (finishSample s).moment = none := by
  have e : finishSample s = settle s := by unfold finishSample; rw [h]; simp [b]
  refine ⟨e, ?_⟩
  rw [e]; unfold settle; rw [h]; rfl

theorem whenDue_false (f : State → State) (s : State) : whenDue false f s = s := rfl

/-! ## What a sample event cannot touch -/

/-- Two states agree on everything but the channels, the gates, the Trace Unit and the instant's work. -/
structure SampleKeeps (s t : State) : Prop where
  now : t.now = s.now
  resetLow : t.resetLow = s.resetLow
  inhnLow : t.inhnLow = s.inhnLow
  address : t.address = s.address
  phase : t.phase = s.phase
  station : t.station = s.station
  carrier : t.carrier = s.carrier
  sense : t.sense = s.sense
  bus : t.bus = s.bus
  active : t.active = s.active
  staged : t.staged = s.staged
  commit : t.commit = s.commit
  pairs : t.pairs = s.pairs
  timer : t.timer = s.timer
  counters : t.counters = s.counters
  slotMap : t.slotMap = s.slotMap
  latches : t.latches = s.latches
  prevControl : t.prevControl = s.prevControl
  service : t.service = s.service
  port : t.port = s.port
  freeUsed : t.freeUsed = s.freeUsed
  pending : t.pending = s.pending

theorem SampleKeeps.refl (s : State) : SampleKeeps s s := by constructor <;> rfl

theorem SampleKeeps.trans {a b c : State} (h : SampleKeeps a b) (k : SampleKeeps b c) : SampleKeeps a c where
  now := k.now.trans h.now
  resetLow := k.resetLow.trans h.resetLow
  inhnLow := k.inhnLow.trans h.inhnLow
  address := k.address.trans h.address
  phase := k.phase.trans h.phase
  station := k.station.trans h.station
  carrier := k.carrier.trans h.carrier
  sense := k.sense.trans h.sense
  bus := k.bus.trans h.bus
  active := k.active.trans h.active
  staged := k.staged.trans h.staged
  commit := k.commit.trans h.commit
  pairs := k.pairs.trans h.pairs
  timer := k.timer.trans h.timer
  counters := k.counters.trans h.counters
  slotMap := k.slotMap.trans h.slotMap
  latches := k.latches.trans h.latches
  prevControl := k.prevControl.trans h.prevControl
  service := k.service.trans h.service
  port := k.port.trans h.port
  freeUsed := k.freeUsed.trans h.freeUsed
  pending := k.pending.trans h.pending

theorem setChan_keeps (s : State) (c : Chan) (ch : Channel) : SampleKeeps s (s.setChan c ch) := by
  constructor <;> rfl

theorem modChan_keeps (s : State) (c : Chan) (f : Channel → Channel) : SampleKeeps s (s.modChan c f) := by
  constructor <;> rfl

theorem modGate_keeps (s : State) (c : Chan) (f : Gate → Gate) : SampleKeeps s (s.modGate c f) := by
  constructor <;> rfl

theorem withTrace_keeps (s : State) (u : TraceUnit) : SampleKeeps s (s.withTrace u) := by
  constructor <;> rfl

theorem withMoment_keeps (s : State) (m : Option InstantWork) : SampleKeeps s (s.withMoment m) := by
  constructor <;> rfl

theorem enterRampdown_keeps (c : Chan) (r p : Bool) (s : State) : SampleKeeps s (enterRampdown c r p s) := by
  unfold enterRampdown; dsimp only; split
  · exact (modChan_keeps s c _).trans (modChan_keeps _ _ _)
  · exact modChan_keeps s c _

theorem partnerReact_keeps (c : Chan) (s : State) : SampleKeeps s (partnerReact c s) := by
  unfold partnerReact; split
  · exact enterRampdown_keeps c _ _ s
  · exact enterRampdown_keeps c _ _ s
  · exact modChan_keeps s c _
  · exact modChan_keeps s c _
  all_goals exact SampleKeeps.refl s

theorem tellPartner_keeps (c : Chan) (s : State) : SampleKeeps s (tellPartner c s) := by
  unfold tellPartner; split
  · exact partnerReact_keeps _ s
  · exact SampleKeeps.refl s

theorem enterFaultAlone_keeps (c : Chan) (k : Cause) (m : Word) (ia ib : Int) (v : Nat) (s : State) :
    SampleKeeps s (enterFaultAlone c k m ia ib v s) := by
  unfold enterFaultAlone; dsimp only
  exact ((modChan_keeps s c _).trans (modGate_keeps _ c _)).trans (withTrace_keeps _ _)

theorem enterFault_keeps (c : Chan) (k : Cause) (m : Word) (ia ib : Int) (v : Nat) (s : State) :
    SampleKeeps s (enterFault c k m ia ib v s) :=
  (enterFaultAlone_keeps c k m ia ib v s).trans (tellPartner_keeps c _)

theorem detectAlone_keeps (c : Chan) (k : Cause) (s : State) : SampleKeeps s (detectAlone c k s) := by
  unfold detectAlone; split
  · exact enterFaultAlone_keeps ..
  · exact enterFaultAlone_keeps ..
  · exact enterFaultAlone_keeps ..
  · exact modChan_keeps ..
  all_goals exact SampleKeeps.refl s

/-- A fold of steps that keep these fields keeps them. -/
theorem foldl_keeps {α : Type} (f : State → α → State) (h : ∀ s a, SampleKeeps s (f s a)) :
    ∀ (l : List α) (s : State), SampleKeeps s (l.foldl f s)
  | [], s => SampleKeeps.refl s
  | a :: l, s => (h s a).trans (foldl_keeps f h l (f s a))

theorem dropRampEnd_keeps (c : Chan) (s : State) : SampleKeeps s (dropRampEnd c s) := withMoment_keeps s _

theorem endRampdownAlone_keeps (c : Chan) (s : State) : SampleKeeps s (endRampdownAlone c s) := by
  unfold endRampdownAlone; dsimp only; split
  · split
    · exact (modGate_keeps s c _).trans (enterFaultAlone_keeps ..)
    · split
      · exact (modGate_keeps s c _).trans (enterFaultAlone_keeps ..)
      · exact (modGate_keeps s c _).trans (modChan_keeps ..)
  · exact SampleKeeps.refl s

theorem takeRampEnd_keeps (c : Chan) (s : State) : SampleKeeps s (takeRampEnd c s) := by
  unfold takeRampEnd; dsimp only; split
  · have h := (dropRampEnd_keeps c s).trans (endRampdownAlone_keeps c _)
    split
    · exact h.trans (tellPartner_keeps c _)
    · exact h
  · exact SampleKeeps.refl s

/-- One event of a pair position touches channels, gates, the Trace Unit and the instant's work alone. -/
theorem takePairEvent_keeps (p : Fin 4) (k : Cause) (r : PairRun) (e : PairEvent) :
    SampleKeeps r.state (takePairEvent p k r e).state := by
  unfold takePairEvent; split
  · split
    · exact detectAlone_keeps _ k _
    · exact SampleKeeps.refl _
  · split
    · exact partnerReact_keeps _ _
    · exact SampleKeeps.refl _
  · split
    · exact (dropRampEnd_keeps _ _).trans (endRampdownAlone_keeps _ _)
    · exact SampleKeeps.refl _

theorem pairEvents_keep (p : Fin 4) (k : Cause) :
    ∀ (l : List PairEvent) (r : PairRun), SampleKeeps r.state (l.foldl (takePairEvent p k) r).state
  | [], _ => SampleKeeps.refl _
  | e :: l, r => (takePairEvent_keeps p k r e).trans (pairEvents_keep p k l _)

theorem detectPair_keeps (o : PairOrder) (p : Fin 4) (k : Cause) (s : State) :
    SampleKeeps s (detectPair o p k s) :=
  pairEvents_keep p k (o ++ pairRest) ⟨s, [.detect false, .detect true]⟩

theorem detectAll_keeps (o : PairOrders) (k : Cause) (s : State) : SampleKeeps s (detectAll o k s) :=
  foldl_keeps _ (fun s p => detectPair_keeps o[p] p k s) _ s

theorem detectAngle_keeps (c : Chan) (s : State) : SampleKeeps s (detectAngle c s) := by
  unfold detectAngle; dsimp only; split
  · exact enterFault_keeps ..
  · exact enterFault_keeps ..
  · exact enterFault_keeps ..
  · exact modChan_keeps ..
  all_goals exact SampleKeeps.refl s

theorem takeAngle_keeps (s : State) : SampleKeeps s (takeAngle s) := by
  unfold takeAngle; split
  · exact SampleKeeps.refl s
  · split
    · exact SampleKeeps.refl s
    · exact (withMoment_keeps s _).trans (detectAngle_keeps _ _)

theorem sampleChannel_keeps (v : Nat) (c : Chan) (s : State) : SampleKeeps s (sampleChannel v c s) := by
  unfold sampleChannel; dsimp only
  have h := setChan_keeps s c (sampledChannel s v c)
  split
  · exact h.trans (enterFault_keeps ..)
  · split
    · exact h.trans (enterFault_keeps ..)
    · split
      · exact h.trans (withMoment_keeps ..)
      · exact h

theorem takeItem_keeps (v : Nat) (i : WalkItem) (s : State) : SampleKeeps s (takeItem v i s) := by
  unfold takeItem; split
  · exact sampleChannel_keeps v _ s
  · exact withTrace_keeps s _

theorem runWalk_keeps (v : Nat) : ∀ (l : List WalkItem) (s : State), SampleKeeps s (runWalk v l s)
  | [], s => withMoment_keeps s none
  | i :: l, s => by
    unfold runWalk; dsimp only
    have h := (withMoment_keeps s (s.moment.map (beginWalk l))).trans (takeItem_keeps v i _)
    split
    · exact h
    · split
      · exact h
      · exact h.trans (runWalk_keeps v l _)

/-- What is left of a sample event touches channels, gates and the Trace Unit alone. -/
theorem resume_keeps (s : State) : SampleKeeps s (resume s) := by
  unfold resume; split
  · exact SampleKeeps.refl s
  · split
    · exact SampleKeeps.refl s
    · exact runWalk_keeps _ _ s

theorem completeCalibration_keeps (c : Chan) (s : State) : SampleKeeps s (completeCalibration c s) := by
  unfold completeCalibration; dsimp only; split
  · split
    · exact modChan_keeps ..
    · exact (modChan_keeps s c _).trans (enterFault_keeps ..)
  · exact SampleKeeps.refl s

theorem completeComputation_keeps (c : Chan) (s : State) : SampleKeeps s (completeComputation c s) := by
  unfold completeComputation; dsimp only; split
  · exact SampleKeeps.refl s
  · split
    · exact (setChan_keeps s c _).trans (modGate_keeps _ c _)
    · exact setChan_keeps s c _

theorem completeAll_keeps (s : State) : SampleKeeps s (completeAll s) :=
  foldl_keeps _ (fun s c => completeComputation_keeps c s) _ s

/-! ## The end of reception -/

theorem receiveRest_nil (s : State) : receiveRest 0 [] s = receivePlain [] s := rfl

theorem pushPlain_nil (f : FrameCtx) : pushPlain [] f = f := by
  simp [pushPlain]

end Sys2Proof.Machine
end

