-- ==== Sys2Proof/Laws/Channels.lean ====
section
/-! SUPPORT. The shared operations of channels and gates: what each leaves of a channel, of its gates and of
the rest of the state. -/

namespace Sys2Proof.Machine

open Sys2Proof

/-! ## Gates -/

theorem gateLeg_setGateLeg_same (g : Gate) (l : Leg) (x : LegState) :
    gateLeg (setGateLeg g l x) l = x := by
  cases l <;> rfl

theorem gateLeg_setGateLeg_other (g : Gate) {l m : Leg} (h : m ≠ l) (x : LegState) :
    gateLeg (setGateLeg g l x) m = gateLeg g m := by
  cases l <;> cases m <;> first | rfl | exact absurd rfl h

@[simp] theorem setGateLeg_enable (g : Gate) (l : Leg) (x : LegState) :
    (setGateLeg g l x).enable = g.enable := by cases l <;> rfl

@[simp] theorem setGateLeg_pendingTriple (g : Gate) (l : Leg) (x : LegState) :
    (setGateLeg g l x).pendingTriple = g.pendingTriple := by cases l <;> rfl

@[simp] theorem setGateLeg_activeTriple (g : Gate) (l : Leg) (x : LegState) :
    (setGateLeg g l x).activeTriple = g.activeTriple := by cases l <;> rfl

/-- A switch-off leaves everything of the channel off (R58, R59). -/
theorem gateSwitchOff_switchedOff (t : Nat) (g : Gate) : SwitchedOff (gateSwitchOff t g) :=
  ⟨rfl, rfl, rfl, fun l => by cases l <;> exact ⟨rfl, rfl, rfl⟩⟩

/-- The inhibit turns every switch off and keeps enable and triples (R60). -/
theorem gateInhibit_legs (t : Nat) (g : Gate) (l : Leg) : gateLeg (gateInhibit t g) l = legOff t (gateLeg g l) := by
  cases l <;> rfl

theorem legOff_safe (t : Nat) (x : LegState) : (legOff t x).safe = true := rfl

/-- Commanding a leg keeps it safe (R57). -/
theorem legCommand_safe (dt t : Nat) (lv : Level) {x : LegState} (h : x.safe = true) :
    (legCommand dt t lv x).safe = true := by
  unfold legCommand; split
  · exact h
  · cases lv <;> simp [legToHigh, legToLow, LegState.safe]

/-- A high switch that a command turns on has its partner off, for the dead time (R57). -/
theorem legCommand_highOn (dt t : Nat) (lv : Level) (x : LegState) (h : x.highOn = false)
    (k : (legCommand dt t lv x).highOn = true) :
    (legCommand dt t lv x).lowOn = false ∧ (legCommand dt t lv x).lowOffAt + dt ≤ t := by
  unfold legCommand at k ⊢; split at k
  · simp [h] at k
  · next ne =>
    rw [if_neg ne]
    cases lv <;> simp [legToHigh, legToLow] at k ⊢
    exact k

/-- The same of a low switch (R57). -/
theorem legCommand_lowOn (dt t : Nat) (lv : Level) (x : LegState) (h : x.lowOn = false)
    (k : (legCommand dt t lv x).lowOn = true) :
    (legCommand dt t lv x).highOn = false ∧ (legCommand dt t lv x).highOffAt + dt ≤ t := by
  unfold legCommand at k ⊢; split at k
  · simp [h] at k
  · next ne =>
    rw [if_neg ne]
    cases lv <;> simp [legToHigh, legToLow] at k ⊢
    exact k

/-- A switch that waited for its dead time turns on with its partner off. -/
theorem legTurnOn_safe {x : LegState} (h : x.safe = true) : (legTurnOn x).safe = true := by
  unfold legTurnOn; split
  · exact h
  · next off =>
    cases lv : x.level with
    | none => exact h
    | some l => cases l <;> simp_all [LegState.safe]

/-! ## One channel -/

@[simp] theorem toRampdown_state (r p : Bool) (ch : Channel) : (toRampdown r p ch).state = .rampdown := rfl
@[simp] theorem toRampdown_fault (r p : Bool) (ch : Channel) : (toRampdown r p ch).fault = ch.fault := rfl
@[simp] theorem toRampdown_record (r p : Bool) (ch : Channel) : (toRampdown r p ch).record = ch.record := rfl
@[simp] theorem laterFault_state (k : Cause) (ch : Channel) : (laterFault k ch).state = ch.state := rfl
@[simp] theorem laterFault_first (k : Cause) (ch : Channel) :
    (laterFault k ch).fault.firstCause = ch.fault.firstCause := rfl
@[simp] theorem toHold_state (ch : Channel) : (toHold ch).state = .hold := rfl
@[simp] theorem toReady_state (ch : Channel) : (toReady ch).state = .ready := rfl
@[simp] theorem toRun_state (sch : Schedule) (ch : Channel) : (toRun sch ch).state = .run := rfl
@[simp] theorem toFault_state (k : Cause) (m : Word) (ia ib : Int) (v n : Nat) (ch : Channel) :
    (toFault k m ia ib v n ch).state = .fault := rfl
@[simp] theorem toFault_first (k : Cause) (m : Word) (ia ib : Int) (v n : Nat) (ch : Channel) :
    (toFault k m ia ib v n ch).fault.firstCause = some k := rfl
@[simp] theorem toFault_record (k : Cause) (m : Word) (ia ib : Int) (v n : Nat) (ch : Channel) :
    (toFault k m ia ib v n ch).record = ch.record := rfl

/-! ## FAULT entry of an unpaired channel (R16) -/

theorem tellPartner_unpaired {s : State} {c : Chan} (h : paired s c = false) : tellPartner c s = s := by
  simp [tellPartner, h]

theorem paired_of_keeps {s t : State} (k : SampleKeeps s t) (c : Chan) : paired t c = paired s c := by
  simp [paired, k.pairs]

/-- A FAULT entry of an unpaired channel is its own record and context alone. -/
theorem enterFault_unpaired {s : State} {c : Chan} (h : paired s c = false) (k : Cause) (m : Word)
    (ia ib : Int) (v : Nat) : enterFault c k m ia ib v s = enterFaultAlone c k m ia ib v s := by
  unfold enterFault
  exact tellPartner_unpaired ((paired_of_keeps (enterFaultAlone_keeps c k m ia ib v s) c).trans h)

/-- What a FAULT entry leaves of the channel (R16, R81). -/
theorem enterFaultAlone_chan_same (s : State) (c : Chan) (k : Cause) (m : Word) (ia ib : Int) (v : Nat) :
    (enterFaultAlone c k m ia ib v s).chan c = toFault k m ia ib v s.timer.stamp (s.chan c) := by
  simp [enterFaultAlone]

/-- Another channel is not touched. -/
theorem enterFaultAlone_chan_other (s : State) {c d : Chan} (h : d ≠ c) (k : Cause) (m : Word) (ia ib : Int)
    (v : Nat) : (enterFaultAlone c k m ia ib v s).chan d = s.chan d := by
  simp [enterFaultAlone, State.modChan_chan_other s _ h]

/-- The gates of a channel that enters FAULT are switched off (R58). -/
theorem enterFaultAlone_gate_same (s : State) (c : Chan) (k : Cause) (m : Word) (ia ib : Int) (v : Nat) :
    (enterFaultAlone c k m ia ib v s).gate c = gateSwitchOff s.now (s.gate c) := by
  simp [enterFaultAlone]

/-! ## Detections by state (R75) -/

theorem detectAlone_drives {s : State} {c : Chan} (h : drives (s.chan c).state = true) (k : Cause) :
    detectAlone c k s =
      enterFaultAlone c k 0 (s.chan c).last.ia (s.chan c).last.ib s.bus.last s := by
  unfold detectAlone
  cases e : (s.chan c).state <;> simp_all [drives]

theorem detectAlone_fault {s : State} {c : Chan} (h : (s.chan c).state = .fault) (k : Cause) :
    detectAlone c k s = s.modChan c (laterFault k) := by
  unfold detectAlone; rw [h]

theorem detectAlone_rests {s : State} {c : Chan} (h : drives (s.chan c).state = false)
    (n : (s.chan c).state ≠ .fault) (k : Cause) : detectAlone c k s = s := by
  unfold detectAlone
  cases e : (s.chan c).state <;> simp_all [drives]

/-! ## RAMPDOWN entry (R10, R110) -/

theorem enterRampdown_unpaired {s : State} {c : Chan} (h : paired s c = false) (r p : Bool) :
    enterRampdown c r p s = s.modChan c (toRampdown r p) := by
  simp [enterRampdown, pairedLeader, h]

/-! ## What the commit sequence and the misses cannot touch -/

theorem mapChans_keeps (s : State) (f : Chan → Channel → Channel) : SampleKeeps s (s.mapChans f) := by
  constructor <;> rfl

theorem enterRun_keeps (c : Chan) (s : State) : SampleKeeps s (enterRun c s) :=
  (modChan_keeps s c _).trans (modGate_keeps _ c _)

theorem startRun_keeps (c : Chan) (s : State) : SampleKeeps s (startRun c s) := by
  unfold startRun; split
  · exact (enterRun_keeps c s).trans (enterRun_keeps _ _)
  · exact enterRun_keeps c s

theorem takeEnable_keeps (c : Chan) (n : Control) (s : State) : SampleKeeps s (takeEnable c n s) := by
  unfold takeEnable; split
  · split
    · exact startRun_keeps c s
    · exact modChan_keeps s c _
  · exact SampleKeeps.refl s
  · exact SampleKeeps.refl s
  all_goals exact modChan_keeps s c _

theorem commitStep4_keeps (c : Chan) (p n : Control) (s : State) : SampleKeeps s (commitStep4 c p n s) := by
  have h : SampleKeeps s (if rising (enableBit p) (enableBit n) then takeEnable c n s else s) := by
    split
    · exact takeEnable_keeps c n s
    · exact SampleKeeps.refl s
  unfold commitStep4; dsimp only
  generalize (if rising (enableBit p) (enableBit n) then takeEnable c n s else s) = s1 at h ⊢
  split
  · exact h.trans (enterRampdown_keeps c _ _ _)
  · exact h

theorem commitStep5_keeps (c : Chan) (p n : Control) (s : State) : SampleKeeps s (commitStep5 c p n s) := by
  have h : SampleKeeps s (if rising (noticeAckBit p) (noticeAckBit n) then s.modChan c ackNotice else s) := by
    split
    · exact modChan_keeps s c _
    · exact SampleKeeps.refl s
  unfold commitStep5; dsimp only
  generalize (if rising (noticeAckBit p) (noticeAckBit n) then s.modChan c ackNotice else s) = s1 at h ⊢
  split
  · exact h.trans (withTrace_keeps _ _)
  · exact h

/-- The commit sequence of R4 touches channels, gates and the Trace Unit alone. -/
theorem commitSequence_keeps (p n : Chan → Control) (s : State) : SampleKeeps s (commitSequence p n s) :=
  ((mapChans_keeps s _).trans (foldl_keeps _ (fun s c => commitStep4_keeps c _ _ s) _ _)).trans
    (foldl_keeps _ (fun s c => commitStep5_keeps c _ _ s) _ _)

theorem takeMiss_keeps (lim : Bool) (c : Chan) (s : State) : SampleKeeps s (takeMiss lim c s) := by
  unfold takeMiss; split
  · split
    · exact enterRampdown_keeps c _ _ s
    · exact modChan_keeps s c _
  · split
    · exact enterRampdown_keeps c _ _ s
    · exact SampleKeeps.refl s
  all_goals exact SampleKeeps.refl s

theorem announceMiss_keeps (lim : Bool) (s : State) : SampleKeeps s (announceMiss lim s) :=
  foldl_keeps _ (fun s c => takeMiss_keeps lim c s) _ s

theorem takeAction_keeps (a : GroupAction) (c : Chan) (s : State) : SampleKeeps s (takeAction a c s) := by
  unfold takeAction; split
  · exact modChan_keeps s c _
  · exact modChan_keeps s c _
  · exact modChan_keeps s c _
  · split
    · exact enterRampdown_keeps c _ _ s
    · exact SampleKeeps.refl s

/-- A group action touches channels, gates and the Trace Unit alone (R20). -/
theorem applyGroup_keeps (a : GroupAction) (first last : Chan) (s : State) :
    SampleKeeps s (applyGroup a first last s) :=
  foldl_keeps _ (fun s c => by
    split
    · exact takeAction_keeps a c s
    · exact SampleKeeps.refl s) _ s

end Sys2Proof.Machine
end

