-- ==== Sys2Proof/Laws/Numeric.lean ====
section
/-! SUPPORT. What the numeric operations can answer: bounds of clamps and saturation, the floor square
root, counters that stop at their bound. -/

namespace Sys2Proof.Machine

open Sys2Proof

theorem clamp_bounds {lo hi : Int} (x : Int) (h : lo ≤ hi) : lo ≤ clamp lo hi x ∧ clamp lo hi x ≤ hi := by
  unfold clamp; split
  · exact ⟨le_refl _, h⟩
  · split <;> constructor <;> omega

theorem clamp_inside {lo hi x : Int} (h1 : lo ≤ x) (h2 : x ≤ hi) : clamp lo hi x = x := by
  unfold clamp; split
  · omega
  · split <;> omega

theorem clampNat_bounds {lo hi : Nat} (x : Nat) (h : lo ≤ hi) :
    lo ≤ clampNat lo hi x ∧ clampNat lo hi x ≤ hi := by
  unfold clampNat; split
  · exact ⟨le_refl _, h⟩
  · split <;> constructor <;> omega

theorem sat_bounds (x : Int) : -32767 ≤ sat x ∧ sat x ≤ 32767 := clamp_bounds x (by decide)

theorem bumpTo_le {bound n : Nat} (h : n ≤ bound) : bumpTo bound n ≤ bound := by
  unfold bumpTo; split <;> omega

theorem bump_le {n : Nat} (h : n ≤ 65535) : bump n ≤ 65535 := bumpTo_le h

theorem sqrtBits_spec : ∀ (k r n : Nat), r * r ≤ n → n < (r + 2 ^ k) * (r + 2 ^ k) →
    sqrtBits k r n * sqrtBits k r n ≤ n ∧ n < (sqrtBits k r n + 1) * (sqrtBits k r n + 1)
  | 0, r, n, h1, h2 => by simpa [sqrtBits] using ⟨h1, h2⟩
  | k + 1, r, n, h1, h2 => by
    unfold sqrtBits; split
    · next h =>
      refine sqrtBits_spec k _ n h ?_
      have : r + 2 ^ k + 2 ^ k = r + 2 ^ (k + 1) := by ring
      rw [this]; exact h2
    · next h => exact sqrtBits_spec k r n h1 (by omega)

/-- The floor square root of a count below 2^32. -/
theorem floorSqrt_spec {n : Nat} (h : n < 2 ^ 32) :
    floorSqrt n * floorSqrt n ≤ n ∧ n < (floorSqrt n + 1) * (floorSqrt n + 1) :=
  sqrtBits_spec 16 0 n (Nat.zero_le _) (by simpa using h)

end Sys2Proof.Machine
end

