-- ==== Sys2Proof/Laws/Records.lean ====
section
/-! SUPPORT. What taking a record and committing a good SERVICE frame can do, said once. -/

namespace Sys2Proof.Machine

open Sys2Proof

/-! ## The check byte (R132) -/

theorem byteSum_append (xs ys : List Byte) : byteSum (xs ++ ys) = byteSum xs + byteSum ys := by
  have key : ∀ (l : List Byte) (a : Byte), l.foldl (· + ·) a = a + l.foldl (· + ·) 0 := by
    intro l
    induction l with
    | nil => intro a; simp
    | cons x l ih =>
      intro a
      rw [List.foldl_cons, List.foldl_cons, ih (a + x), ih (0 + x)]
      rw [show (0 : Byte) + x = x from BitVec.zero_add x, BitVec.add_assoc]
  unfold byteSum
  rw [List.foldl_append, key]

/-- A record with its check byte formed anew sums to 0. -/
theorem byteSum_withCheck (code : Byte) (b : RecordBody) :
    byteSum (recordBytes code (withCheck code b)) = 0 := by
  have split : ∀ x : RecordBody, recordBytes code x = (recordBytes code x).take 25 ++ [x.check] := by
    intro x
    have hl : (x.data.toList.flatMap wordBytes).length = 16 := by
      simp [List.length_flatMap, wordBytes]
    unfold recordBytes
    rw [List.take_left' (by simp [hl])]
  have same : (recordBytes code (withCheck code b)).take 25 = (recordBytes code b).take 25 := by
    have hl : (b.data.toList.flatMap wordBytes).length = 16 := by
      simp [List.length_flatMap, wordBytes]
    unfold recordBytes withCheck
    rw [List.take_left' (by simp [hl]), List.take_left' (by simp [hl])]
  rw [split (withCheck code b), byteSum_append, same]
  have one : byteSum [(withCheck code b).check] = -(byteSum ((recordBytes code b).take 25)) := by
    simp [byteSum, withCheck]
  rw [one]
  exact BitVec.add_right_neg _

/-! ## Taking a record -/

/-- A record for this station is answered. -/
theorem receiveRecord_answer {s : State} {f : FrameCtx} {code : Byte} {b : RecordBody}
    (h : ForThisStation s f b) : receiveRecord code b s = answerRecord code b f s := by
  obtain ⟨hr, hd, hs, ha, hp⟩ := h
  have hne : s.address ≠ 255 := by intro e; rw [e] at ha; exact absurd ha.2 (by decide)
  have hn0 : s.address ≠ 0 := by intro e; rw [e] at ha; exact absurd ha.1 (by decide)
  unfold receiveRecord
  rw [hr]
  simp only [hd]
  have : handling s b = .answer := by
    unfold handling
    rw [if_neg (by rw [hs]; exact hne), if_pos ⟨hs, by
      unfold addressed; rw [Bool.and_eq_true]; exact ⟨bne_iff_ne.mpr hn0, bne_iff_ne.mpr hne⟩, hp⟩]
  rw [this]

/-- The reply that an answer writes. -/
theorem replyBody_isReply (s : State) (f : FrameCtx) (code flags seq : Byte) (b : RecordBody) :
    IsReply s f code b (flags ||| seq)
      (replyBody s code (flags ||| startupFlag f.phase ||| seq) b) where
  station := rfl
  argument := rfl
  replier := rfl
  flags := by
    show flags ||| startupFlag f.phase ||| seq = _
    unfold startupFlag flagIf flagStartup
    rw [BitVec.or_assoc, BitVec.or_assoc, BitVec.or_comm _ seq]
    by_cases h : f.phase = .config <;> simp [h]
  wordCount := rfl
  data := by
    intro k
    show (overlay b.data s.service.result)[k] = _
    simp [overlay]
  check := byteSum_withCheck code _

/-- Closing a stream as a record is taken, in the statements' words. -/
theorem closeStream_command (u : ServiceUnit) : closeStream .command u = streamClosed u := by
  unfold closeStream streamClosed
  cases u.stream <;> rfl

/-- An answered record: what is judged enters the frame's context, and the reply leaves. -/
theorem answer_taken {i : Instr} {s : State} {f : FrameCtx} {code : Byte} {b : RecordBody}
    (hi : exec i s = .next (receiveRecord code b s)) (h : ForThisStation s f b) :
    TakesRecord i s f code b
      ((judge s f.phase false code b).flags
        ||| flagIf (!checkFails s code b && clearsSequence s code) flagSeqCleared)
      (answerTaken s f.phase code b) (!checkFails s code b && closesStream s code) := by
  refine ⟨_, replyBody_isReply s f code _ _ b, ?_⟩
  unfold RecordTaken
  rw [hi, receiveRecord_answer h]
  unfold answerRecord closeIf
  split <;> simp_all [withReceiving, takenRecord, passRecord, pushPart, State.withPort, State.withService,
    closeStream_command, answerFlags]

/-- A record with a sound check byte or with check mode off passes step 1 of R154. -/
theorem checkFails_eq_false {s : State} {code : Byte} {b : RecordBody}
    (h : s.service.checkMode = false ∨ byteSum (recordBytes code b) = 0) : checkFails s code b = false := by
  unfold checkFails recordSound
  rcases h with h | h <;> simp [h]

/-! ## The commit of a good SERVICE frame -/

/-- The verdict of a good frame. -/
theorem verdictOf_good {s : State} {f : FrameCtx} {h : Header} (g : GoodFrame s f h) :
    verdictOf f = .good := by
  have hl := g.length
  unfold verdictOf
  rw [if_neg g.kind]
  have hf : formatError f = false := by
    unfold formatError
    rw [g.header]
    have hlen : frameLength h = f.rx.length := by
      rw [hl]; unfold frameLength slotStart hasRecord slotCountOf
      by_cases e : h.servicePresent = 1 <;> simp only [e, beq_self_eq_true, if_true, beq_iff_eq, if_false] <;> omega
    have h8 : ¬ f.rx.length < 8 := by rw [hl]; omega
    simp [g.noError, hlen, h8]
  rw [hf, if_neg (by decide)]
  have hc : crcGood f = true := by
    unfold crcGood trailerIn
    rw [g.crc]; simp
  rw [if_pos hc]

/-- A good frame at its end of reception commits at `max s.now at_`. -/
theorem endOfReception_good {s : State} {f : FrameCtx} {h : Header} (at_ : Nat) (g : GoodFrame s f h) :
    exec (.endOfReception at_ []) s =
      .next (resume (commitFrame f (closeReception f (s.withNow (max s.now at_))))) := by
  show Host.Outcome.next (endReception at_ [] s) = _
  congr 1
  unfold endReception
  rw [g.receiving]
  have h1 : advanceTo at_ s = s.withNow (max s.now at_) := advanceTo_of_none at_ g.settled
  have h0 : finishSample (s.withNow (max s.now at_)) = s.withNow (max s.now at_) :=
    finishSample_of_none g.settled
  have h2 : takeTimeout (s.withNow (max s.now at_)) = s.withNow (max s.now at_) :=
    takeTimeout_of_none g.settled
  have h3 : receivePlain [] (s.withNow (max s.now at_)) = s.withNow (max s.now at_) := by
    have hp : (s.withNow (max s.now at_)).port.receiving = some f := g.receiving
    unfold receivePlain
    rw [hp]
    simp only [pushPlain_nil]
    have hr := g.receiving
    cases s with
    | mk now resetLow inhnLow address phase station carrier gates sense bus channels active staged commit
        pairs timer counters slotMap latches prevControl service port trace freeUsed moment pending =>
      cases port
      simp_all [withReceiving, State.withPort, State.withNow]
  simp only [List.length_nil, h1, h0, h2, receiveRest_nil, h3]
  show (match s.port.receiving with | none => _ | some f => _) = _
  rw [g.receiving]
  simp only [settleFrame, verdictOf_good g, if_true]

/-- The commit of a good SERVICE frame: its counters, then the command on what they leave. -/
theorem endOfReception_service {s : State} {f : FrameCtx} {h : Header} {cmd : PendCmd} {clears : Bool}
    (at_ : Nat) (g : GoodService s f h cmd clears) :
    exec (.endOfReception at_ []) s =
      .next (resume (keepResult (answeredWith cmd clears)
        (executeCmd cmd (afterService s f at_ clears s.service.result)))) := by
  rw [endOfReception_good at_ g.toGoodFrame]
  congr 2
  have hk := g.service
  have hv := verdictOf_good g.toGoodFrame
  have hc : commitTimer f (closeReception f (s.withNow (max s.now at_))) =
      closeReception f (s.withNow (max s.now at_)) := by
    unfold commitTimer; rw [if_neg (by rw [hk]; decide)]
  have ho : cycleOperational f = false := by unfold cycleOperational; rw [hk]; rfl
  have hs : commitSlotEngine f (closeReception f (s.withNow (max s.now at_))) =
      closeReception f (s.withNow (max s.now at_)) := by
    unfold commitSlotEngine; rw [ho]; rfl
  have hsh : ∀ x : State, isShort x f = false := by
    intro x; unfold isShort; rw [g.header]; simp [ho]
  unfold commitFrame
  rw [hc, hs]
  unfold commitService
  rw [g.taken]
  show commitRecord (answeredWith cmd clears) _ = _
  unfold commitRecord commitCounters
  rw [hsh, g.taken]
  have e : (if (answeredWith cmd clears).clearTags = true then
        clearTags ((closeReception f (s.withNow (max s.now at_))).withCounters
          (countCommit false (some (answeredWith cmd clears))
            (closeReception f (s.withNow (max s.now at_))).counters))
      else (closeReception f (s.withNow (max s.now at_))).withCounters
          (countCommit false (some (answeredWith cmd clears))
            (closeReception f (s.withNow (max s.now at_))).counters)) =
      afterService s f at_ clears s.service.result := by
    cases clears <;>
      simp [answeredWith, clearTags, closeReception, afterService, countCommit, hv, State.withService,
        State.withCounters, State.withPort, State.withNow]
  rw [e]
  rfl

/-- A command whose commit gives `e` on the plain commit state, with no instant left in progress, commits
so. -/
theorem commits_of_execute {s : State} {f : FrameCtx} {h : Header} {cmd : PendCmd} {clears : Bool}
    (at_ : Nat) (g : GoodService s f h cmd clears) {t : State} {r : List Word}
    (he : executeCmd cmd (afterService s f at_ clears s.service.result) = ⟨t, r⟩)
    (hm : t.moment = none) :
    exec (.endOfReception at_ []) s = .next { t with service := { t.service with result := r } } := by
  rw [endOfReception_service at_ g, he]
  show Host.Outcome.next (resume (t.withService { t.service with result := r })) = _
  rw [resume_of_none (show (t.withService { t.service with result := r }).moment = none from hm)]
  rfl

end Sys2Proof.Machine
end

