-- ==== Sys2Proof/Laws/Reception.lean ====
section
/-! SUPPORT. Parts of a frame and their bytes, and the bytes that END_OF_RECEPTION brings. -/

namespace Sys2Proof.Machine

open Sys2Proof

/-! ## Parts and their bytes (R131, R132) -/

theorem bytesWord_wordBytes (w : Word) : bytesWord ((wordBytes w).getD 0 0) ((wordBytes w).getD 1 0) = w := by
  show w.extractLsb' 8 8 ++ w.extractLsb' 0 8 = w
  apply BitVec.eq_of_getLsbD_eq; intro i hi
  simp only [BitVec.getLsbD_append, BitVec.getLsbD_extractLsb']
  by_cases h : i < 8
  · simp [h]
  · have h' : i - 8 < 8 := by omega
    have h'' : 8 + (i - 8) = i := by omega
    simp [h, h', h'']

theorem headerOf_headerBytes (h : Header) : headerOf (headerBytes h) = h := by
  have hw := bytesWord_wordBytes h.cycleCount
  simp only [wordBytes, List.getD_cons_zero, List.getD_cons_succ] at hw
  simp [headerOf, headerBytes, wordBytes, hw]

theorem recordCode_recordBytes (code : Byte) (b : RecordBody) : recordCode (recordBytes code b) = code := rfl

theorem length_headerBytes (h : Header) : (headerBytes h).length = 5 := rfl

theorem length_wordBytes (w : Word) : (wordBytes w).length = 2 := rfl

theorem length_recordBytes (code : Byte) (b : RecordBody) : (recordBytes code b).length = 26 := by
  simp [recordBytes, wordBytes, List.length_flatMap]

theorem argument_of_bytes (a : BitVec 32) :
    a.extractLsb' 24 8 ++ a.extractLsb' 16 8 ++ a.extractLsb' 8 8 ++ a.extractLsb' 0 8 = a := by
  apply BitVec.eq_of_getLsbD_eq; intro i hi
  simp only [BitVec.getLsbD_append, BitVec.getLsbD_extractLsb']
  by_cases h0 : i < 8
  · simp [h0]
  · by_cases h1 : i - 8 < 8
    · have e : 8 + (i - 8) = i := by omega
      simp [h0, h1, e]
    · by_cases h2 : i - 8 - 8 < 8
      · have e : 16 + (i - 8 - 8) = i := by omega
        simp [h0, h1, h2, e]
      · have h3 : i - 8 - 8 - 8 < 8 := by omega
        have e : 24 + (i - 8 - 8 - 8) = i := by omega
        simp [h0, h1, h2, h3, e]

/-- The 26 bytes of a record spell it. -/
theorem recordBody_recordBytes (code : Byte) (b : RecordBody) : recordBody (recordBytes code b) = b := by
  obtain ⟨station, replier, flags, wordCount, argument, ⟨⟨data⟩, hd⟩, check⟩ := b
  match data, hd with
  | [d0, d1, d2, d3, d4, d5, d6, d7], _ =>
    have w (x : Word) : bytesWord (x.extractLsb' 8 8) (x.extractLsb' 0 8) = x := bytesWord_wordBytes x
    simp only [recordBody, recordBytes]
    congr 1
    · exact argument_of_bytes argument
    · apply Vector.ext
      intro i hi
      rw [Vector.getElem_ofFn]
      match i, hi with
      | 0, _ => exact w d0
      | 1, _ => exact w d1
      | 2, _ => exact w d2
      | 3, _ => exact w d3
      | 4, _ => exact w d4
      | 5, _ => exact w d5
      | 6, _ => exact w d6
      | 7, _ => exact w d7

/-! ## The bytes that END_OF_RECEPTION brings -/

theorem two_le_partLength (p : Part) : 2 ≤ partLength p := by cases p <;> simp [partLength]

theorem receivePart_shorter (p : Part) (bs : List Byte) (h : ¬ bs.length < partLength p) :
    (bs.drop (partLength p)).length + 2 ≤ bs.length := by
  have := two_le_partLength p
  rw [List.length_drop]; omega

/-- `receiveRest` has taken every part once it may take as many as there are bytes. -/
theorem receiveRest_enough :
    ∀ (n m : Nat) (bs : List Byte) (s : State), bs.length ≤ n → bs.length ≤ m →
      receiveRest n bs s = receiveRest m bs s
  | 0, 0, _, _, _, _ => rfl
  | 0, m + 1, bs, s, h, _ => by
    have hb : bs = [] := List.length_eq_zero_iff.mp (by omega)
    subst hb
    unfold receiveRest
    cases hr : s.port.receiving with
    | none => simp [receivePlain, hr]
    | some f =>
      have h2 := two_le_partLength (nextPart f)
      have hs : nextPart f = .plain ∨ ([] : List Byte).length < partLength (nextPart f) :=
        .inr (by rw [List.length_nil]; omega)
      exact (if_pos hs).symm
  | n + 1, 0, bs, s, _, h => by
    rw [receiveRest_enough 0 (n + 1) bs s h (by omega)]
  | n + 1, m + 1, bs, s, hn, hm => by
    unfold receiveRest
    cases hr : s.port.receiving with
    | none => rfl
    | some f =>
      dsimp only
      split
      · rfl
      · rename_i hp
        have hs := receivePart_shorter (nextPart f) bs (fun h => hp (.inr h))
        exact receiveRest_enough n m _ _ (by omega) (by omega)

/-- A whole part at the front of the bytes left is received, and then the rest. -/
theorem receiveRest_part {s : State} {f : FrameCtx} (bs more : List Byte) (hr : s.port.receiving = some f)
    (hp : nextPart f ≠ .plain) (hl : bs.length = partLength (nextPart f)) :
    receiveRest (bs ++ more).length (bs ++ more) s =
      receiveRest more.length more (receivePart (nextPart f) bs s) := by
  have h2 := two_le_partLength (nextPart f)
  obtain ⟨n, hn⟩ : ∃ n, (bs ++ more).length = n + 1 :=
    ⟨(bs ++ more).length - 1, by rw [List.length_append]; omega⟩
  rw [hn, receiveRest, hr]
  dsimp only
  have hlong : ¬ (bs ++ more).length < partLength (nextPart f) := by rw [List.length_append]; omega
  rw [if_neg (by simp only [hp, false_or]; exact hlong)]
  rw [← hl, List.drop_left, List.take_left]
  apply receiveRest_enough
  · rw [List.length_append] at hn; omega
  · exact le_refl _

/-- With the instant settled, END_OF_RECEPTION takes the bytes left at its own time. -/
theorem endReception_settled {s : State} {f : FrameCtx} (at_ : Nat) (rest : List Byte)
    (hr : s.port.receiving = some f) (hm : s.moment = none) :
    endReception at_ rest s =
      (let s1 := receiveRest rest.length rest (s.withNow (max s.now at_))
       match s1.port.receiving with
       | none => s1
       | some g => resume (settleFrame g s1)) := by
  have h1 : advanceTo at_ s = s.withNow (max s.now at_) := advanceTo_of_none at_ hm
  have h0 : finishSample (s.withNow (max s.now at_)) = s.withNow (max s.now at_) := finishSample_of_none hm
  have h2 : takeTimeout (s.withNow (max s.now at_)) = s.withNow (max s.now at_) := takeTimeout_of_none hm
  unfold endReception
  rw [hr, h1, h0, h2] <;> rfl

end Sys2Proof.Machine
end

