-- ==== Sys2Proof/Laws/Tables.lean ====
section
/-! SUPPORT. What the writes of a record can change (R165, R167). -/

namespace Sys2Proof.Machine

open Sys2Proof

/-- From `ch` to `ch'` only the record, the i2t level and foldback have changed (R2, R69). -/
def Channel.WrittenOnly (ch ch' : Channel) : Prop :=
  ch' = { ch with record := ch'.record, i2t := ch'.i2t, foldback := ch'.foldback }

theorem writeChannel_writes (f : Nat) (w : Word) (ch : Channel) :
    Channel.WrittenOnly ch (writeChannel f w ch) := by
  unfold writeChannel writeI2tLim Channel.WrittenOnly
  split <;> first | rfl | (dsimp only; split <;> rfl)

/-- From `s` to `t` only what the writable tables show has changed (R164). -/
structure WrittenOnly (s t : State) : Prop where
  state : t = { s with station := t.station, channels := t.channels, slotMap := t.slotMap,
                       staged := t.staged, counters := t.counters,
                       trace := { s.trace with cfg := t.trace.cfg } }
  channels : ∀ c, Channel.WrittenOnly (s.chan c) (t.chan c)

theorem WrittenOnly.refl (s : State) : WrittenOnly s s := ⟨rfl, fun _ => rfl⟩

theorem WrittenOnly.trans {s t u : State} (h : WrittenOnly s t) (k : WrittenOnly t u) : WrittenOnly s u where
  state := by rw [k.state, h.state]
  channels c := by
    have hc := h.channels c
    have kc := k.channels c
    unfold Channel.WrittenOnly at *
    rw [kc, hc]

theorem writeField_writes (s : State) (tb : Table) (x : WordWrite) : WrittenOnly s (writeField s tb x) where
  state := by cases tb <;> rfl
  channels c := by
    cases tb
    case channel =>
      by_cases hc : chanOf x.entry = c
      · subst hc
        simpa [writeField, State.modChan, State.chan, State.setChan] using
          writeChannel_writes x.field x.word (s.chan (chanOf x.entry))
      · have hv : (chanOf x.entry).val ≠ c.val := fun h => hc (Fin.ext h)
        simp [writeField, State.modChan, State.chan, State.setChan, Channel.WrittenOnly,
          Vector.getElem_set_ne _ _ hv]
    all_goals rfl

theorem clampAfterWrite_writes (tb : Table) (s : State) : WrittenOnly s (clampAfterWrite tb s) :=
  ⟨by cases tb <;> rfl, by cases tb <;> exact fun _ => rfl⟩

theorem writeFields_write (tb : Table) :
    ∀ (xs : List WordWrite) (s : State), WrittenOnly s (xs.foldl (fun s x => writeField s tb x) s)
  | [], s => .refl s
  | x :: xs, s => (writeField_writes s tb x).trans (writeFields_write tb xs (writeField s tb x))

/-- The words of one commit change only what the writable tables show. -/
theorem writeWords_writes (tb : Table) (xs : List WordWrite) (s : State) : WrittenOnly s (writeWords tb xs s) :=
  (writeFields_write tb xs s).trans (clampAfterWrite_writes tb _)

/-- The words are written in record order: the last one is written over what those before it leave. -/
theorem writeFields_append (tb : Table) (xs : List WordWrite) (x : WordWrite) (s : State) :
    (xs ++ [x]).foldl (fun s x => writeField s tb x) s =
      writeField (xs.foldl (fun s x => writeField s tb x) s) tb x := by
  rw [List.foldl_append]; rfl

/-! ## A written field leaves the others -/

theorem readStation_writeStation (s : State) (f g n : Nat) (h : g ≠ f) :
    readStation { s with station := writeStation f n s.station } g = readStation s g := by
  unfold writeStation
  split <;> (unfold readStation; split <;> first | rfl | exact absurd rfl h)

theorem readChannel_writeI2tLim (ch : Channel) (g n : Nat) (h : g ≠ 6) :
    readChannel (writeI2tLim n ch) g = readChannel ch g := by
  unfold writeI2tLim
  dsimp only
  split <;> (unfold readChannel; split <;> first | rfl | exact absurd rfl h)

theorem readChannel_writeChannel (ch : Channel) (f g : Nat) (x : Word) (h : g ≠ f) :
    readChannel (writeChannel f x ch) g = readChannel ch g := by
  unfold writeChannel
  split <;> first
    | exact readChannel_writeI2tLim _ _ _ h
    | (unfold readChannel; split <;> first | rfl | exact absurd rfl h)

theorem readSlot_writeSlot (e : SlotEntry) (f g n : Nat) (h : g ≠ f) :
    readSlot (writeSlot f n e) g = readSlot e g := by
  unfold writeSlot
  split <;> (unfold readSlot; split <;> first | rfl | exact absurd rfl h)

theorem readGain_writeGain (x : GainSet) (f g n : Nat) (h : g ≠ f) :
    readGain (writeGain f n x) g = readGain x g := by
  unfold writeGain
  split <;> (unfold readGain; split <;> first | rfl | exact absurd rfl h)

theorem readSched_writeSched (x : Schedule) (f g n : Nat) (h : g ≠ f) :
    readSched (writeSched f n x) g = readSched x g := by
  unfold writeSched
  split <;> (unfold readSched; split <;> first | rfl | exact absurd rfl h)

theorem readCounter_clearCounter (k : Counters) (f g : Nat) (h : g ≠ f) :
    readCounter (clearCounter f k) g = readCounter k g := by
  unfold clearCounter
  split <;> (unfold readCounter; split <;> first | rfl | exact absurd rfl h)

theorem readTraceCfg_writeTraceCfg (x : TraceCfg) (f g n : Nat) (h : g ≠ f) :
    readTraceCfg (writeTraceCfg f n x) g = readTraceCfg x g := by
  unfold writeTraceCfg
  split <;> (unfold readTraceCfg; split <;> first | rfl | exact absurd rfl h)

end Sys2Proof.Machine
end

