-- ==== Sys2Proof/Laws/Trace.lean ====
section
/-! SUPPORT. The trace memory: a record read after a write, and the canonical form kept by every operation. -/

namespace Sys2Proof.Machine

open Sys2Proof

theorem traceWfFrom_mono : ∀ {m : TraceMem} {a b : Nat}, a ≤ b → traceWfFrom b m = true → traceWfFrom a m = true
  | [], _, _, _, _ => rfl
  | (k, v) :: m, a, b, h, hw => by
    simp only [traceWfFrom, Bool.and_eq_true, decide_eq_true_eq] at hw ⊢
    exact ⟨⟨le_trans h hw.1.1, hw.1.2⟩, hw.2⟩

theorem traceRead_below : ∀ {m : TraceMem} {lo n : Nat}, traceWfFrom lo m = true → n < lo → traceRead m n = {}
  | [], _, _, _, _ => rfl
  | (k, v) :: m, lo, n, hw, h => by
    simp only [traceWfFrom, Bool.and_eq_true, decide_eq_true_eq] at hw
    unfold traceRead
    rw [if_neg (by omega)]
    exact traceRead_below hw.2 (by omega)

theorem traceErase_wf : ∀ {m : TraceMem} {lo : Nat} (n : Nat), traceWfFrom lo m = true →
    traceWfFrom lo (traceErase n m) = true
  | [], _, _, _ => rfl
  | (k, v) :: m, lo, n, hw => by
    simp only [traceWfFrom, Bool.and_eq_true, decide_eq_true_eq] at hw
    unfold traceErase; split
    · exact traceWfFrom_mono (by omega) hw.2
    · simp only [traceWfFrom, Bool.and_eq_true, decide_eq_true_eq]
      exact ⟨hw.1, traceErase_wf n hw.2⟩

theorem traceInsert_wf : ∀ {m : TraceMem} {lo n : Nat} {r : TraceRec}, lo ≤ n → r ≠ {} →
    traceWfFrom lo m = true → traceWfFrom lo (traceInsert n r m) = true
  | [], lo, n, r, h, hr, _ => by
    simp only [traceInsert, traceWfFrom, Bool.and_true, Bool.and_eq_true, decide_eq_true_eq]
    exact ⟨h, by rw [decide_eq_false hr]; rfl⟩
  | (k, v) :: m, lo, n, r, h, hr, hw => by
    simp only [traceWfFrom, Bool.and_eq_true, decide_eq_true_eq] at hw
    unfold traceInsert; split
    · simp only [traceWfFrom, Bool.and_eq_true, decide_eq_true_eq]
      exact ⟨⟨h, by rw [decide_eq_false hr]; rfl⟩, ⟨by omega, hw.1.2⟩, hw.2⟩
    · split
      · next e =>
        subst e
        simp only [traceWfFrom, Bool.and_eq_true, decide_eq_true_eq]
        exact ⟨⟨h, by rw [decide_eq_false hr]; rfl⟩, hw.2⟩
      · simp only [traceWfFrom, Bool.and_eq_true, decide_eq_true_eq]
        exact ⟨hw.1, traceInsert_wf (by omega) hr hw.2⟩

/-- Every write keeps the canonical form. -/
theorem traceWrite_wf {m : TraceMem} (n : Nat) (r : TraceRec) (h : TraceMem.wf m = true) :
    TraceMem.wf (traceWrite n r m) = true := by
  unfold traceWrite TraceMem.wf; split
  · exact traceErase_wf n h
  · next hr => exact traceInsert_wf (Nat.zero_le _) hr h

theorem traceRead_insert : ∀ (m : TraceMem) (n j : Nat) (r : TraceRec),
    traceRead (traceInsert n r m) j = if j = n then r else traceRead m j
  | [], n, j, r => by
    by_cases e : j = n
    · simp only [traceInsert, traceRead, e, if_true]
    · simp only [traceInsert, traceRead, if_neg e, if_neg (fun h => e (Eq.symm h))]
  | (k, v) :: m, n, j, r => by
    by_cases e : j = n
    · subst e
      unfold traceInsert; split
      · simp only [traceRead, if_true]
      · split
        · simp only [traceRead, if_true]
        · next h2 =>
          simp only [traceRead, if_neg (fun h => h2 (Eq.symm h)), if_true]
          simpa using traceRead_insert m j j r
    · have e' : ¬ n = j := fun h => e h.symm
      unfold traceInsert; split
      · simp only [traceRead, if_neg e']
      · split
        · next h => subst h; simp only [traceRead, if_neg e']
        · simp only [traceRead]
          rw [traceRead_insert m n j r, if_neg e]

theorem traceRead_erase : ∀ {m : TraceMem} {lo : Nat} (n j : Nat), traceWfFrom lo m = true →
    traceRead (traceErase n m) j = if j = n then {} else traceRead m j
  | [], _, n, j, _ => by
    simp only [traceErase, traceRead]; split <;> rfl
  | (k, v) :: m, lo, n, j, hw => by
    simp only [traceWfFrom, Bool.and_eq_true, decide_eq_true_eq] at hw
    unfold traceErase; split
    · next e =>
      subst e
      by_cases e : j = k
      · rw [if_pos e, e]; exact traceRead_below hw.2 (Nat.lt_succ_self _)
      · simp only [traceRead, if_neg e, if_neg (fun h => e (Eq.symm h))]
    · next h =>
      simp only [traceRead]; split
      · next e => subst e; rw [if_neg h]
      · exact traceRead_erase n j hw.2

/-- A record reads as it was written, and every other number reads as before. -/
theorem traceRead_write {m : TraceMem} (n j : Nat) (r : TraceRec) (h : TraceMem.wf m = true) :
    traceRead (traceWrite n r m) j = if j = n then r else traceRead m j := by
  unfold traceWrite; split
  · next e => rw [traceRead_erase n j h, e]
  · exact traceRead_insert m n j r

theorem resetTrace_mem (t : TraceUnit) : (resetTrace t).mem = t.mem := rfl

theorem writeRecord_wf {t : TraceUnit} (r : TraceRec) (h : TraceMem.wf t.mem = true) :
    TraceMem.wf (writeRecord r t).mem = true := by
  unfold writeRecord; exact traceWrite_wf _ _ h

theorem captureLength_pos (x : TraceCfg) : 0 < captureLength x := by unfold captureLength; split <;> decide

end Sys2Proof.Machine
end

