-- ==== Sys2Proof/Tests/Slice0.lean ====
section
/-! SUPPORT. Small tests of the model against the spec's worked examples, the smoke tests of well-formedness,
and for every statement with hypotheses a state that meets them. -/

namespace Sys2Proof.Tests

open Sys2Proof Sys2Proof.Machine

-- The tests wait for one another in the kernel: one after the other they take few threads at a time.
set_option Elab.async false

/-! ## Helpers -/

/-- The state a command leaves. -/
def after (i : Instr) (s : State) : State :=
  match exec i s with
  | .next t => t
  | .fault _ => s
  | .refused _ => s

/-- The state commands leave, one after the other. -/
def afterAll (is : List Instr) (s : State) : State := is.foldl (fun s i => after i s) s

/-- A station at address 5 in CONFIG, outside pin reset, with an idle line. -/
def config : State :=
  { State.reset with resetLow := false, address := 5, carrier := { nextPeriod := 6250 },
                     port := { waiting := false } }

/-- The same station in OPERATIONAL. -/
def operational : State := { config with phase := .operational }

/-- A state with channel 0 changed. -/
def with0 (ch : Channel) (s : State) : State := s.setChan 0 ch

/-- A channel in RUN with its output enable on. -/
def running (s : State) : State :=
  (s.setChan 0 { state := .run, lastRefD := 7, lastRefQ := -9 }).setGate 0 { enable := true }

/-- A service record for station 5 with a good check byte. -/
def record (code : Byte) (argument : BitVec 32) (words : List Word) : RecordBody :=
  withCheck code ⟨5, 0, 0, BitVec.ofNat 8 words.length, argument, Vector.ofFn fun i => words.getD i.val 0, 0⟩

/-- A SERVICE frame whose record comes next. -/
def beforeRecord (s : State) : FrameCtx :=
  { kind := .service, phase := s.phase, rx := [0xC2, 0, 0, 0, 0, 1], crcIn := 0,
    header := some ⟨0, 0, 0, 1⟩ }

/-- `s` with that frame being received. -/
def recordNext (s : State) : State := { s with port := { s.port with receiving := some (beforeRecord s) } }

/-- The bytes of a SERVICE frame of zeros with trailer 1234 hex. -/
def serviceBytes : List Byte := List.replicate 32 0 ++ [0x12, 0x34]

/-- A whole SERVICE frame with a good trailer and an answered record. -/
def serviceFrame (cmd : PendCmd) (clears : Bool) : FrameCtx :=
  { kind := .service, phase := .config, rx := serviceBytes, crcIn := 0x1234,
    header := some ⟨0, 0, 0, 1⟩, taken := some (answeredWith cmd clears) }

/-- `s` with that frame wholly received. -/
def commitNext (s : State) (cmd : PendCmd) (clears : Bool) : State :=
  { s with port := { s.port with receiving := some (serviceFrame cmd clears) } }

/-- A whole CYCLE frame of no slot words with a good trailer and pending values. -/
def cycleFrame (latches : List LatchWrite) : FrameCtx :=
  { kind := .cycle, phase := .operational, rx := [0xC1, 0, 0, 9, 0, 0, 0x12, 0x34], crcIn := 0x1234,
    header := some ⟨0, 9, 0, 0⟩, latches := latches }

/-- `s` with that frame wholly received. -/
def cycleNext (s : State) (latches : List LatchWrite) : State :=
  { s with port := { s.port with receiving := some (cycleFrame latches) } }

/-- Sense inputs of one value for every channel. -/
def inputs (vbus : Word) (x : SenseIn) : SampleInputs := ⟨vbus, Vector.replicate 8 x⟩

/-- Even channels first, the trace record last. -/
def order : SampleOrder := ⟨0, false⟩

/-! ## Well-formedness -/

theorem test_unknown_row_refuses_a_table_code : (Instr.unknown 0 (record 0 0 [])).wf = false := by decide

theorem test_unknown_row_takes_a_free_code : (Instr.unknown 0x99 (record 0x99 0 [])).wf = true := by decide

theorem test_calibrate_row_refuses_another_argument :
    (Instr.groupActionCalibrate (record 0x22 1 [])).wf = false := by decide

theorem test_clear_fault_row_refuses_another_argument :
    (Instr.groupActionClearFault (record 0x22 0 [])).wf = false := by decide

theorem test_ack_notice_row_refuses_another_argument :
    (Instr.groupActionAckNotice (record 0x22 3 [])).wf = false := by decide

theorem test_rampdown_row_refuses_another_argument :
    (Instr.groupActionRampdown (record 0x22 2 [])).wf = false := by decide

theorem test_rampdown_row_takes_its_argument_and_none_of_the_table :
    (Instr.groupActionRampdown (record 0x22 3 [])).wf = true ∧
      (Instr.groupActionRampdown (record 0x22 4 [])).wf = true := by decide

/-! ## Worked examples of the spec -/

/-- R121: the nine bytes 31 hex to 39 hex give 29B1 hex. -/
theorem test_crc_of_the_check_bytes :
    crc16 [0x31, 0x32, 0x33, 0x34, 0x35, 0x36, 0x37, 0x38, 0x39] = 0x29B1 := by decide +kernel

/-- R132: a GET_STATUS request to station 5 has check byte 250. -/
theorem test_check_byte_of_get_status : (record 0x01 0 []).check = 250 := by decide

/-- The fourth table of chapter 8: one word through the stages, SHIFT 2, INCREMENT, latch 31,000. -/
theorem test_consume_word_examples :
    combineSigned false true 50 31000 (scaleSigned 2 100) = 31400 ∧
      combineSigned false true 50 31000 (scaleSigned 2 1000) = 32767 ∧
      combineSigned false true 50 31000 (scaleSigned 2 (-9000)) = -1767 ∧
      combineSigned true true 50 31000 (scaleSigned 2 100) = 31050 := by decide

/-- R148: an i2t level of 57,343,669 is 875 with SHIFT 0 and 219 with SHIFT 2. -/
theorem test_i2t_level_is_rounded_twice :
    rshift 16 57343669 = 875 ∧ rshift 2 (rshift 16 57343669) = 219 := by decide

/-- R141: an ILIM_SCALE of 16,384 with SHIFT 1 gives 32,768; a negative word gives 0. -/
theorem test_limit_scale_is_clamped :
    scaleLimit 1 16384 = 32768 ∧ scaleLimit 0 (-1) = 0 := by decide

/-- Chapter 7, timing of a control cycle: commits at 100,000, 124,600 and 148,900 with the default settings
are counted neither early nor late, and the deadline after them is 174,900. -/
theorem test_timer_sequence :
    let frameAt (t : Nat) (s : State) : State := takeArrival { s with now := t }
    let s := frameAt 148900 (frameAt 124600 (frameAt 100000 operational))
    s.timer.deadline = some 174900 ∧ s.counters.early = 0 ∧ s.counters.late = 0 := by decide

/-- The same sequence: the miss at 174,900 moves the deadline to 199,900, and the commit at 187,000 is
late. -/
theorem test_timer_miss_and_late_frame :
    let s := { operational with now := 148900, timer := { running := true, lastArrival := 148900,
                                                          deadline := some 174900 } }
    let m := expireDeadline s
    let t := takeArrival { m with now := 187000 }
    m.timer.deadline = some 199900 ∧ m.timer.missCount = 1 ∧ t.counters.late = 1 ∧
      t.timer.deadline = some 213000 := by decide

/-- Section 5: with T1 4,000 to T3 15,000 and HY 500, a RUN channel at speed 16,000 rises to band 3, and at
3,499 falls back to band 0 from band 1. -/
theorem test_spindle_bands :
    let sch : Schedule := { used := 4, t1 := 4000, t2 := 9000, t3 := 15000, hy := 500 }
    selectBand sch 16000 0 = 3 ∧ selectBand sch (-3499) 1 = 0 ∧ selectBand sch 3600 1 = 1 := by decide

/-- A commanded level of compare value C is high from H - C up to H + C (R56). -/
theorem test_level_edges :
    levelAt 3125 50 3074 = .low ∧ levelAt 3125 50 3075 = .high ∧ levelAt 3125 50 3174 = .high ∧
      levelAt 3125 50 3175 = .low ∧ levelAt 3125 3125 0 = .high ∧ levelAt 3125 0 3125 = .low := by decide

/-- Worked case 1 of chapter 2, with its compare values of chapter 3. -/
theorem test_worked_case_1 :
    let env : LoopEnv :=
      { refD := 0, refQ := 2000, ilimScale := 32768, sched := {},
        gains := Vector.replicate 16 { kpD := 4096, kiD := 2048, kpQ := 4096, kiQ := 2048 },
        vnom := 32768, vbus := 32768, h := 3125, minp := 50, busNotNormal := false }
    let t := regulate env ⟨1000, -500, 0, true⟩ { state := .run, record := { peak := 32767 } }
    t.accD = -2048000 ∧ t.accQ = 4096000 ∧ t.comp.map (·.triple) = some ⟨1480, 1658, 1467⟩ ∧
      t.comp.map (·.results.vd) = some (-1000) ∧ t.comp.map (·.results.vq) = some 2000 := by
  decide +kernel

/-- Worked case 2 of chapter 2: the q axis is limited, and its integrator stays. -/
theorem test_worked_case_2 :
    let env : LoopEnv :=
      { refD := -1500, refQ := 4000, ilimScale := 32768, sched := {},
        gains := Vector.replicate 16
          { kpD := 4096, kiD := 2048, kpQ := 4096, kiQ := 2048, decL := 1000, ke := 20480 },
        vnom := 20000, vbus := 19000, h := 3125, minp := 50, busNotNormal := false }
    let t := regulate env ⟨0, 866, 0, true⟩
      { state := .run, speed := 2000, accD := -680329216, accQ := 1114112000, record := { peak := 32767 } }
    t.accD = -683401216 ∧ t.accQ = 1114112000 ∧ t.comp.map (·.triple) = some ⟨519, 3004, 121⟩ ∧
      t.comp.map (·.results.vq) = some 28723 ∧ t.comp.map (·.voltageLimited) = some true := by
  decide +kernel

/-- R65: with L = 10,000, references -6,000 and 9,000 leave as -6,000 and 8,000; -12,000 and 500 as -10,000
and 0. -/
theorem test_limit_chain :
    limitD 10000 (-6000) = -6000 ∧ limitQ 10000 (-6000) 9000 = 8000 ∧ limitD 10000 (-12000) = -10000 ∧
      limitQ 10000 (-12000) 500 = 0 := by decide +kernel

/-- R29: ia = 30,000 and ib = 20,000 give ic = -32,767, overcurrent against a TRIP of 32,000. -/
theorem test_derived_current_saturates :
    thirdCurrent 30000 20000 = -32767 ∧ overcurrentFinding 32000 30000 20000 = true := by decide

/-- Section 3.4, leg A of worked case 1: low off at 1,645, high on at 1,745. -/
theorem test_leg_a_of_worked_case_1 :
    let s := (operational.setGate 5
      { enable := true, activeTriple := some ⟨1480, 1658, 1467⟩, legA := { level := some .low, lowOn := true } })
    let s := { s with carrier := { nextPeriod := 6250 } }
    let t := after (.legLevelChange 5 .a) s
    let u := after (.deadTimeEnd 5 .a) t
    t.now = 1645 ∧ (t.gate 5).legA.lowOn = false ∧ (t.gate 5).legA.highOn = false ∧ u.now = 1745 ∧
      (u.gate 5).legA.highOn = true := by decide +kernel

/-- R150: with MATCH_CARE 0 every channel matches and the word is 255. -/
theorem test_match_word_without_care : matchWord config = 255 := by decide +kernel

/-- Section 1.2 (R2): RAMP written as 0 becomes 1, PP as 40 becomes 32, PAIR_ROLE as 7 becomes FOLLOWER. -/
theorem test_written_fields_are_clamped :
    (writeChannel 7 0 {}).record.ramp = 1 ∧ (writeChannel 0 40 {}).record.pp = 32 ∧
      (writeChannel 8 7 {}).record.pairRole = .follower := by decide

/-- The worked sequence of chapter 9: the words at the end of a STOP window read the last field again. -/
theorem test_read_past_the_end_of_a_window :
    let s := config.setChan 2 { record := { peak := 20000, cont := 10000 } }
    (readWords s ⟨.channel, 2, 2, 4, 5, false, false⟩ 4 0).1 = [20000, 10000, 10000, 10000] := by
  decide +kernel

/-- INHN_ASSERTED takes a channel in RUN into FAULT with INHIBIT, and leaves one in OFF (R77). -/
theorem test_inhibit :
    let t := after (.inhnAsserted 5 (Vector.replicate 4 [.detect false, .detect true])) (running operational)
    (t.chan 0).state = .fault ∧ (t.chan 0).fault.firstCause = some .inhibit ∧ (t.gate 0).enable = false ∧
      (t.chan 1).state = .off := by decide +kernel

/-- A whole SERVICE frame after a release at address 5: the station answers GET_STATUS with an
empty buffer, and commits (R122, R153, R154). -/
theorem test_service_frame :
    let bytes : List Byte := [0xC2, 0, 0, 0, 0, 1] ++ recordBytes 0x01 (record 0x01 0 [])
    let s := afterAll [.resetnReleased 10 5, .lineIdleAfterReset, .frameStart 0xC2,
      .endOfReception 500 (bytes.drop 1 ++ wordBytes (crc16 bytes)), .trailerSent] State.reset
    s.counters.frames = 1 ∧ s.counters.service = 1 ∧ s.service.result.length = 8 ∧
      s.port.lastSent.getD 8 0 = 5 ∧ s.port.lastSent.getD 9 0 = 0x01 ∧
      crc16 s.port.lastSent = 0 := by decide +kernel

/-! ## States that meet the hypotheses of the statements -/

theorem witness_FrontCommandRunsWithTheRest :
    ({ config with pending := [.summary, .bankSwitch] } : State).pending = [.summary, .bankSwitch] ∧
      config.pending = [] := by decide

theorem witness_PhaseStrapsAndLatchesChangeOnlyAtCommitsAndResets :
    (∀ at_ rest, Instr.summary ≠ .endOfReception at_ rest) ∧ (∀ at_, Instr.summary ≠ .resetnAsserted at_) ∧
      ∀ at_ straps, Instr.summary ≠ .resetnReleased at_ straps := by
  refine ⟨?_, ?_, ?_⟩ <;> intros <;> exact Instr.noConfusion

theorem witness_ReleaseSamplesStrapsAndWaitsForIdleLine :
    State.reset.resetLow = true ∧ State.reset.port.waiting = true ∧ config.resetLow = false := by decide

theorem witness_InhibitFaultsEveryDrivingChannel :
    (running operational).inhnLow = false ∧ (running operational).moment = none ∧
      ({ config with inhnLow := true } : State).inhnLow = true ∧ config.moment = none := by decide

theorem witness_PeriodStartMovesCarrierAndDebounce :
    config.resetLow = false ∧ config.moment = none ∧ State.reset.resetLow = true := by decide

/-- What is left of an instant with nothing due. -/
def instant : InstantWork := ⟨30000, [], false, [], false, false, false, none⟩

/-- The instant of a period start whose bus value has made the count 4, its sample event to come. -/
def busDue (k : BusClass) : State :=
  { running operational with bus := { candidate := k, count := 4 },
                             moment := some { instant with walk := walkOf order } }

/-- The same with a bank switch due too. -/
def busDueWithSwitch (k : BusClass) : State :=
  { busDue k with moment := some { instant with walk := walkOf order, switchDue := true } }

/-- The same with the last pair configured: channel 6 in RUN, channel 7 at the end of its rampdown. -/
def busDueAtRampEnd : State :=
  { ((busDue .under).setChan 6 { state := .run }).setChan 7 { state := .rampdown, rampComplete := true } with
    pairs := (Vector.replicate 4 false).set 3 true,
    moment := some { instant with walk := walkOf order, rampEnds := [7] } }

/-- Channel 6's detection, the reaction of channel 7, its rampdown end, its own detection. -/
def lateDetection : PairOrders :=
  (Vector.replicate 4 []).set 3 [.detect false, .react true, .rampEnd true, .detect true]

/-- No rampdown end before the detections: the odd channel's first. -/
def busFirst : PairOrders := Vector.replicate 4 [.detect true]

/-- The rampdown end of channel 7 first. -/
def rampEndFirst : PairOrders := (Vector.replicate 4 []).set 3 [.rampEnd true]

theorem witness_BusStateChangeIsDetectedInEveryChannel :
    (busDue .under).moment = some { instant with walk := walkOf order } ∧ 4 ≤ (busDue .under).bus.count ∧
      (∀ p : Fin 4, ∀ odd, PairEvent.rampEnd odd ∉ busFirst[p]) ∧
      busDueAtRampEnd.moment = some { instant with walk := walkOf order, rampEnds := [7] } ∧
      4 ≤ busDueAtRampEnd.bus.count ∧ busDueAtRampEnd.bus.candidate = .under ∧
      busDueAtRampEnd.trace.capture = .idle ∧
      RampEndDue busDueAtRampEnd { instant with walk := walkOf order, rampEnds := [7] } (oddOf 3) ∧
      rampEndFirst[(3 : Fin 4)] = [.rampEnd true] ∧
      (busDue .under).trace.capture = .idle ∧ (busDue .under).bus.candidate = .under ∧
      (busDue .over).bus.candidate = .over ∧ (busDue .normal).bus.candidate = .normal ∧
      drives ((busDue .under).chan 0).state = true ∧ ((busDue .under).chan 1).state = .off ∧
      (busDueWithSwitch .normal).moment =
        some { instant with walk := walkOf order, switchDue := true } ∧
      (∀ c, ¬ (((busDue .under).chan c).state = .calibrate ∧ ((busDue .under).chan c).calCount = 64)) ∧
      busDueAtRampEnd.pairs[(3 : Fin 4)] = true ∧ drives (busDueAtRampEnd.chan (evenOf 3)).state = true ∧
      (busDueAtRampEnd.chan (oddOf 3)).pendRefLoss = false ∧
      (busDueAtRampEnd.chan (oddOf 3)).pendPartner = false ∧
      lateDetection[(3 : Fin 4)] = [.detect false, .react (!false), .rampEnd (!false), .detect (!false)] := by
  unfold RampEndDue; decide +kernel

/-- R80: at a due rampdown end with REF_LOSS pending, the bus entry first gives BUS_UNDER first and REF_LOSS
also seen, the rampdown end first the other way round; with none pending, FAULT or READY. -/
theorem test_bus_entry_at_a_rampdown_end :
    let due := busDueAtRampEnd.setChan 7 { busDueAtRampEnd.chan 7 with pendRefLoss := true }
    let r (o : PairOrders) (s : State) := ((after (.busStateChange o) s).chan 7)
    (r busFirst due).fault.firstCause = some .busUnder ∧
      causeIn .refLoss (r busFirst due).fault.alsoSeen = true ∧
      (r rampEndFirst due).fault.firstCause = some .refLoss ∧
      causeIn .busUnder (r rampEndFirst due).fault.alsoSeen = true ∧
      (r busFirst busDueAtRampEnd).state = .fault ∧ (r rampEndFirst busDueAtRampEnd).state = .ready := by
  decide +kernel

/-- R114: reaction, then the partner's rampdown end, then its detection: PARTNER first in the partner, the
detected cause first in the other, and each the other cause also seen. -/
theorem test_late_detection_at_a_rampdown_end :
    let t := after (.busStateChange lateDetection) busDueAtRampEnd
    (t.chan 6).fault.firstCause = some .busUnder ∧ (t.chan 7).fault.firstCause = some .partner ∧
      causeIn .partner (t.chan 6).fault.alsoSeen = true ∧
      causeIn .busUnder (t.chan 7).fault.alsoSeen = true ∧ (t.chan 7).fault.laterCount = 1 ∧
      t.moment = none := by decide +kernel

/-- Channel 0 drives with a pending triple of the bounds 0 and H. -/
def tripleWaits : State :=
  (running operational).setGate 0 { enable := true, pendingTriple := some ⟨0, 50, 3125⟩ }

theorem witness_PendingTripleBecomesActive :
    tripleWaits.resetLow = false ∧ tripleWaits.moment = none ∧ tripleWaits.inhnLow = false ∧
      tripleWaits.now ≤ tripleWaits.carrier.nextPeriod ∧ (tripleWaits.chan 0).comp = none ∧
      (tripleWaits.gate 0).enable = true ∧
      (tripleWaits.gate 0).pendingTriple = some ⟨0, 50, 3125⟩ := by decide

/-- A valid sample. -/
def sample (a : Word) : SenseIn := ⟨a, 0, 0xFFFF, true⟩

/-- A period start at which no work but its own is due. -/
theorem calm_of (s : State) (h1 : s.resetLow = false) (h2 : s.moment = none)
    (h3 : s.service.stream = none)
    (h4 : s.commit.state ≠ .validating ∧ s.commit.state ≠ .switchPending) (h5 : s.bus.count ≤ 2)
    (h6 : ∀ c, (s.chan c).state = .rampdown → (s.chan c).rampComplete = false)
    (h7 : ∀ c, (s.chan c).state = .calibrate → (s.chan c).calCount < 63) : CalmStart s :=
  ⟨h1, h2, h3, h4, h5, h6, h7⟩

/-- A period start with nothing due. -/
theorem quiet_of (s : State) (x : SampleInputs) (h1 : s.resetLow = false) (h2 : s.moment = none)
    (h3 : s.service.stream = none)
    (h4 : s.commit.state ≠ .validating ∧ s.commit.state ≠ .switchPending) (h5 : s.bus.count ≤ 2)
    (h6 : ∀ c, (s.chan c).state = .rampdown → (s.chan c).rampComplete = false)
    (h7 : ∀ c, (s.chan c).state = .calibrate → (s.chan c).calCount < 63)
    (h8 : s.trace.capture = .idle ∨ (s.trace.capture = .armed ∧ s.trace.armedCfg.source = 0))
    (h9 : ∀ c : Chan, (x.chans[c]).valid = true) : QuietStart s x :=
  ⟨⟨h1, h2, h3, h4, h5, h6, h7⟩, h8, h9⟩

/-- Channel 0 in CALIBRATE before its 63rd sample. -/
def calibrating : State := with0 { state := .calibrate, calCount := 62 } config

theorem witness_RestingChannelSamples :
    QuietStart calibrating (inputs 65535 (sample 0x8000)) ∧
      drives (calibrating.chan 0).state = false ∧ (calibrating.chan 0).state = .calibrate ∧
      drives (calibrating.chan 7).state = false ∧ (calibrating.chan 7).state ≠ .calibrate :=
  ⟨quiet_of _ _ (by decide) (by decide) (by decide) (by decide) (by decide) (by decide) (by decide)
    (by decide) (by decide), by decide, by decide, by decide, by decide⟩

theorem witness_ComputedVectorsAndComparesKeepTheirLimits :
    QuietStart (running operational) (inputs 65535 (sample 0x7FFE)) ∧
      (∀ g : Fin 16, (running operational).active.gains[g].vlim ≤ 32767) ∧
      2 * (running operational).station.minp ≤ (running operational).station.carrierH ∧
      ((running operational).chan 0).record.peak ≤ 32767 ∧ ((running operational).chan 0).band ≤ 3 ∧
      ((running operational).active.scheds[(0 : Chan)]).used ≤ 4 ∧
      ¬ HasFinding ((running operational).chan 0) (sample 0x7FFE) ∧
      drives ((running operational).chan 0).state = true ∧
      paired (running operational) 0 = false :=
  ⟨quiet_of _ _ (by decide) (by decide) (by decide) (by decide) (by decide) (by decide) (by decide)
    (by decide) (by decide), by decide, by decide, by decide, by decide, by decide,
    by unfold HasFinding IsOverrange IsOvercurrent; decide +kernel, by decide, by decide⟩

/-- Channel 0 in RUN with an overcurrent threshold of 100. -/
def tripping : State :=
  (operational.setChan 0 { state := .run, record := { trip := 100 } }).setGate 0 { enable := true }

/-- The first pair configured: the follower in RUN with an overcurrent threshold of 100, the leader in a
state. -/
def trippingPair (k : ChState) : State :=
  { (operational.setChan 0 { state := k, lastRefQ := 150, rampQ := 50 }).setChan 1
      { state := .run, record := { trip := 100 } } with
    pairs := (Vector.replicate 4 false).set 0 true }

/-- A sample with an invalid angle word. -/
def invalidSample (a : Word) : SenseIn := ⟨a, 0, 0xFFFF, false⟩

/-- Channel 0 in RUN with an overcurrent threshold of 100, before its third invalid angle word. -/
def lostAndTripping : State :=
  operational.setChan 0 { state := .run, invalidCount := 2, record := { trip := 100 } }

theorem witness_CurrentFindingsTakeADrivingChannelIntoFault :
    QuietStart tripping (inputs 30000 (sample 0x8000)) ∧ HasFinding (tripping.chan 0) (sample 0x8000) ∧
      IsOverrange (sample 0x8000) ∧ HasFinding (tripping.chan 0) (sample 101) ∧
      ¬ IsOverrange (sample 101) ∧ ¬ HasFinding (tripping.chan 0) (sample 100) ∧
      paired tripping 0 = false ∧
      (∀ k, k ∈ [ChState.run, .rampdown, .fault, .ready] →
        QuietStart (trippingPair k) (inputs 30000 (sample 101))) ∧
      HasFinding ((trippingPair .run).chan 1) (sample 101) ∧ paired (trippingPair .run) 1 = true ∧
      partnerOf 1 = 0 ∧ ¬ HasFinding ((trippingPair .run).chan 0) (sample 101) ∧
      ((0 : Chan).val % 2 = 1 ↔ order.oddFirst.getLsbD (pairOf 1).val = true) ∧
      ¬ ((0 : Chan).val % 2 = 1 ↔ (⟨1, false⟩ : SampleOrder).oddFirst.getLsbD (pairOf 1).val = true) ∧
      CalmStart lostAndTripping ∧ CaptureWaits lostAndTripping ∧
      (lostAndTripping.chan 0).invalidCount = 2 ∧ HasFinding (lostAndTripping.chan 0) (invalidSample 101) ∧
      (invalidSample 101).valid = false :=
  ⟨quiet_of _ _ (by decide) (by decide) (by decide) (by decide) (by decide) (by decide) (by decide)
      (by decide) (by decide), by unfold HasFinding IsOverrange IsOvercurrent; decide +kernel,
    .inl (by decide), by unfold HasFinding IsOverrange IsOvercurrent; decide +kernel,
    by unfold IsOverrange; decide, by unfold HasFinding IsOverrange IsOvercurrent; decide +kernel,
    by decide,
    (fun k hk => by
      simp only [List.mem_cons, List.not_mem_nil, or_false] at hk
      rcases hk with rfl | rfl | rfl | rfl <;>
        exact quiet_of _ _ (by decide) (by decide) (by decide) (by decide) (by decide) (by decide)
          (by decide) (by decide) (by decide)),
    by unfold HasFinding IsOverrange IsOvercurrent; decide +kernel, by decide, by decide,
    by unfold HasFinding IsOverrange IsOvercurrent; decide +kernel, by decide, by decide,
    calm_of _ (by decide) (by decide) (by decide) (by decide) (by decide) (by decide) (by decide),
    .inl rfl, by decide, by unfold HasFinding IsOverrange IsOvercurrent; decide +kernel, by decide⟩

/-- A lost angle of channel 0 in one state is due. -/
def angleDue (k : ChState) : State :=
  { with0 { state := k, invalidCount := 3 } operational with
    moment := some { instant with angleDue := some 0 } }

/-- The same with the first pair configured and its follower in a state. -/
def angleDueInPair (k partner : ChState) : State :=
  { (angleDue k).setChan 1 { state := partner } with pairs := (Vector.replicate 4 false).set 0 true }

theorem witness_AngleLossIsTakenByTheChannelsState :
    (angleDue .run).moment = some { instant with angleDue := some 0 } ∧ paired (angleDue .run) 0 = false ∧
      drives ((angleDue .run).chan 0).state = true ∧ ((angleDue .fault).chan 0).state = .fault ∧
      ((angleDue .ready).chan 0).state = .ready ∧
      ({ instant with angleDue := some 0 } : InstantWork).walk = [] ∧
      paired (angleDueInPair .run .run) 0 = true ∧ partnerOf 0 = 1 ∧
      drives ((angleDueInPair .run .run).chan 0).state = true ∧
      runOrHold ((angleDueInPair .run .run).chan 1).state = true ∧
      ((angleDueInPair .run .rampdown).chan 1).state = .rampdown ∧
      ((angleDueInPair .run .fault).chan 1).state = .fault ∧
      drives ((angleDueInPair .fault .run).chan 0).state = false ∧
      CalmStart lostAndTripping ∧ CaptureWaits lostAndTripping ∧ (invalidSample 100).valid = false ∧
      ¬ HasFinding (lostAndTripping.chan 0) (invalidSample 100) ∧
      (lostAndTripping.chan 0).invalidCount = 2 ∧ (lostAndTripping.chan 1).invalidCount ≠ 2 :=
  ⟨by decide, by decide, by decide, by decide, by decide, by decide, by decide, by decide, by decide,
    by decide, by decide, by decide, by decide,
    calm_of _ (by decide) (by decide) (by decide) (by decide) (by decide) (by decide) (by decide),
    .inl rfl, by decide, by unfold HasFinding IsOverrange IsOvercurrent; decide +kernel, by decide,
    by decide⟩

/-- Channel 0 with 64 samples of one current code. -/
def calibrated (sumA : Int) : State := with0 { state := .calibrate, calCount := 64, sumA := sumA } config

/-- The same in channel 2, with its pair configured and the follower in RAMPDOWN. -/
def calibratedInPair (sumA : Int) : State :=
  { (operational.setChan 2 { state := .calibrate, calCount := 64, sumA := sumA }).setChan 3
      { state := .rampdown } with
    pairs := (Vector.replicate 4 false).set 1 true, moment := some instant }

theorem witness_CalibrationEndsInReadyOrOffsetFault :
    ((calibrated 131103).chan 0).state = .calibrate ∧ ((calibrated 131103).chan 0).calCount = 64 ∧
      paired (calibrated 131103) 0 = false ∧ (131103 + 32 : Int) / 64 = 2048 ∧
      |(2048 : Int)| ≤ 2048 ∧ (131104 + 32 : Int) / 64 = 2049 ∧ ¬ |(2049 : Int)| ≤ 2048 ∧
      (calibratedInPair 131104).moment = some instant ∧ instant.walk = [] ∧
      ((calibratedInPair 131104).chan 2).state = .calibrate ∧
      ((calibratedInPair 131104).chan 2).calCount = 64 ∧ paired (calibratedInPair 131104) 2 = true ∧
      partnerOf 2 = 3 ∧ ((calibratedInPair 131104).chan 3).state = .rampdown := by decide

/-- A computation that waits for its completion. -/
def computation (handOn : Bool) : Computation := ⟨{}, ⟨1, 2, 3⟩, false, false, false, 3, false, handOn⟩

theorem witness_ComputationPublishesAndHandsOn :
    let s := with0 { state := .run, comp := some (computation true) } operational
    s.moment = none ∧ (s.chan 0).comp = some (computation true) ∧ (computation true).band ≤ 3 ∧
      (computation true).handOn = true ∧ drives (s.chan 0).state = true ∧
      (computation false).handOn = false ∧ s.inhnLow = false := by decide

/-- Leg A of channel 0 with compare value 50, at a level. -/
def leg (lv : Level) (now : Nat) : State :=
  ({ operational with now := now, carrier := { nextPeriod := 6250 } }).setGate 0
    { enable := true, activeTriple := some ⟨50, 0, 0⟩, legA := { level := some lv } }

theorem witness_LegLevelChangesAtItsEdges :
    (leg .low 3075).moment = none ∧ ((leg .low 3075).gate 0).activeTriple = some ⟨50, 0, 0⟩ ∧
      0 < tripleLeg ⟨50, 0, 0⟩ .a ∧ tripleLeg ⟨50, 0, 0⟩ .a < (leg .low 3075).carrier.h ∧
      (gateLeg ((leg .low 3075).gate 0) .a).level = some .low ∧
      (leg .low 3075).now ≤ (leg .low 3075).carrier.periodAt
        + ((leg .low 3075).carrier.h - tripleLeg ⟨50, 0, 0⟩ .a) ∧
      (gateLeg ((leg .high 3100).gate 0) .a).level = some .high := by decide

/-- Leg A of channel 0 waits for its dead time with the low switch off since a tick. -/
def deadTime (lowOffAt : Nat) : State :=
  ({ operational with now := 3075, carrier := { nextPeriod := 6250 } }).setGate 0
    { enable := true, activeTriple := some ⟨50, 0, 0⟩,
      legA := { level := some .high, lowOffAt := lowOffAt } }

/-- Legs with compare values 0, H and 50 at one level, their switches off since a tick. -/
def wholePeriod (lv : Level) (offAt : Nat) : State :=
  let x : LegState := { level := some lv, highOffAt := offAt, lowOffAt := offAt }
  ({ operational with now := offAt, carrier := { nextPeriod := 6250 } }).setGate 0
    { enable := true, activeTriple := some ⟨0, 3125, 50⟩, legA := x, legB := x, legC := x }

theorem witness_DeadTimeEndTurnsTheCommandedSwitchOn :
    (deadTime 3074).moment = none ∧ ((deadTime 3074).gate 0).activeTriple = some ⟨50, 0, 0⟩ ∧
      0 < tripleLeg ⟨50, 0, 0⟩ .a ∧ tripleLeg ⟨50, 0, 0⟩ .a < (deadTime 3074).carrier.h ∧
      (gateLeg ((deadTime 3074).gate 0) .a).highOn = false ∧
      (gateLeg ((deadTime 3074).gate 0) .a).lowOn = false ∧
      (gateLeg ((deadTime 3074).gate 0) .a).level = some .high ∧
      3074 + (deadTime 3074).carrier.deadTime < 0 + (3125 + 50) ∧
      0 + (3125 + 50) ≤ 3075 + (deadTime 3075).carrier.deadTime ∧
      ((wholePeriod .low 0).gate 0).activeTriple = some ⟨0, 3125, 50⟩ ∧
      (gateLeg ((wholePeriod .low 0).gate 0) .a).level = some .low ∧
      (gateLeg ((wholePeriod .high 0).gate 0) .b).level = some .high ∧
      (gateLeg ((wholePeriod .low 3176).gate 0) .c).level = some .low ∧
      tripleLeg ⟨0, 3125, 50⟩ .a = 0 ∧ tripleLeg ⟨0, 3125, 50⟩ .b = (wholePeriod .high 0).carrier.h ∧
      6149 + (wholePeriod .low 6149).carrier.deadTime < (wholePeriod .low 6149).carrier.nextPeriod ∧
      (wholePeriod .low 6150).carrier.nextPeriod ≤ 6150 + (wholePeriod .low 6150).carrier.deadTime := by
  decide

theorem witness_SwitchesGoOnOnlyAfterTheDeadTime :
    exec (.deadTimeEnd 0 .a) (deadTime 3074) = .next (after (.deadTimeEnd 0 .a) (deadTime 3074)) ∧
      (gateLeg ((deadTime 3074).gate 0) .a).highOn = false ∧
      (gateLeg ((after (.deadTimeEnd 0 .a) (deadTime 3074)).gate 0) .a).highOn = true :=
  ⟨rfl, by decide, by decide +kernel⟩

/-- Channel 0 at the end of its rampdown, at a period start. -/
def rampEnd (refLoss partner : Bool) : State :=
  { with0 { state := .rampdown, rampComplete := true, pendRefLoss := refLoss, pendPartner := partner }
      operational with moment := some { instant with rampEnds := [0] } }

/-- The same with the first pair configured, its follower in a state, and a bank switch due as well. -/
def rampEndInPair (partner : ChState) (refLoss : Bool) : State :=
  { (rampEnd refLoss false).setChan 1 { state := partner } with
    pairs := (Vector.replicate 4 false).set 0 true,
    moment := some { instant with rampEnds := [0], switchDue := true } }

theorem witness_RampdownEndsInReadyOrItsPendingFault :
    (rampEnd false false).moment = some { instant with rampEnds := [0] } ∧
      (0 : Chan) ∈ ({ instant with rampEnds := [0] } : InstantWork).rampEnds ∧
      ((rampEnd false false).chan 0).state = .rampdown ∧
      ((rampEnd false false).chan 0).rampComplete = true ∧ paired (rampEnd false false) 0 = false ∧
      ((rampEnd false false).chan 0).pendRefLoss = false ∧
      ((rampEnd false false).chan 0).pendPartner = false ∧
      ((rampEnd true true).chan 0).pendRefLoss = true ∧
      ((rampEnd false true).chan 0).pendRefLoss = false ∧
      ((rampEnd false true).chan 0).pendPartner = true ∧
      paired (rampEndInPair .run true) 0 = true ∧ partnerOf 0 = 1 ∧
      (rampEndInPair .run true).moment = some { instant with rampEnds := [0], switchDue := true } ∧
      runOrHold ((rampEndInPair .run true).chan 1).state = true ∧
      ((rampEndInPair .fault true).chan 1).state = .fault ∧
      ((rampEndInPair .run true).chan 0).pendRefLoss = true ∧
      ((rampEndInPair .run false).chan 0).pendRefLoss = false := by decide

/-- R59: a rampdown that has not ended when the sample event of its instant begins ends at the next period
start; a channel whose rampdown has ended is due no more at that instant. -/
theorem test_rampdown_end_is_due_once :
    rampEndDue (rampEndInPair .off false) 0 = true ∧
      (after (.rampdownEnd 0) (rampEndInPair .off false)).moment =
        some { instant with switchDue := true } ∧
      (beginWalk [] { instant with rampEnds := [0] }).rampEnds = [] := by decide +kernel

/-- A validation that is due, with a schedule in channel 3. -/
def validating (x : Schedule) : State :=
  { config with commit := { state := .validating, periods := 2 },
                staged := { scheds := (Vector.replicate 8 {}).set 3 x },
                moment := some { instant with validationDue := true } }

/-- THRESHOLD_ORDER of a schedule (R97). -/
def ordered (x : Schedule) : Bool :=
  (decide (x.used < 3) || decide (x.t1 < x.t2)) && (decide (x.used < 4) || decide (x.t2 < x.t3))

/-- HYSTERESIS of a schedule (R97). -/
def narrow (x : Schedule) : Bool := decide (x.used ≤ 1) || decide (x.hy < x.t1)

theorem witness_ValidationReportsTheLowestFailingChannel :
    let bad : Schedule := { used := 3, t1 := 5, t2 := 5, hy := 4 }
    let wide : Schedule := { used := 2, t1 := 5, hy := 5 }
    (validating {}).moment = some { instant with validationDue := true } ∧
      (validating {}).commit.state = .validating ∧
      (∀ c : Chan, ordered (validating {}).staged.scheds[c] && narrow (validating {}).staged.scheds[c]) ∧
      (∀ d : Chan, d < 3 → ordered (validating bad).staged.scheds[d] &&
        narrow (validating bad).staged.scheds[d]) ∧
      ¬ ordered (validating bad).staged.scheds[(3 : Chan)] ∧
      ordered (validating wide).staged.scheds[(3 : Chan)] ∧
      ¬ narrow (validating wide).staged.scheds[(3 : Chan)] := by decide +kernel

theorem witness_SwitchMakesTheStagedBankActive :
    let s := { config with commit := { state := .switchPending },
                           moment := some { instant with switchDue := true } }
    s.moment = some { instant with switchDue := true } ∧ s.commit.state = .switchPending := by decide

/-- A station with an open stream. -/
def streaming (dir : StreamDir) (pos idle : Nat) : State :=
  { config with service :=
      { window := some ⟨.channel, 2, 2, 4, 7, false, false⟩, stream := some ⟨dir, pos⟩, idle := idle } }

theorem witness_IdleStreamsAreDiscarded :
    (streaming .read 0 1023).resetLow = false ∧ (streaming .read 0 1023).moment = none ∧
      (streaming .read 0 1023).service.stream = some ⟨.read, 0⟩ ∧
      (if (streaming .read 0 1023).station.discardShort then 64 else 1024) ≤
        (streaming .read 0 1023).service.idle + 1 ∧
      ({ streaming .read 0 1024 with moment := some { instant with timeoutDue := true } } :
        State).moment = some { instant with timeoutDue := true } := by decide

/-- A running timer with a miss count, and channel 0 in a state. -/
def missing (k : ChState) (missCount : Nat) : State :=
  { with0 { state := k } operational with
    timer := { running := true, deadline := some 174900, missCount := missCount } }

theorem witness_DeadlineExpiryCountsAndAnnouncesTheMiss :
    (missing .run 0).moment = none ∧ (missing .run 0).timer.running = true ∧
      (missing .run 0).timer.deadline = some 174900 ∧ ((missing .run 0).chan 0).state = .run ∧
      (0 + 1 : Nat) ≠ (missing .run 0).station.missLimit ∧ ((missing .hold 1).chan 0).state = .hold ∧
      (1 + 1 : Nat) ≠ (missing .hold 1).station.missLimit ∧
      (2 + 1 : Nat) = (missing .hold 2).station.missLimit ∧
      runOrHold ((missing .hold 2).chan 0).state = true ∧
      runOrHold ((missing .fault 2).chan 0).state = false := by decide

/-! ### Frames -/

theorem good_cycle (s : State) (latches : List LatchWrite) (hm : s.moment = none) :
    GoodCycle (cycleNext s latches) (cycleFrame latches) ⟨0, 9, 0, 0⟩ where
  receiving := rfl
  settled := hm
  kind := by show FrameKind.cycle ≠ .foreign; decide
  header := rfl
  noError := rfl
  length := rfl
  crc := by show bytesWord 0x12 0x34 = 0x1234; decide
  cycle := rfl
  phase := rfl
  noRecord := rfl

theorem service_trailer :
    bytesWord (serviceBytes.getD (serviceBytes.length - 2) 0)
      (serviceBytes.getD (serviceBytes.length - 1) 0) = 0x1234 := by decide

theorem good_service (s : State) (cmd : PendCmd) (clears : Bool) (hm : s.moment = none) :
    GoodService (commitNext s cmd clears) (serviceFrame cmd clears) ⟨0, 0, 0, 1⟩ cmd clears where
  receiving := rfl
  settled := hm
  kind := by show FrameKind.service ≠ .foreign; decide
  header := rfl
  noError := rfl
  length := rfl
  crc := service_trailer
  service := rfl
  taken := rfl

/-- A station with one slot map entry. -/
def mapped (e : SlotEntry) : State :=
  { operational with slotMap := (Vector.replicate 48 {}).set 47 e }

/-- `s` with a frame being received. -/
def receiving (s : State) (f : FrameCtx) : State := { s with port := { s.port with receiving := some f } }

/-- A CYCLE frame that came in CONFIG. -/
def configCycle (taken : Option TakenRecord) : FrameCtx :=
  { cycleFrame [] with phase := .config, taken := taken }

/-- A CYCLE frame with a record that was taken. -/
def carrying (r : TakenRecord) : FrameCtx :=
  { cycleFrame [] with rx := serviceBytes, header := some ⟨0, 9, 0, 1⟩, taken := some r }

theorem witness_CommitTakesTheArrival :
    GoodCycle (cycleNext operational []) (cycleFrame []) ⟨0, 9, 0, 0⟩ ∧
      (cycleNext operational []).timer.running = false ∧
      GoodCycle (cycleNext { operational with timer := { running := true } } []) (cycleFrame [])
        ⟨0, 9, 0, 0⟩ ∧
      (∃ i : Fin 48, (mapped { valid := true }).slotMap[i].valid = true ∧
        0 ≤ resolves (mapped { valid := true }) i) ∧
      (∀ i : Fin 48, (cycleNext operational []).slotMap[i].valid = true →
        resolves (cycleNext operational []) i < 0) ∧
      GoodFrame (receiving config (configCycle none)) (configCycle none) ⟨0, 9, 0, 0⟩ ∧
      (configCycle none).kind = .cycle ∧ (configCycle none).phase = .config ∧
      GoodFrame (receiving operational (carrying ⟨true, true, .notExecuted, false⟩))
        (carrying ⟨true, true, .notExecuted, false⟩) ⟨0, 9, 0, 1⟩ ∧
      (carrying ⟨true, true, .notExecuted, false⟩).kind = .cycle :=
  ⟨good_cycle _ _ (by decide), by decide, good_cycle _ _ (by decide), ⟨47, by decide, by decide⟩,
    by decide +kernel, ⟨⟨rfl, rfl, by decide, rfl, rfl, rfl⟩, by decide⟩, rfl, rfl,
    ⟨⟨rfl, rfl, by decide, rfl, rfl, rfl⟩, service_trailer⟩, rfl⟩

/-- R122, R130: a CHECK_FAIL record carried in a CYCLE frame raises FRAMES, SERVICE and CHECK_FAILS; in
CONFIG a CYCLE frame leaves the timer stopped and its cycle count in the stamp. -/
theorem test_cycle_frames_with_a_record_and_in_config :
    let t := after (.endOfReception 77 []) (receiving operational (carrying ⟨true, true, .notExecuted, false⟩))
    let u := after (.endOfReception 77 []) (receiving config (configCycle none))
    t.counters.frames = 1 ∧ t.counters.service = 1 ∧ t.counters.checkFails = 1 ∧ t.timer.running = true ∧
      u.counters.frames = 1 ∧ u.counters.service = 0 ∧ u.timer.running = false ∧ u.timer.stamp = 9 := by
  decide +kernel

theorem witness_CommitReplacesTheLatches :
    GoodCycle (cycleNext operational [.iqRef 0 32767, .control 7 63]) (cycleFrame [.iqRef 0 32767, .control 7 63])
        ⟨0, 9, 0, 0⟩ ∧
      LatchWrite.iqRef 0 32767 ∈ (cycleFrame [.iqRef 0 32767, .control 7 63]).latches ∧
      (∀ u, LatchWrite.iqRef 0 u ∈ (cycleFrame [.iqRef 0 32767, .control 7 63]).latches → u = 32767) ∧
      ∀ u, LatchWrite.idRef 0 u ∉ (cycleFrame [.iqRef 0 32767, .control 7 63]).latches :=
  ⟨good_cycle _ _ (by decide), by simp [cycleFrame], by simp [cycleFrame], by simp [cycleFrame]⟩

/-- Channel 0 in a state under a control word. -/
def controlled (k : ChState) (prev : Control) : State :=
  { with0 { state := k } operational with prevControl := (Vector.replicate 8 0).set 0 prev }

/-- Channel 0 in FAULT with a recorded cause, at an invalid-angle count. -/
def faulted (cause : Cause) (invalid : Nat) : State :=
  with0 { state := .fault, invalidCount := invalid, fault := { firstCause := some cause } } operational

/-- A capture in ARMED that a TRACE_TRIG edge of channel 7 triggers. -/
def awaiting : State :=
  { operational with trace := { capture := .armed, armedCfg := { source := 3, sourceArg := 0x80 } } }

theorem witness_ControlWordMovesAnUnpairedChannel :
    GoodCycle (cycleNext (controlled .ready 0) [.control 0 1]) (cycleFrame [.control 0 1]) ⟨0, 9, 0, 0⟩ ∧
      GoodCycle (cycleNext (controlled .hold 1) [.control 0 0]) (cycleFrame [.control 0 0]) ⟨0, 9, 0, 0⟩ ∧
      GoodCycle (cycleNext (controlled .off 0) [.control 0 3]) (cycleFrame [.control 0 3]) ⟨0, 9, 0, 0⟩ ∧
      paired (controlled .ready 0) 0 = false ∧ (controlled .ready 0).phase = .operational ∧
      (1 : Control).getLsbD 2 = false ∧ (1 : Control).getLsbD 4 = false ∧
      (1 : Control).getLsbD 0 = true ∧ (1 : Control).getLsbD 1 = false ∧
      (controlled .ready 0).bus.state = .normal ∧ ((controlled .ready 0).chan 0).invalidCount = 0 ∧
      (controlled .ready 0).inhnLow = false ∧ ((controlled .ready 0).prevCtrl 0).getLsbD 0 = false ∧
      runOrHold ((controlled .hold 1).chan 0).state = true ∧
      ((controlled .hold 1).prevCtrl 0).getLsbD 0 = true ∧ ((controlled .off 0).chan 0).state = .off ∧
      GoodCycle (cycleNext (faulted .angleLost 0) [.control 0 5]) (cycleFrame [.control 0 5]) ⟨0, 9, 0, 0⟩ ∧
      GoodCycle (cycleNext (faulted .angleLost 1) [.control 0 4]) (cycleFrame [.control 0 4]) ⟨0, 9, 0, 0⟩ ∧
      GoodCycle (cycleNext (faulted .offsetRange 0) [.control 0 4]) (cycleFrame [.control 0 4])
        ⟨0, 9, 0, 0⟩ ∧
      GoodCycle (cycleNext (controlled .ready 0) [.control 0 16]) (cycleFrame [.control 0 16]) ⟨0, 9, 0, 0⟩ ∧
      GoodCycle (cycleNext (controlled .run 0) [.control 0 16]) (cycleFrame [.control 0 16]) ⟨0, 9, 0, 0⟩ ∧
      GoodCycle (cycleNext awaiting [.control 7 40]) (cycleFrame [.control 7 40]) ⟨0, 9, 0, 0⟩ ∧
      awaiting.trace.capture = .armed ∧ awaiting.trace.armedCfg.source = 3 ∧
      awaiting.trace.armedCfg.sourceArg.getLsbD 7 = true ∧
      awaiting.trace.armedCfg.preCount ≤ traceL awaiting.trace ∧
      (awaiting.prevCtrl 7).getLsbD 5 = false ∧ (40 : Control).getLsbD 5 = true ∧
      awaiting.phase = .operational :=
  ⟨good_cycle _ _ (by decide), good_cycle _ _ (by decide), good_cycle _ _ (by decide), by decide,
    by decide, by decide, by decide, by decide, by decide, by decide, by decide, by decide, by decide,
    by decide, by decide, by decide, good_cycle _ _ (by decide), good_cycle _ _ (by decide),
    good_cycle _ _ (by decide), good_cycle _ _ (by decide), good_cycle _ _ (by decide),
    good_cycle _ _ (by decide), by decide, by decide, by decide, by decide, by decide, by decide, rfl⟩

/-- R4, R18: FAULT_ACK and ENABLE rising together take a clearable channel from FAULT to RUN at one commit,
and one whose cause holds stays in FAULT. -/
theorem test_fault_ack_edges :
    let t := after (.endOfReception 0 []) (cycleNext (faulted .angleLost 0) [.control 0 5])
    let u := after (.endOfReception 0 []) (cycleNext (faulted .angleLost 1) [.control 0 5])
    (t.chan 0).state = .run ∧ (t.gate 0).enable = true ∧ (u.chan 0).state = .fault ∧
      (u.chan 0).clearRefused = true ∧ (u.chan 0).enableRefused = true := by decide +kernel

/-- The last pair configured, leader and follower in a state, the follower with an invalid-angle count. -/
def gantry (leader follower : ChState) (invalid : Nat) : State :=
  { (operational.setChan 6 { state := leader }).setChan 7 { state := follower, invalidCount := invalid } with
    pairs := (Vector.replicate 4 false).set 3 true }

/-- The same with ENABLE in the leader's previous control word. -/
def enabledGantry (leader follower : ChState) : State :=
  { gantry leader follower 0 with prevControl := (Vector.replicate 8 0).set 6 1 }

theorem witness_FollowerEntersRunWithItsLeader :
    GoodCycle (cycleNext (gantry .ready .ready 0) [.control 6 1, .control 7 2])
        (cycleFrame [.control 6 1, .control 7 2]) ⟨0, 9, 0, 0⟩ ∧
      GoodCycle (cycleNext (gantry .ready .ready 1) [.control 6 1, .control 7 0])
        (cycleFrame [.control 6 1, .control 7 0]) ⟨0, 9, 0, 0⟩ ∧
      GoodCycle (cycleNext (gantry .hold .run 0) [.control 7 2]) (cycleFrame [.control 7 2]) ⟨0, 9, 0, 0⟩ ∧
      GoodCycle (cycleNext (gantry .ready .ready 0) [.control 7 1]) (cycleFrame [.control 7 1])
        ⟨0, 9, 0, 0⟩ ∧
      GoodCycle (cycleNext (enabledGantry .run .hold) [.control 6 0]) (cycleFrame [.control 6 0])
        ⟨0, 9, 0, 0⟩ ∧
      (gantry .ready .ready 0).pairs[(3 : Fin 4)] = true ∧
      (gantry .ready .ready 0).phase = .operational ∧ (gantry .ready .ready 0).bus.state = .normal ∧
      (gantry .ready .ready 0).inhnLow = false ∧
      ((gantry .ready .ready 0).chan (evenOf 3)).state = .ready ∧
      ((gantry .ready .ready 0).chan (evenOf 3)).invalidCount = 0 ∧
      ((gantry .ready .ready 0).chan (oddOf 3)).state = .ready ∧
      ((gantry .ready .ready 0).chan (oddOf 3)).invalidCount = 0 ∧
      ((gantry .ready .ready 1).chan (oddOf 3)).invalidCount ≠ 0 ∧
      ((gantry .ready .ready 0).prevCtrl (evenOf 3)).getLsbD 0 = false ∧
      (gantry .ready .ready 0).prevCtrl (evenOf 3) =
        ((gantry .ready .ready 0).latch (evenOf 3)).control ∧
      ((gantry .ready .ready 0).latch (evenOf 3)).control.getLsbD 1 = false ∧
      (enabledGantry .run .hold).prevCtrl (oddOf 3) =
        ((enabledGantry .run .hold).latch (oddOf 3)).control ∧
      runOrHold ((enabledGantry .run .hold).chan (evenOf 3)).state = true ∧
      ((enabledGantry .run .hold).prevCtrl (evenOf 3)).getLsbD 0 = true :=
  ⟨good_cycle _ _ (by decide), good_cycle _ _ (by decide), good_cycle _ _ (by decide),
    good_cycle _ _ (by decide), good_cycle _ _ (by decide), by decide +kernel⟩

/-- R109, R110: the leader's ENABLE edge takes both into RUN, and the follower's own QUICKSTOP takes it on
into RAMPDOWN; the leader's falling ENABLE takes its follower along. -/
theorem test_pair_edges :
    let t := after (.endOfReception 0 []) (cycleNext (gantry .ready .ready 0) [.control 6 1, .control 7 2])
    let u := after (.endOfReception 0 []) (cycleNext (enabledGantry .run .hold) [.control 6 0])
    (t.chan 6).state = .run ∧ (t.chan 7).state = .rampdown ∧ (u.chan 6).state = .rampdown ∧
      (u.chan 7).state = .rampdown ∧ (u.chan 7).pendPartner = false := by decide +kernel

theorem witness_DiscardedFramesTakeNoEffect :
    let f := { cycleFrame [] with crcIn := 0x1235 }
    let short := { cycleFrame [] with rx := [0xC1, 0, 0, 9, 0, 0, 0x12] }
    WholeFrame (receiving operational f) f ⟨0, 9, 0, 0⟩ ∧
      bytesWord (f.rx.getD (f.rx.length - 2) 0) (f.rx.getD (f.rx.length - 1) 0) ≠ f.crcIn ∧
      (receiving operational short).port.receiving = some short ∧
      (receiving operational short).moment = none ∧ short.kind ≠ .foreign ∧
      short.header = some ⟨0, 9, 0, 0⟩ ∧
      short.rx.length ≠ 8 + (if (0 : Byte) = 1 then 26 else 0) + 2 * (0 : Byte).toNat ∧
      ({ short with header := none } : FrameCtx).header = none ∧
      ({ short with badHeader := true } : FrameCtx).badHeader = true :=
  ⟨⟨rfl, rfl, by decide, rfl, rfl, rfl⟩, by decide, rfl, rfl, by decide, rfl, by decide, rfl, rfl⟩

/-- A CYCLE frame of one slot word, that word next to be received. -/
def wordFrame (phase : Phase) : FrameCtx :=
  { kind := .cycle, phase := phase, rx := [0xC1, 0, 0, 9, 1, 0], crcIn := 0,
    header := some ⟨0, 9, 1, 0⟩ }

/-- A frame of another kind, and one of one byte. -/
def foreignFrame (verdict : Verdict) : FrameCtx :=
  { kind := .foreign, phase := .config, rx := [0x33], crcIn := 0, verdict := verdict }

theorem witness_FramesOpenAreCheckedAndForeignOnesPass_at_the_end :
    let f := openFrame .config 0xC1
    (receiving config f).port.receiving = some f ∧ (receiving config f).moment = none ∧
      ReceivesPart (.header ⟨0, 9, 1, 0⟩) f [0, 0, 9, 1, 0] ∧
      (recordNext config).moment = none ∧
      ReceivesPart (.nop (record 0x00 0 [])) (beforeRecord config) (recordBytes 0x00 (record 0x00 0 [])) ∧
      ReceivesPart (.consumeWord 0x0102) (wordFrame .config) [1, 2] ∧
      EndsWithin f [0, 0, 9, 1] ∧ EndsWithin (beforeRecord config) (List.replicate 25 0) ∧
      EndsWithin (wordFrame .config) [1] ∧
      EndsWithin { wordFrame .config with rx := [0xC1, 0, 0, 9, 1, 0, 1, 2] } [0x12, 0x34] ∧
      EndsWithin (foreignFrame .arriving) [1, 2, 3] :=
  ⟨rfl, rfl, .inl ⟨_, rfl, rfl, rfl⟩, rfl, .inr (.inl ⟨0x00, _, rfl, rfl, rfl, rfl⟩),
    .inr (.inr ⟨_, 0, rfl, rfl, rfl⟩), .inr (.inl ⟨rfl, by decide⟩), .inr (.inr (.inl ⟨rfl, by decide⟩)),
    .inr (.inr (.inr ⟨0, rfl, by decide⟩)), .inl rfl, .inl rfl⟩

/-- R121, R126: a CYCLE frame whose bytes after the first all come with END_OF_RECEPTION commits by its
trailer; with another trailer it counts a CRC error. -/
theorem test_cycle_frame_at_its_end_of_reception :
    let bytes : List Byte := [0xC1, 0, 0, 9, 1, 0, 1, 2]
    let s := receiving operational (openFrame .operational 0xC1)
    let t := after (.endOfReception 700 (bytes.drop 1 ++ wordBytes (crc16 bytes))) s
    let u := after (.endOfReception 700 (bytes.drop 1 ++ wordBytes (crc16 bytes + 1))) s
    t.timer.stamp = 9 ∧ t.timer.lastArrival = 700 ∧ t.counters.crcErrors = 0 ∧ u.timer.running = false ∧
      u.counters.crcErrors = 1 := by decide +kernel

theorem witness_FramesOpenAreCheckedAndForeignOnesPass :
    config.resetLow = false ∧ config.port.waiting = false ∧ config.port.receiving = none ∧
      (receiving config (foreignFrame .arriving)).port.receiving = some (foreignFrame .arriving) ∧
      (foreignFrame .arriving).kind = .foreign ∧ (openFrame .config 0xC2).kind ≠ .foreign ∧
      (openFrame .config 0xC2).header = none ∧ (openFrame .config 0xC2).rx.length = 1 ∧
      (foreignFrame .foreign).verdict = .foreign := by decide

theorem witness_SummaryByteShowsFaultPresent :
    let f := { cycleFrame [] with verdict := .good }
    let g := { cycleFrame [] with rx := 0xC1 :: 0 :: List.replicate 26 0 }
    f.rx = 0xC1 :: 0 :: [0, 9, 0, 0, 0x12, 0x34] ∧ f.tx = [] ∧ f.verdict ≠ .arriving ∧
      2 ≤ [0, 9, 0, 0, (0x12 : Byte), 0x34].length ∧ g.tx = [] ∧
      (receiving operational g).port.leaving = [] ∧ 26 ≤ (List.replicate 26 (0 : Byte)).length := by decide

theorem witness_ConsumeWordTakesTheFourStages :
    let e : SlotEntry := { valid := true, item := 4 }
    let s := receiving (mapped e) (wordFrame .operational)
    s.port.receiving = some (wordFrame .operational) ∧ nextPart (wordFrame .operational) = .slot 0 ∧
      (wordFrame .operational).kind = .cycle ∧ (wordFrame .operational).badHeader = false ∧
      s.slotMap[(47 : Fin 48)] = e ∧ e.produce = false ∧
      (s.slotMap[(47 : Fin 48)].valid = true ∧ resolves s 47 = 0 ∧
        ∀ j, j < (47 : Fin 48) → s.slotMap[j].valid = true → resolves s j ≠ 0) ∧
      (s.chan e.channel).record.frzMask.getLsbD e.item.val = false ∧
      nextPart (wordFrame .config) = .slot 0 := by decide +kernel

/-- The same frame wholly received, its first six bytes sent. -/
def wordLeaves (phase : Phase) : FrameCtx :=
  { wordFrame phase with rx := [0xC1, 0, 0, 9, 1, 0, 7, 8, 0x12, 0x34], tx := [0xC1, 0, 0, 9, 1, 0],
                         verdict := .good }

/-- A CYCLE frame of 26 slot words of which the first 14 have been received, its first six bytes sent. -/
def passing : FrameCtx :=
  { wordFrame .operational with
    header := some ⟨0, 9, 26, 0⟩
    rx := [0xC1, 0, 0, 9, 26, 0] ++ List.replicate 28 7
    tx := [0xC1, 0, 0, 9, 26, 0] }

theorem witness_ProduceWordWritesTheMeasuredValue :
    let e : SlotEntry := { valid := true, produce := true, item := 6 }
    let f := wordLeaves .operational
    let s := { mapped e with port := { (mapped e).port with leaving := [f] } }
    s.port.leaving = [f] ∧ f.verdict ≠ .arriving ∧ f.kind = .cycle ∧ f.header = some ⟨0, 9, 1, 0⟩ ∧
      f.badHeader = false ∧ 0 < (1 : Byte).toNat ∧
      f.tx.length = 6 + (if (0 : Byte) = 1 then 26 else 0) + 2 * 0 ∧
      f.rx.length = 8 + (if (0 : Byte) = 1 then 26 else 0) + 2 * (1 : Byte).toNat ∧
      f.recordOut = none ∧ f.phase = .operational ∧ (wordLeaves .config).phase = .config ∧
      e.produce = true ∧
      (s.slotMap[(47 : Fin 48)].valid = true ∧ resolves s 47 = 0 ∧
        ∀ j, j < (47 : Fin 48) → s.slotMap[j].valid = true → resolves s j ≠ 0) ∧
      (receiving (mapped e) passing).port.leaving = [] ∧
      (receiving (mapped e) passing).port.receiving = some passing ∧ passing.verdict = .arriving ∧
      passing.kind = .cycle ∧ passing.header = some ⟨0, 9, 26, 0⟩ ∧ passing.badHeader = false ∧
      0 < (26 : Byte).toNat ∧ passing.tx.length = 6 + 0 + 2 * 0 ∧
      passing.tx.length + 28 ≤ passing.rx.length := by decide +kernel

/-- R116, R119: the word of a produce entry leaves 26 bytes behind its frame's reception with the value
written, and a word of no entry as received. -/
theorem test_word_leaves_while_its_frame_arrives :
    let e : SlotEntry := { valid := true, produce := true, item := 6 }
    let tx (s : State) := ((after .produceWord s).port.receiving.map (·.tx.drop 6)).getD []
    tx (receiving (mapped e) passing) = [0, 255] ∧ tx (receiving operational passing) = [7, 7] := by
  decide +kernel

/-- A CYCLE frame whose bytes before the trailer have been sent. -/
def sentFrame (verdict : Verdict) : FrameCtx :=
  { cycleFrame [] with tx := [0xC1, 0, 0, 9, 0, 0], crcOut := crc16 [0xC1, 0, 0, 9, 0, 0],
                       verdict := verdict }

/-- A SERVICE frame with a record of this station, its first two bytes sent. -/
def answered (out : Option (List Byte)) : FrameCtx :=
  { serviceFrame .nop false with tx := [0, 0], crcOut := crc16 [0, 0], recordOut := out, verdict := .good }

theorem witness_TrailerCarriesTheOutgoingCrc :
    (sentFrame .good).verdict = .good ∧ (sentFrame .void).verdict = .void ∧
      (sentFrame .good).tx.length + 2 = (sentFrame .good).rx.length ∧
      (sentFrame .good).crcOut = crc16 (sentFrame .good).tx ∧
      (∀ out, out ∈ [none, some (List.replicate 26 (9 : Byte))] → (answered out).verdict = .good ∧
        2 ≤ (answered out).rx.length ∧ (answered out).tx ≠ [] ∧
        (answered out).crcOut = crc16 (answered out).tx ∧ (answered out).kind = .service ∧
        (answered out).recordOut = out) ∧
      (sentFrame .void).header = some ⟨0, 9, 0, 0⟩ ∧ (sentFrame .void).tx ≠ [] ∧
      (wordLeaves .operational).verdict = .good ∧ (wordLeaves .operational).kind = .cycle ∧
      (wordLeaves .operational).header = some ⟨0, 9, 1, 0⟩ ∧
      (wordLeaves .operational).badHeader = false ∧
      (wordLeaves .operational).rx.length = 8 + (if (0 : Byte) = 1 then 26 else 0) + 2 * (1 : Byte).toNat ∧
      (∀ r, (wordLeaves .operational).recordOut = some r → r.length = 26 ∧ (0 : Byte) = 1) :=
  ⟨rfl, rfl, rfl, by decide +kernel, by decide +kernel, rfl, by decide, rfl, rfl, rfl, rfl, rfl,
    fun _ h => by cases h⟩

/-! ### Records -/

theorem for_this_station (s : State) (code : Byte) (argument : BitVec 32) (ws : List Word)
    (ha : s.address = 5) :
    ForThisStation (recordNext s) (beforeRecord s) (record code argument ws) where
  receiving := rfl
  due := rfl
  station := ha.symm
  straps := by show 1 ≤ s.address.toNat ∧ s.address.toNat ≤ 254; rw [ha]; decide
  replier := rfl

theorem taken_here (s : State) (code : Byte) (argument : BitVec 32) (ws : List Word) (ha : s.address = 5)
    (hc : s.service.checkMode = false) (hw : (record code argument ws).wordCount.toNat ≤ 8) :
    TakenHere (recordNext s) (beforeRecord s) code (record code argument ws) where
  toForThisStation := for_this_station s code argument ws ha
  check := .inl hc
  words := hw

/-- A record with a word count of 9. -/
def overlong (code : Byte) : RecordBody := { record code 0 [] with wordCount := 9 }

/-- A whole SERVICE frame whose record was corrupt, addressed or a broadcast. -/
def corrupt (answered : Bool) : FrameCtx :=
  { serviceFrame .notExecuted false with taken := some ⟨answered, true, .notExecuted, false⟩ }

/-- A whole SERVICE frame with a good trailer, whatever record it brought. -/
theorem good_frame (s : State) (taken : Option TakenRecord) (hm : s.moment = none) :
    GoodFrame (receiving s { serviceFrame .nop false with taken := taken })
      { serviceFrame .nop false with taken := taken } ⟨0, 0, 0, 1⟩ :=
  ⟨⟨rfl, hm, by show FrameKind.service ≠ .foreign; decide, rfl, rfl, rfl⟩, service_trailer⟩

/-- A station in check mode with a tag. -/
def checking : State := { config with service := { checkMode := true, tagFirst := some 0 } }

theorem witness_CorruptAndOverlongRecordsAreRefused :
    rowRecord (.nop { record 0 0 [] with check := 0 }) = some (0, { record 0 0 [] with check := 0 }) ∧
      (Instr.nop (overlong 0)).wf = true ∧
      ForThisStation (recordNext checking) (beforeRecord checking) { record 0 0 [] with check := 0 } ∧
      (recordNext checking).service.checkMode = true ∧
      byteSum (recordBytes 0 { record 0 0 [] with check := 0 }) ≠ 0 ∧
      ForThisStation (recordNext config) (beforeRecord config) (overlong 0x22) ∧
      (recordNext config).service.checkMode = false ∧ 8 < (overlong 0x22).wordCount.toNat ∧
      GoodFrame (receiving config (corrupt true)) (corrupt true) ⟨0, 0, 0, 1⟩ ∧
      (corrupt true).kind = .service ∧ (corrupt true).taken = some ⟨true, true, .notExecuted, false⟩ :=
  ⟨rfl, by decide, ⟨rfl, rfl, rfl, by decide, rfl⟩, rfl, by decide, ⟨rfl, rfl, rfl, by decide, rfl⟩, rfl,
    by decide, good_frame _ _ rfl, rfl, rfl⟩

theorem witness_RecordsOfOtherStationsPass :
    let b := { record 0 0 [] with station := 6 }
    let c := { record 0 0 [] with replier := 5 }
    rowRecord (.nop b) = some (0, b) ∧ (Instr.nop b).wf = true ∧
      (recordNext config).port.receiving = some (beforeRecord config) ∧
      nextPart (beforeRecord config) = .record ∧ b.station ≠ 255 ∧ b.station ≠ config.address ∧
      c.station ≠ 255 ∧ c.replier ≠ 0 ∧ ({ config with address := 0 } : State).address = 0 := by decide

/-- A station whose capture stands in a state. -/
def capturingAt (k : CaptureState) : State := { config with trace := { capture := k } }

/-- A leader without a follower in the last pair position. -/
def lonely : State := config.setChan 6 { record := { pairRole := .leader } }

/-- A broadcast record. -/
def broadcast (code : Byte) (argument : BitVec 32) : RecordBody :=
  { record code argument [] with station := 255 }

theorem broadcast_sound (s : State) (code : Byte) (argument : BitVec 32)
    (hc : s.service.checkMode = false) :
    BroadcastSound (recordNext s) (beforeRecord s) code (broadcast code argument) where
  receiving := rfl
  due := rfl
  station := rfl
  clean := by show (0 : Byte) &&& 0x08 = 0; decide
  check := .inl hc
  words := by show (0 : Byte).toNat ≤ 8; decide

theorem slot_map_sound : SlotMapSound (recordNext config) := by
  intro i r h
  have hv : ∀ i : Fin 48, (recordNext config).slotMap[i].valid = false := by decide +kernel
  rw [EntryFails, hv i] at h
  exact absurd h.1 (by decide)

theorem roles_sound : ∀ p, RolesSound (recordNext config) p := by
  unfold RolesSound; decide

theorem witness_BroadcastsAreJudgedAndNotAnswered :
    BroadcastSound (recordNext config) (beforeRecord config) 0x00 (broadcast 0x00 0) ∧
      BroadcastSound (recordNext config) (beforeRecord config) 0x02 (broadcast 0x02 1) ∧
      BroadcastSound (recordNext config) (beforeRecord config) 0x02 (broadcast 0x02 2) ∧
      (broadcast 0x02 0).argument = 0 ∧ (broadcast 0x02 1).argument = 1 ∧
      1 < (broadcast 0x02 2).argument.toNat ∧
      BroadcastSound (recordNext config) (beforeRecord config) 0x03 (broadcast 0x03 0) ∧
      (beforeRecord config).phase = .config ∧ SlotMapSound (recordNext config) ∧
      (∀ p, RolesSound (recordNext config) p) ∧
      BroadcastSound (recordNext operational) (beforeRecord operational) 0x04 (broadcast 0x04 0) ∧
      (beforeRecord operational).phase = .operational ∧
      (∀ c, atRest ((recordNext operational).chan c).state = true) ∧
      BroadcastSound (recordNext config) (beforeRecord config) 0x30 (broadcast 0x30 0) ∧
      (recordNext config).trace.capture = .idle ∧
      BroadcastSound (recordNext config) (beforeRecord config) 0x32 (broadcast 0x32 0) ∧
      BroadcastSound (recordNext config) (beforeRecord config) 0x01 (broadcast 0x01 0) ∧
      rowRecord (.getStatus (broadcast 0x01 0)) = some (0x01, broadcast 0x01 0) ∧
      BroadcastHere (recordNext checking) (beforeRecord checking) { broadcast 0x00 0 with check := 2 } ∧
      byteSum (recordBytes 0x00 { broadcast 0x00 0 with check := 2 }) ≠ 0 ∧
      ({ broadcast 0x00 0 with flags := 0x08 } : RecordBody).flags &&& 0x08 ≠ 0 ∧
      BroadcastSound (recordNext lonely) (beforeRecord config) 0x03 (broadcast 0x03 0) ∧
      ¬ RolesSound (recordNext lonely) 3 ∧
      BroadcastSound (recordNext operational) (beforeRecord operational) 0x03 (broadcast 0x03 0) ∧
      BroadcastSound (recordNext config) (beforeRecord config) 0x04 (broadcast 0x04 0) ∧
      BroadcastSound (recordNext (running operational)) (beforeRecord operational) 0x04 (broadcast 0x04 0) ∧
      ((running operational).chan 0).state = .run ∧
      BroadcastSound (recordNext (capturingAt .armed)) (beforeRecord config) 0x30 (broadcast 0x30 0) ∧
      (recordNext (capturingAt .armed)).trace.capture = .armed ∧
      BroadcastHere (recordNext config) (beforeRecord config)
        { broadcast 0x00 0 with wordCount := 9 } ∧
      8 < ({ broadcast 0x00 0 with wordCount := 9 } : RecordBody).wordCount.toNat ∧
      (∀ cmd checkFail clears, GoodFrame
        (receiving (capturingAt .armed) { serviceFrame .nop false with taken := some ⟨false, checkFail, cmd, clears⟩ })
        { serviceFrame .nop false with taken := some ⟨false, checkFail, cmd, clears⟩ } ⟨0, 0, 0, 1⟩) ∧
      (capturingAt .armed).trace.armedCfg.preCount ≤ traceL (capturingAt .armed).trace :=
  ⟨broadcast_sound _ _ _ rfl, broadcast_sound _ _ _ rfl, broadcast_sound _ _ _ rfl, rfl, rfl, by decide,
    broadcast_sound _ _ _ rfl, rfl, slot_map_sound, roles_sound, broadcast_sound _ _ _ rfl, rfl, by decide,
    broadcast_sound _ _ _ rfl, rfl, broadcast_sound _ _ _ rfl, broadcast_sound _ _ _ rfl, rfl,
    ⟨rfl, rfl, rfl, rfl⟩, by decide, by decide, broadcast_sound lonely _ _ rfl,
    by unfold RolesSound; decide, broadcast_sound _ _ _ rfl, broadcast_sound _ _ _ rfl,
    broadcast_sound (running operational) _ _ rfl, by decide, broadcast_sound (capturingAt .armed) _ _ rfl,
    rfl, ⟨rfl, rfl, rfl, rfl⟩, by decide, fun _ _ _ => good_frame _ _ rfl, by decide⟩

theorem witness_PlainRecordsAreTakenAndFormTheirResults :
    TakenHere (recordNext config) (beforeRecord config) 0x00 (record 0x00 0 []) ∧
      TakenHere (recordNext config) (beforeRecord config) 0x01 (record 0x01 0 []) ∧
      TakenHere (recordNext config) (beforeRecord config) 0x02 (record 0x02 0 []) ∧
      (record 0x02 0 []).argument = 0 ∧
      TakenHere (recordNext config) (beforeRecord config) 0x02 (record 0x02 1 []) ∧
      (record 0x02 1 []).argument = 1 ∧
      TakenHere (recordNext config) (beforeRecord config) 0x02 (record 0x02 2 []) ∧
      1 < (record 0x02 2 []).argument.toNat ∧
      TakenHere (recordNext config) (beforeRecord config) 0x05 (record 0x05 0 []) ∧
      TakenHere (recordNext config) (beforeRecord config) 0x15 (record 0x15 0 []) ∧
      TakenHere (recordNext config) (beforeRecord config) 0x31 (record 0x31 0 []) ∧
      TakenHere (recordNext config) (beforeRecord config) 0x32 (record 0x32 0 []) ∧
      GoodService (commitNext config .nop true) (serviceFrame .nop true) ⟨0, 0, 0, 1⟩ .nop true ∧
      GoodService (commitNext config .getStatus false) (serviceFrame .getStatus false) ⟨0, 0, 0, 1⟩
        .getStatus false :=
  ⟨taken_here _ _ _ _ rfl rfl (by decide), taken_here _ _ _ _ rfl rfl (by decide),
    taken_here _ _ _ _ rfl rfl (by decide), rfl, taken_here _ _ _ _ rfl rfl (by decide), rfl,
    taken_here _ _ _ _ rfl rfl (by decide), by decide, taken_here _ _ _ _ rfl rfl (by decide),
    taken_here _ _ _ _ rfl rfl (by decide), taken_here _ _ _ _ rfl rfl (by decide),
    taken_here _ _ _ _ rfl rfl (by decide), good_service _ _ _ rfl, good_service _ _ _ rfl⟩

theorem witness_UnknownAndForbiddenCommandsAreRefused :
    TakenHere (recordNext config) (beforeRecord config) 0x33 (record 0x33 0 []) ∧
      (0x33 : Byte) ∉ [0x00, 0x01, 0x02, 0x03, 0x04, 0x05, 0x10, 0x11, 0x12, 0x13, 0x14, 0x15, 0x18, 0x19,
        0x20, 0x21, 0x22, 0x30, 0x31, (0x32 : Byte)] ∧
      TakenHere (recordNext operational) (beforeRecord operational) 0x03 (record 0x03 0 []) ∧
      (beforeRecord operational).phase = .operational ∧
      TakenHere (recordNext config) (beforeRecord config) 0x04 (record 0x04 0 []) ∧
      (beforeRecord config).phase = .config ∧
      TakenHere (recordNext (running operational)) (beforeRecord operational) 0x04 (record 0x04 0 []) ∧
      ((running operational).chan 0).state ≠ .off ∧ ((running operational).chan 0).state ≠ .ready ∧
      ((running operational).chan 0).state ≠ .fault ∧
      TakenHere (recordNext (capturingAt .post)) (beforeRecord config) 0x30 (record 0x30 0 []) ∧
      (capturingAt .post).trace.capture = .post :=
  ⟨taken_here _ _ _ _ rfl rfl (by decide), by decide, taken_here _ _ _ _ rfl rfl (by decide), rfl,
    taken_here _ _ _ _ rfl rfl (by decide), rfl, taken_here (running operational) _ _ _ rfl rfl (by decide),
    by decide, by decide, by decide, taken_here (capturingAt .post) _ _ _ rfl rfl (by decide), rfl⟩

/-- A slot map whose last entry names no item. -/
def noItem : State := { config with slotMap := (Vector.replicate 48 {}).set 47 { valid := true, item := 5 } }

theorem witness_GoOperationalRunsItsTwoChecks :
    TakenHere (recordNext config) (beforeRecord config) 0x03 (record 0x03 0 []) ∧
      (beforeRecord config).phase = .config ∧ SlotMapSound (recordNext config) ∧
      (∀ p, RolesSound (recordNext config) p) ∧
      TakenHere (recordNext noItem) (beforeRecord config) 0x03 (record 0x03 0 []) ∧
      EntryFails (recordNext noItem) 47 1 ∧
      (∀ j, j < 47 → ∀ q, ¬ EntryFails (recordNext noItem) j q) ∧
      TakenHere (recordNext lonely) (beforeRecord config) 0x03 (record 0x03 0 []) ∧
      SlotMapSound (recordNext lonely) ∧ ¬ RolesSound (recordNext lonely) 3 ∧
      (∀ q, q < 3 → RolesSound (recordNext lonely) q) ∧
      GoodService (commitNext config .goOperational true) (serviceFrame .goOperational true) ⟨0, 0, 0, 1⟩
        .goOperational true := by
  have hn : ∀ j : Fin 48, j < 47 → (recordNext noItem).slotMap[j].valid = false := by decide +kernel
  have hl : ∀ j : Fin 48, (recordNext lonely).slotMap[j].valid = false := by decide +kernel
  refine ⟨taken_here _ _ _ _ rfl rfl (by decide), rfl, slot_map_sound, roles_sound,
    taken_here noItem _ _ _ rfl rfl (by decide),
    ⟨by decide, .inl ⟨rfl, by decide, by decide⟩⟩, ?_, taken_here lonely _ _ _ rfl rfl (by decide), ?_,
    by unfold RolesSound; decide, by unfold RolesSound; decide, good_service _ _ _ rfl⟩
  · intro j hj q h
    have := h.1; rw [hn j hj] at this; exact absurd this (by decide)
  · intro j q h
    have := h.1; rw [hl j] at this; exact absurd this (by decide)

theorem witness_LeaveOperationalReturnsToConfig :
    let f := { cycleFrame [] with taken := some (answeredWith .leaveOperational true) }
    TakenHere (recordNext operational) (beforeRecord operational) 0x04 (record 0x04 0 []) ∧
      (beforeRecord operational).phase = .operational ∧
      (∀ c, ((recordNext operational).chan c).state = .off ∨
        ((recordNext operational).chan c).state = .ready ∨
        ((recordNext operational).chan c).state = .fault) ∧
      GoodService (commitNext operational .leaveOperational true) (serviceFrame .leaveOperational true)
        ⟨0, 0, 0, 1⟩ .leaveOperational true ∧
      GoodFrame (receiving operational f) f ⟨0, 9, 0, 0⟩ ∧ f.kind = .cycle ∧ f.phase = .operational ∧
      f.taken = some (answeredWith .leaveOperational true) :=
  ⟨taken_here _ _ _ _ rfl rfl (by decide), rfl, by decide, good_service _ _ _ rfl,
    { receiving := rfl, settled := rfl, kind := by decide, header := rfl, noError := rfl, length := rfl,
      crc := by rfl }, rfl, rfl, rfl⟩

theorem witness_StationResetKeepsAddressAndCounters :
    GoodService (commitNext (running operational) .resetStation false) (serviceFrame .resetStation false)
      ⟨0, 0, 0, 1⟩ .resetStation false := good_service _ _ _ rfl

theorem witness_SetWindowTakesSoundBounds :
    let b := record 0x10 10 [0, 4095, 0, 3, 1, 1]
    TakenHere (recordNext config) (beforeRecord config) 0x10 b ∧ tableOf b.argument.toNat = some .traceData ∧
      6 ≤ b.wordCount.toNat ∧ b.data[1].toNat < tableEntries .traceData ∧
      b.data[3].toNat < tableFields .traceData ∧ b.data[0].toNat ≤ b.data[1].toNat ∧
      b.data[2].toNat ≤ b.data[3].toNat ∧ b.data[4].toNat ≤ 1 ∧ b.data[5].toNat ≤ 1 ∧
      TakenHere (recordNext config) (beforeRecord config) 0x10 (record 0x10 11 []) ∧
      10 < (record 0x10 11 []).argument.toNat ∧
      TakenHere (recordNext config) (beforeRecord config) 0x10 (record 0x10 1 [2, 8, 4, 7, 0, 0]) ∧
      tableEntries .channel ≤ (record 0x10 1 [2, 8, 4, 7, 0, 0]).data[1].toNat ∧
      (2 : Nat) ≤ 2 ∧ (4 : Nat) ≤ 7 :=
  ⟨taken_here _ _ _ _ rfl rfl (by decide), rfl, by decide, by decide, by decide, by decide, by decide,
    by decide, by decide, taken_here _ _ _ _ rfl rfl (by decide), by decide,
    taken_here _ _ _ _ rfl rfl (by decide), by decide, by decide, by decide⟩

/-- A station with a window, and a bank commit in a state. -/
def windowed (w : Window) (k : CommitState) : State :=
  { config with service := { window := some w, stream := some ⟨.write, windowLength w⟩ },
                commit := { state := k } }

/-- The window of the spec's worked sequence: PEAK, CONT, I2T_LIM and RAMP of CH2. -/
def limits (wrap : Bool) : Window := ⟨.channel, 2, 2, 4, 7, false, wrap⟩

/-- Channel 2 in RUN, so that its I2T_LIM is not writable (R2). -/
def limitsInRun : State := (windowed (limits false) .idle).setChan 2 { state := .run }

theorem witness_WriteRecordsAreJudgedWordByWord :
    let w := limits false
    TakenHere (recordNext config) (beforeRecord config) 0x11 (record 0x11 0 [1]) ∧
      (recordNext config).service.window = none ∧
      TakenHere (recordNext (windowed ⟨.gainStaged, 0, 0, 0, 0, false, false⟩ .switchPending))
        (beforeRecord config) 0x11 (record 0x11 0 [1]) ∧
      TakenHere (recordNext limitsInRun) (beforeRecord config) 0x11 (record 0x11 0 [18000, 9000, 800, 500]) ∧
      (recordNext limitsInRun).service.window = some w ∧
      (∀ k, k < 2 → streamPos w 0 k < windowLength w ∧
        fieldWritable (recordNext limitsInRun) w.table (windowCell w (streamPos w 0 k)).1
          (windowCell w (streamPos w 0 k)).2 = true) ∧
      streamPos w 0 2 < windowLength w ∧
      fieldWritable (recordNext limitsInRun) w.table (windowCell w (streamPos w 0 2)).1
        (windowCell w (streamPos w 0 2)).2 = false ∧
      TakenHere (recordNext config) (beforeRecord config) 0x12 (record 0x12 0 [1]) ∧
      (∀ p, (recordNext config).service.stream ≠ some ⟨.write, p⟩) ∧
      TakenHere (recordNext limitsInRun) (beforeRecord config) 0x12 (record 0x12 0 [1]) ∧
      (recordNext limitsInRun).service.stream = some ⟨.write, 4⟩ ∧ 4 ≤ windowLength w ∧
      ¬ streamPos w 4 0 < windowLength w ∧ streamPos (limits true) 4 0 < windowLength (limits true) :=
  ⟨taken_here _ _ _ _ rfl rfl (by decide), rfl,
    taken_here (windowed _ _) _ _ _ rfl rfl (by decide),
    taken_here limitsInRun _ _ _ rfl rfl (by decide), rfl, by decide +kernel, by decide, by decide +kernel,
    taken_here _ _ _ _ rfl rfl (by decide), (fun p h => by cases h),
    taken_here limitsInRun _ _ _ rfl rfl (by decide), rfl, by decide, by decide, by decide⟩

theorem witness_WriteCommitsMoveStreamAndTotal :
    let cmd := PendCmd.write true [⟨2, 4, 18000⟩, ⟨2, 5, 9000⟩] 2 true
    GoodService (commitNext limitsInRun cmd false) (serviceFrame cmd false) ⟨0, 0, 0, 1⟩ cmd false ∧
      (commitNext limitsInRun cmd false).service.window = some (limits false) ∧
      [(⟨2, 4, 18000⟩ : WordWrite), ⟨2, 5, 9000⟩].length ≤ 8 ∧
      GoodService (commitNext config (.write false [] 0 false) true) (serviceFrame (.write false [] 0 false) true)
        ⟨0, 0, 0, 1⟩ (.write false [] 0 false) true ∧
      (commitNext config (.write false [] 0 false) true).service.stream = none ∧
      GoodService (commitNext config (.writeBusy true) false) (serviceFrame (.writeBusy true) false)
        ⟨0, 0, 0, 1⟩ (.writeBusy true) false ∧
      GoodService (commitNext limitsInRun (.writeBusy false) false) (serviceFrame (.writeBusy false) false)
        ⟨0, 0, 0, 1⟩ (.writeBusy false) false ∧
      (commitNext limitsInRun (.writeBusy false) false).service.stream = some ⟨.write, 4⟩ :=
  ⟨good_service _ _ _ rfl, rfl, by decide, good_service _ _ _ rfl, rfl, good_service _ _ _ rfl,
    good_service _ _ _ rfl, rfl⟩

/-- Channel 2 with a level just above 10 units of its I2T_LIM of 20. -/
def hot : State :=
  (windowed (limits false) .idle).setChan 2 { i2t := 655361, foldback := true, record := { i2tLim := 20 } }

/-- Three accepted words of one record, the last for the field of the first. -/
def overwriting : List WordWrite := [⟨2, 4, 5⟩, ⟨2, 7, 0⟩, ⟨2, 4, 9000⟩]

/-- R167: a WRITE_CONTINUE whose words WRAP takes back to their first field, and that is answered VALUE:
the later word stands, and each is clamped into its range. -/
theorem test_later_word_for_the_same_field :
    let more := PendCmd.write false overwriting 3 true
    let t := after (.endOfReception 0 []) (commitNext limitsInRun more true)
    (t.chan 2).record.peak = 9000 ∧ (t.chan 2).record.ramp = 1 ∧ t.service.result = [3] ∧
      t.service.stream = none := by decide +kernel

theorem witness_WrittenFieldHoldsTheClampedWord :
    let cmd := PendCmd.write true [⟨2, 4, 0xFFFF⟩] 1 false
    let more := PendCmd.write false overwriting 3 true
    GoodService (commitNext limitsInRun more true) (serviceFrame more true) ⟨0, 0, 0, 1⟩ more true ∧
      (commitNext limitsInRun more true).service.stream.isSome = true ∧
      (∀ x ∈ overwriting, x.entry < tableEntries (limits false).table ∧
        (clampedWrite (commitNext limitsInRun more true) (limits false).table x.field x.word).isSome = true) ∧
      overwriting = [⟨2, 4, 5⟩] ++ ⟨2, 7, 0⟩ :: [⟨2, 4, 9000⟩] ∧
      overwriting = [⟨2, 4, 5⟩, ⟨2, 7, 0⟩] ++ ⟨2, 4, 9000⟩ :: [] ∧
      (∀ z ∈ [(⟨2, 4, 9000⟩ : WordWrite)], (z.entry, z.field) ≠ (2, 7)) ∧
      (∀ x ∈ overwriting, (x.entry, x.field) ≠ (2, 5)) ∧
      GoodService (commitNext limitsInRun cmd false) (serviceFrame cmd false) ⟨0, 0, 0, 1⟩ cmd false ∧
      (commitNext limitsInRun cmd false).service.window = some (limits false) ∧
      2 < tableEntries (limits false).table ∧
      clampedWrite (commitNext limitsInRun cmd false) (limits false).table 4 0xFFFF = some 32767 ∧
      (2 : Nat) < tableEntries .faults ∧ ((.faults : Table), 2, 4) ≠ ((limits false).table, 2, 4) ∧
      ((.faults : Table) ≠ .counters) ∧
      (∀ x : Word, GoodService (commitNext hot (.write true [⟨(2 : Chan).val, 6, x⟩] 1 false) false)
        (serviceFrame (.write true [⟨(2 : Chan).val, 6, x⟩] 1 false) false) ⟨0, 0, 0, 1⟩
        (.write true [⟨(2 : Chan).val, 6, x⟩] 1 false) false) ∧
      hot.service.window = some (limits false) ∧ (limits false).table = .channel ∧
      min (0xFFFF : Word).toNat 32767 * 65536 ≥ (hot.chan 2).i2t ∧ 9 * 65536 < (hot.chan 2).i2t :=
  ⟨good_service _ _ _ rfl, rfl, by decide +kernel, rfl, rfl, by decide, by decide, good_service _ _ _ rfl,
    rfl, by decide, by rfl, by decide, by decide, by decide, fun _ => good_service _ _ _ rfl, rfl, rfl, by decide, by decide⟩

/-- R69: a written I2T_LIM below the level takes the level down with it and sets foldback on, or off at 0. -/
theorem test_written_limit_cuts_the_level :
    let put (x : Word) := writeChannel 6 x (hot.chan 2)
    ((put 9).i2t, (put 9).foldback) = (9 * 65536, true) ∧ ((put 0).i2t, (put 0).foldback) = (0, false) ∧
      (put 11).i2t = 655361 := by decide

theorem witness_ReadRecordsAreJudged :
    let d := { windowed ⟨.traceData, 0, 4095, 0, 3, false, false⟩ .idle with trace := { capture := .pre } }
    TakenHere (recordNext config) (beforeRecord config) 0x13 (record 0x13 1 []) ∧
      (recordNext config).service.window = none ∧
      TakenHere (recordNext limitsInRun) (beforeRecord config) 0x13 (record 0x13 8 []) ∧
      (recordNext limitsInRun).service.window = some (limits false) ∧
      (limits false).table ≠ .traceData ∧ 8 < (record 0x13 9 []).argument.toNat ∧
      (record 0x13 0 []).argument.toNat < 1 ∧
      TakenHere (recordNext d) (beforeRecord config) 0x13 (record 0x13 1 []) ∧ d.trace.capture = .pre ∧
      TakenHere (recordNext (streaming .read 4 0)) (beforeRecord config) 0x14 (record 0x14 8 []) ∧
      (recordNext (streaming .read 4 0)).service.stream = some ⟨.read, 4⟩ ∧
      TakenHere (recordNext config) (beforeRecord config) 0x14 (record 0x14 8 []) ∧
      ∀ p, (recordNext config).service.stream ≠ some ⟨.read, p⟩ :=
  ⟨taken_here _ _ _ _ rfl rfl (by decide), rfl, taken_here limitsInRun _ _ _ rfl rfl (by decide), rfl,
    by decide, by decide, by decide, taken_here _ _ _ _ rfl rfl (by decide), rfl,
    taken_here (streaming _ _ _) _ _ _ rfl rfl (by decide), rfl, taken_here _ _ _ _ rfl rfl (by decide),
    fun p h => by cases h⟩

/-- A capture that is over: full in one segment, or with its last segment full and oldest record second. -/
def captured (segmented : Bool) : State :=
  { config with trace := { capture := .done, armedCfg := { segmented := segmented },
                           segs := if segmented then (Vector.replicate 4 {}).set 3 ⟨1024, 1⟩
                             else (Vector.replicate 4 {}).set 0 ⟨4096, 0⟩ } }

theorem witness_ReadCommitsFormTheWordsRead :
    let s := streaming .read 4 0
    GoodService (commitNext s (.read true 8) false) (serviceFrame (.read true 8) false) ⟨0, 0, 0, 1⟩
        (.read true 8) false ∧
      (commitNext s (.read true 8) false).service.window = some (limits false) ∧
      GoodService (commitNext s (.read false 1) true) (serviceFrame (.read false 1) true) ⟨0, 0, 0, 1⟩
        (.read false 1) true ∧
      (commitNext s (.read false 1) true).service.stream = some ⟨.read, 4⟩ ∧
      4 ≤ windowLength (limits false) ∧
      GoodService (commitNext config (.read false 1) true) (serviceFrame (.read false 1) true) ⟨0, 0, 0, 1⟩
        (.read false 1) true ∧
      (commitNext config (.read false 1) true).service.stream = none ∧
      (captured true).trace.armedCfg.segmented = true ∧ 1023 < 1024 ∧ 3 * 1024 + 1023 = 4095 ∧
      1023 < (captured true).trace.segs[(3 : Fin 4)].valid ∧
      (captured true).trace.segs[(1 : Fin 4)].valid ≤ 1023 ∧
      (captured false).trace.armedCfg.segmented = false ∧
      4095 < (captured false).trace.segs[(0 : Fin 4)].valid :=
  ⟨good_service _ _ _ rfl, rfl, good_service _ _ _ rfl, rfl, by decide, good_service _ _ _ rfl, rfl,
    by decide +kernel⟩

/-- R178: entry 4,095 is the newest record of the fourth segment; the entries of an empty segment read 0. -/
theorem test_trace_data_reads_oldest_first :
    let s := { captured true with trace := { (captured true).trace with mem := [⟨3072, ⟨1, 2, 3, 4⟩⟩] } }
    readField s .traceData 4095 2 = 3 ∧ readField s .traceData 3072 2 = 0 ∧
      readField s .traceData 1024 0 = 0 := by decide +kernel

theorem witness_BankCommandsWaitForAnIdleCommit :
    let busy := { config with commit := { state := .validating } }
    TakenHere (recordNext busy) (beforeRecord config) 0x18 (record 0x18 0 []) ∧
      busy.commit.state = .validating ∧
      TakenHere (recordNext config) (beforeRecord config) 0x18 (record 0x18 0 []) ∧
      (recordNext config).commit.state = .idle ∧
      TakenHere (recordNext busy) (beforeRecord config) 0x19 (record 0x19 0 []) ∧
      TakenHere (recordNext config) (beforeRecord config) 0x19 (record 0x19 0 []) ∧
      GoodService (commitNext config .commitBank false) (serviceFrame .commitBank false) ⟨0, 0, 0, 1⟩
        .commitBank false :=
  ⟨taken_here _ _ _ _ rfl rfl (by decide), rfl, taken_here _ _ _ _ rfl rfl (by decide), rfl,
    taken_here _ _ _ _ rfl rfl (by decide), taken_here _ _ _ _ rfl rfl (by decide), good_service _ _ _ rfl⟩

theorem witness_TagCommandsSetTheirTag :
    TakenHere (recordNext config) (beforeRecord config) 0x20 (record 0x20 7 []) ∧
      (record 0x20 7 []).argument.toNat = (7 : Chan).val ∧
      TakenHere (recordNext config) (beforeRecord config) 0x20 (record 0x20 8 []) ∧
      7 < (record 0x20 8 []).argument.toNat ∧
      TakenHere (recordNext config) (beforeRecord config) 0x21 (record 0x21 0 []) ∧
      (record 0x21 0 []).argument.toNat = (0 : Chan).val ∧
      TakenHere (recordNext config) (beforeRecord config) 0x21 (record 0x21 8 []) ∧
      GoodService (commitNext config (.tagFirst 7) false) (serviceFrame (.tagFirst 7) false) ⟨0, 0, 0, 1⟩
        (.tagFirst 7) false :=
  ⟨taken_here _ _ _ _ rfl rfl (by decide), by decide, taken_here _ _ _ _ rfl rfl (by decide), by decide,
    taken_here _ _ _ _ rfl rfl (by decide), by decide, taken_here _ _ _ _ rfl rfl (by decide),
    good_service _ _ _ rfl⟩

/-- A station with both tags. -/
def taggedFrom (first last : Chan) : State :=
  { config with service := { tagFirst := some first, tagLast := some last } }

theorem witness_GroupActionsAreJudgedByTheTags :
    TakenHere (recordNext (taggedFrom 0 7)) (beforeRecord config) 0x22 (record 0x22 0 []) ∧
      (record 0x22 0 []).argument = 0 ∧ (record 0x22 1 []).argument = 1 ∧
      (record 0x22 2 []).argument = 2 ∧ (record 0x22 3 []).argument = 3 ∧
      (recordNext (taggedFrom 0 7)).service.tagFirst = some 0 ∧
      (recordNext (taggedFrom 0 7)).service.tagLast = some 7 ∧ (0 : Chan) ≤ 7 ∧
      TakenHere (recordNext (taggedFrom 0 7)) (beforeRecord config) 0x22 (record 0x22 4 []) ∧
      3 < (record 0x22 4 []).argument.toNat ∧
      TakenHere (recordNext (taggedFrom 1 0)) (beforeRecord config) 0x22 (record 0x22 3 []) ∧
      (0 : Chan) < 1 ∧ TakenHere (recordNext config) (beforeRecord config) 0x22 (record 0x22 2 []) ∧
      (recordNext config).service.tagFirst = none :=
  ⟨taken_here (taggedFrom _ _) _ _ _ rfl rfl (by decide), rfl, rfl, rfl, rfl, rfl, rfl, by decide,
    taken_here (taggedFrom _ _) _ _ _ rfl rfl (by decide), by decide,
    taken_here (taggedFrom _ _) _ _ _ rfl rfl (by decide), by decide,
    taken_here _ _ _ _ rfl rfl (by decide), rfl⟩

theorem witness_GroupActionsReachTheTaggedChannels :
    GoodService (commitNext config (.groupAction .calibrate 0 7) true)
        (serviceFrame (.groupAction .calibrate 0 7) true) ⟨0, 0, 0, 1⟩ (.groupAction .calibrate 0 7) true ∧
      GoodService (commitNext config (.groupAction .ackNotice 7 7) true)
        (serviceFrame (.groupAction .ackNotice 7 7) true) ⟨0, 0, 0, 1⟩ (.groupAction .ackNotice 7 7) true ∧
      GoodService (commitNext (running operational) (.groupAction .rampdown 0 0) true)
        (serviceFrame (.groupAction .rampdown 0 0) true) ⟨0, 0, 0, 1⟩ (.groupAction .rampdown 0 0) true ∧
      runOrHold ((running operational).chan 0).state = true ∧
      runOrHold ((running operational).chan 1).state = false :=
  ⟨good_service _ _ _ rfl, good_service _ _ _ rfl, good_service _ _ _ rfl, by decide, by decide⟩

theorem witness_GroupClearFaultNeedsEveryCauseClearable :
    let cmd := PendCmd.groupAction .clearFault 0 0
    GoodService (commitNext (faulted .offsetRange 0) cmd true) (serviceFrame cmd true) ⟨0, 0, 0, 1⟩ cmd true ∧
      GoodService (commitNext (faulted .angleLost 1) cmd true) (serviceFrame cmd true) ⟨0, 0, 0, 1⟩ cmd
        true ∧
      ((faulted .angleLost 1).chan 0).state = .fault ∧
      ((faulted .angleLost 1).chan 0).fault.firstCause = some .angleLost ∧
      ((faulted .angleLost 1).chan 0).invalidCount ≠ 0 :=
  ⟨good_service _ _ _ rfl, good_service _ _ _ rfl, by decide, by decide, by decide⟩

/-- A capture in ARMED that a FAULT entry of channel 0, which drives, triggers. -/
def faultTrigger : State :=
  { running operational with
    trace := { capture := .armed, armedCfg := { source := 2, sourceArg := 1, preCount := 5 }, pointer := 3 } }

/-- R174: INHIBIT in a masked channel triggers the capture, with the five records before the pointer. -/
theorem test_fault_entry_triggers_a_capture :
    let t := (after (.inhnAsserted 1 (Vector.replicate 4 [])) faultTrigger).trace
    t.capture = .post ∧ t.segs[(0 : Fin 4)] = ⟨5, 4094⟩ := by decide +kernel

theorem witness_TraceCommandsMoveTheCapture :
    TakenHere (recordNext (capturingAt .done)) (beforeRecord config) 0x30 (record 0x30 0 []) ∧
      (recordNext (capturingAt .done)).trace.capture = .done ∧
      GoodService (commitNext (capturingAt .armed) .traceTrigger false) (serviceFrame .traceTrigger false)
        ⟨0, 0, 0, 1⟩ .traceTrigger false ∧
      (commitNext (capturingAt .armed) .traceTrigger false).trace.capture = .armed ∧
      (capturingAt .armed).trace.armedCfg.preCount ≤ traceL (capturingAt .armed).trace ∧
      (capturingAt .pre).trace.capture ≠ .armed ∧
      faultTrigger.inhnLow = false ∧ faultTrigger.moment = none ∧
      faultTrigger.trace.armedCfg.preCount ≤ traceL faultTrigger.trace ∧
      faultTrigger.trace.capture = .armed ∧ faultTrigger.trace.armedCfg.source = 2 ∧
      drives (faultTrigger.chan 0).state = true ∧
      faultTrigger.trace.armedCfg.sourceArg.getLsbD (0 : Chan).val = true ∧
      (capturingAt .armed).trace.armedCfg.source ≠ 2 :=
  ⟨taken_here (capturingAt .done) _ _ _ rfl rfl (by decide), rfl, good_service _ _ _ rfl, rfl, by decide,
    by decide, by decide, by decide, by decide, by decide, by decide, by decide, by decide, by decide⟩

/-- A capture in ARMED at the last record of the third segment. -/
def recording : State :=
  { config with trace := { capture := .armed, armedCfg := { segmented := true }, seg := 2, pointer := 1023,
                           segs := (Vector.replicate 4 {}).set 2 ⟨1024, 1023⟩ } }

/-- A capture of two pre-trigger records that waits for word 0 to rise through 0, its last record at -7. -/
def crossing (k : CaptureState) (period : Nat) : State :=
  { config with trace :=
      { capture := k, period := period, pointer := 8, mem := [⟨7, ⟨0xFFF9, 0, 0, 0⟩⟩],
        segs := (Vector.replicate 4 {}).set 0 ⟨1, 7⟩,
        armedCfg := { sel0Q := 0, source := 1, preCount := 2, decim := 2 } } }

/-- The same, waiting for word 0 to fall through 0. -/
def falling (s : State) : State :=
  { s with trace := { s.trace with armedCfg := { s.trace.armedCfg with sourceArg := 1 } } }

theorem witness_RecordingSampleWritesOneRecord :
    QuietStart recording (inputs 30000 (sample 0)) ∧ recording.trace.capture = .armed ∧
      recording.trace.period = 0 ∧ (∀ c, (recording.chan c).comp = none) ∧
      TraceMem.wf recording.trace.mem = true ∧ recording.trace.pointer < traceL recording.trace ∧
      (∀ k, k ∈ [CaptureState.pre, .armed, .post] → CalmStart (crossing k 0)) ∧
      (crossing .pre 0).trace.period = 0 ∧
      (crossing .pre 0).trace.armedCfg.preCount < traceL (crossing .pre 0).trace ∧
      (∀ c, ((crossing .pre 0).chan c).comp = none) ∧ (crossing .pre 0).trace.capture = .pre ∧
      (crossing .pre 0).trace.segs[(crossing .pre 0).trace.seg].valid <
        (crossing .pre 0).trace.armedCfg.preCount ∧
      (crossing .post 0).trace.segs[(crossing .post 0).trace.seg].valid < traceL (crossing .post 0).trace ∧
      (crossing .armed 0).trace.armedCfg.source = 1 ∧ (crossing .armed 1).trace.period ≠ 0 :=
  ⟨quiet_of _ _ (by decide) (by decide) (by decide) (by decide) (by decide) (by decide) (by decide)
    (by decide) (by decide), by decide, by decide, by decide, by decide, by decide,
    (fun k hk => by
      simp only [List.mem_cons, List.not_mem_nil, or_false] at hk
      rcases hk with rfl | rfl | rfl <;>
        exact calm_of _ (by decide) (by decide) (by decide) (by decide) (by decide) (by decide) (by decide)),
    by decide +kernel⟩

/-- R174, R175: a rise of word 0 from -7 through a threshold of 0 triggers at the record that meets it, and
that record is the first of the segment's post-trigger part; a fall does not trigger. -/
theorem test_level_crossing :
    let t := (after (.periodStart (inputs 30000 (sample 0)) order) (crossing .armed 0)).trace
    let u := (after (.periodStart (inputs 30000 (sample 0)) order) (falling (crossing .armed 0))).trace
    t.capture = .post ∧ t.segs[(0 : Fin 4)] = ⟨3, 6⟩ ∧ t.pointer = 9 ∧ u.capture = .armed ∧
      u.segs[(0 : Fin 4)] = ⟨2, 7⟩ := by decide +kernel

/-- A capture in POST whose segment is full. -/
def full (seg : Fin 4) : State :=
  { config with trace := { capture := .post, armedCfg := { segmented := true }, seg := seg,
                           segs := Vector.replicate 4 ⟨1024, 0⟩ } }

theorem witness_ArmedEntryAndSegmentCompletionAreTaken :
    (∀ w, (capturingAt .pre).moment = some w → w.walk = []) ∧ (capturingAt .pre).trace.capture = .pre ∧
      (capturingAt .pre).trace.segs[(capturingAt .pre).trace.seg].valid =
        (capturingAt .pre).trace.armedCfg.preCount ∧
      (∀ w, (full 2).moment = some w → w.walk = []) ∧ (full 2).trace.capture = .post ∧
      (full 2).trace.segs[(full 2).trace.seg].valid = traceL (full 2).trace ∧
      (full 2).trace.seg.val < 3 ∧ ¬ (full 3).trace.seg.val < 3 :=
  ⟨(fun w h => by cases h), rfl, rfl, (fun w h => by cases h), rfl, rfl, by decide, by decide⟩

theorem station_sound_at_reset : StationSound State.reset where
  config := fun _ => ⟨by decide, by decide⟩
  phase := fun f h => by cases h
  go := fun f r h => by cases h
  leave := fun f r h => by cases h
  pairs := by decide

/-- The hypotheses of the five invariants: reset with a command in front. -/
theorem witness_invariants :
    let s := { State.reset with pending := [.lineIdleAfterReset] }
    s.gatesSafe = true ∧ s.channelsSound = true ∧ s.trace.sound = true ∧ s.counters.bounded = true ∧
      step s = .next (after .lineIdleAfterReset State.reset) ∧ StationSound State.reset :=
  ⟨by decide +kernel, by decide +kernel, by decide +kernel, by decide +kernel, rfl, station_sound_at_reset⟩

end Sys2Proof.Tests
end

section
/-! Misses (R8, R128): what an announcement makes of one channel, that the announcement to every channel
does this to each of them and nothing else, and DEADLINE_EXPIRY by these rules. -/

namespace Sys2Proof.Machine

open Sys2Proof

/-! ## One channel -/

/-- What a miss announcement makes of a channel's own context, at the miss limit or below it (R8). -/
def missTaken (atLimit : Bool) (ch : Channel) : Channel :=
  match ch.state with
  | .run => if atLimit then toRampdown true false ch else toHold ch
  | .hold => if atLimit then toRampdown true false ch else ch
  | .off | .calibrate | .ready | .rampdown | .fault => ch

theorem missTaken_rest {ch : Channel} (h : runOrHold ch.state = false) (atLimit : Bool) :
    missTaken atLimit ch = ch := by
  unfold missTaken
  cases e : ch.state <;> simp_all [runOrHold]

theorem missTaken_limit {ch : Channel} (h : runOrHold ch.state = true) :
    missTaken true ch = toRampdown true false ch := by
  unfold missTaken
  cases e : ch.state <;> simp_all [runOrHold]

theorem missTaken_below_run {ch : Channel} (h : ch.state = .run) : missTaken false ch = toHold ch := by
  simp [missTaken, h]

theorem missTaken_below_hold {ch : Channel} (h : ch.state = .hold) : missTaken false ch = ch := by
  simp [missTaken, h]

/-- A channel takes one announcement once. The follower that its leader took along (R110) is therefore left
alone when its own turn comes. -/
theorem missTaken_idem (atLimit : Bool) (ch : Channel) :
    missTaken atLimit (missTaken atLimit ch) = missTaken atLimit ch := by
  cases h : runOrHold ch.state with
  | false => rw [missTaken_rest h, missTaken_rest h]
  | true =>
    cases atLimit with
    | true => rw [missTaken_limit h]; exact missTaken_rest rfl true
    | false =>
      cases e : ch.state with
      | run => rw [missTaken_below_run e]; exact missTaken_below_hold rfl
      | hold => rw [missTaken_below_hold e, missTaken_below_hold e]
      | off | calibrate | ready | rampdown | fault => simp [runOrHold, e] at h

/-! ## Part of an announcement -/

/-- Some channels of `s` have taken the announcement in `t`, the others stand as in `s`: what any number of
turns leaves. -/
def MissReaches (atLimit : Bool) (s t : State) : Prop :=
  ∀ d, t.chan d = s.chan d ∨ t.chan d = missTaken atLimit (s.chan d)

theorem MissReaches.refl (atLimit : Bool) (s : State) : MissReaches atLimit s s := fun _ => .inl rfl

/-- What a channel is going to be once it has taken the announcement does not change on the way. -/
theorem MissReaches.missTaken_eq {atLimit : Bool} {s t : State} (h : MissReaches atLimit s t) (d : Chan) :
    missTaken atLimit (t.chan d) = missTaken atLimit (s.chan d) := by
  rcases h d with same | taken
  · rw [same]
  · rw [taken, missTaken_idem]

/-- A channel that has taken the announcement stays as it is. -/
theorem MissReaches.of_taken {atLimit : Bool} {s t : State} (h : MissReaches atLimit s t) {d : Chan}
    {ch : Channel} (hs : s.chan d = missTaken atLimit ch) : t.chan d = missTaken atLimit ch := by
  rcases h d with same | taken
  · rw [same, hs]
  · rw [taken, hs, missTaken_idem]

theorem MissReaches.trans {atLimit : Bool} {s t u : State} (h : MissReaches atLimit s t)
    (k : MissReaches atLimit t u) : MissReaches atLimit s u := fun d => by
  rcases k d with same | taken
  · rw [same]; exact h d
  · right; rw [taken, h.missTaken_eq]

theorem modChan_missReaches {atLimit : Bool} {s : State} {c : Chan} {f : Channel → Channel}
    (hf : f (s.chan c) = missTaken atLimit (s.chan c)) : MissReaches atLimit s (s.modChan c f) := fun d => by
  by_cases h : d = c
  · right; rw [h, State.modChan_chan_same, hf]
  · left; exact State.modChan_chan_other s f h

/-! ## One channel's turn -/

/-- The follower that a leader takes along (R110) takes the announcement by that. -/
theorem enterRampdown_missReaches {s : State} {c : Chan} (h : runOrHold (s.chan c).state = true) :
    (enterRampdown c true false s).chan c = missTaken true (s.chan c) ∧
      MissReaches true s (enterRampdown c true false s) := by
  have own : (s.modChan c (toRampdown true false)).chan c = missTaken true (s.chan c) := by
    rw [State.modChan_chan_same, missTaken_limit h]
  have entered : MissReaches true s (s.modChan c (toRampdown true false)) :=
    modChan_missReaches (missTaken_limit h).symm
  unfold enterRampdown; dsimp only
  split
  · next takesAlong =>
    obtain ⟨-, follows⟩ := Bool.and_eq_true_iff.1 takesAlong
    have along := modChan_missReaches (missTaken_limit follows).symm
    exact ⟨along.of_taken own, entered.trans along⟩
  · exact ⟨own, entered⟩

/-- After the turn of channel `c` it has taken the announcement. -/
theorem takeMiss_missReaches (atLimit : Bool) (c : Chan) (s : State) :
    (takeMiss atLimit c s).chan c = missTaken atLimit (s.chan c) ∧
      MissReaches atLimit s (takeMiss atLimit c s) := by
  unfold takeMiss
  cases e : (s.chan c).state with
  | run =>
    cases atLimit with
    | true => exact enterRampdown_missReaches (by rw [e]; rfl)
    | false =>
      have held := (missTaken_below_run e).symm
      exact ⟨(State.modChan_chan_same s c toHold).trans held, modChan_missReaches held⟩
  | hold =>
    cases atLimit with
    | true => exact enterRampdown_missReaches (by rw [e]; rfl)
    | false => exact ⟨(missTaken_below_hold e).symm, .refl false s⟩
  | off | calibrate | ready | rampdown | fault =>
    exact ⟨(missTaken_rest (by rw [e]; rfl) atLimit).symm, .refl atLimit s⟩

theorem enterRampdown_channels_only (c : Chan) (r p : Bool) (s : State) :
    enterRampdown c r p s = { s with channels := (enterRampdown c r p s).channels } := by
  unfold enterRampdown; dsimp only
  split <;> rfl

theorem takeMiss_channels_only (atLimit : Bool) (c : Chan) (s : State) :
    takeMiss atLimit c s = { s with channels := (takeMiss atLimit c s).channels } := by
  unfold takeMiss
  cases (s.chan c).state with
  | run =>
    cases atLimit with
    | true => exact enterRampdown_channels_only c true false s
    | false => rfl
  | hold =>
    cases atLimit with
    | true => exact enterRampdown_channels_only c true false s
    | false => rfl
  | off | calibrate | ready | rampdown | fault => rfl

/-! ## The announcement to every channel -/

theorem takeMiss_foldl_missReaches (atLimit : Bool) (l : List Chan) (s : State) :
    MissReaches atLimit s (l.foldl (fun s c => takeMiss atLimit c s) s) := by
  induction l generalizing s with
  | nil => exact .refl atLimit s
  | cons c l ih => exact (takeMiss_missReaches atLimit c s).2.trans (ih _)

theorem takeMiss_foldl_chan (atLimit : Bool) {d : Chan} {l : List Chan} (hd : d ∈ l) (s : State) :
    (l.foldl (fun s c => takeMiss atLimit c s) s).chan d = missTaken atLimit (s.chan d) := by
  induction l generalizing s with
  | nil => cases hd
  | cons c l ih =>
    obtain ⟨own, reaches⟩ := takeMiss_missReaches atLimit c s
    rcases List.mem_cons.1 hd with rfl | later
    · exact (takeMiss_foldl_missReaches atLimit l _).of_taken own
    · exact (ih later _).trans (reaches.missTaken_eq d)

theorem takeMiss_foldl_channels_only (atLimit : Bool) (l : List Chan) (s : State) :
    l.foldl (fun s c => takeMiss atLimit c s) s =
      { s with channels := (l.foldl (fun s c => takeMiss atLimit c s) s).channels } := by
  induction l generalizing s with
  | nil => rfl
  | cons c l ih =>
    rw [List.foldl_cons, ih, takeMiss_channels_only]

theorem mem_allChans (c : Chan) : c ∈ allChans := by
  revert c; decide

/-- The announcement reaches every channel alike (R8, R128): neither the order of the turns nor the taking
along of followers (R110) shows in the result. -/
theorem announceMiss_eq (atLimit : Bool) (s : State) :
    announceMiss atLimit s = s.mapChans fun _ => missTaken atLimit := by
  have chans (c : Chan) : (announceMiss atLimit s).chan c = (s.mapChans fun _ => missTaken atLimit).chan c := by
    rw [State.mapChans_chan]
    exact takeMiss_foldl_chan atLimit (mem_allChans c) s
  have channels : (announceMiss atLimit s).channels = (s.mapChans fun _ => missTaken atLimit).channels :=
    Vector.ext fun i hi => chans ⟨i, hi⟩
  calc announceMiss atLimit s
      = { s with channels := (announceMiss atLimit s).channels } :=
        takeMiss_foldl_channels_only atLimit allChans s
    _ = s.mapChans fun _ => missTaken atLimit := by rw [channels]; rfl

/-! ## DEADLINE_EXPIRY -/

theorem exec_deadlineExpiry (s : State) : exec .deadlineExpiry s = .next (expireDeadline s) := rfl

/-- An expiry with no work of an instant open, as one next state (R128). -/
theorem expireDeadline_eq {s : State} {d : Nat} (hm : s.moment = none) (hr : s.timer.running = true)
    (hd : s.timer.deadline = some d) :
    expireDeadline s =
      ({ s with now := max s.now d
                timer := countMiss s.station d s.timer
                counters := { s.counters with missed := bump s.counters.missed } } : State).mapChans
        fun _ => missTaken ((countMiss s.station d s.timer).missCount == s.station.missLimit) := by
  unfold expireDeadline
  rw [hr, hd]; dsimp only
  have settled : finishSample (s.withNow (max s.now d)) = s.withNow (max s.now d) := finishSample_of_none hm
  rw [advanceTo_of_none d hm, settled, announceMiss_eq]
  rfl

/-- Settles O23: the announcement is `missTaken` in every channel, and the clauses are its cases. -/
theorem deadlineExpiryCountsAndAnnouncesTheMiss : Obligations.DeadlineExpiryCountsAndAnnouncesTheMiss := by
  unfold Obligations.DeadlineExpiryCountsAndAnnouncesTheMiss
  intro s d n hm hr hd hn
  have count : (countMiss s.station d s.timer).missCount = n := hn.symm
  have expired := expireDeadline_eq hm hr hd
  have taken : ∀ c, (expireDeadline s).chan c = missTaken (n == s.station.missLimit) (s.chan c) := fun c => by
    rw [expired, State.mapChans_chan, count]; rfl
  refine ⟨expireDeadline s, exec_deadlineExpiry s, by rw [expired]; rfl, by rw [expired, hn]; rfl,
    by rw [expired]; rfl, fun c => ⟨?_, ?_, ?_, ?_⟩⟩
  · intro run below
    rw [taken, beq_false_of_ne below, missTaken_below_run run]
    exact ⟨rfl, rfl⟩
  · intro hold below
    rw [taken, beq_false_of_ne below, missTaken_below_hold hold]
  · intro driven limit
    rw [taken, beq_iff_eq.2 limit, missTaken_limit driven]
    exact ⟨rfl, Bool.or_true _, rfl, rfl, rfl⟩
  · intro rests
    rw [taken, missTaken_rest rests]

end Sys2Proof.Machine
end

section
/-! Validation of the staged bank (R97, R98): what the two checks make of one schedule, which channel the
search through CH0 to CH7 reports, and BANK_VALIDATION_COMPLETE by these rules. -/

namespace Sys2Proof.Machine

open Sys2Proof

/-! ## One schedule -/

/-- No reason is given for a schedule that passes both checks. -/
theorem scheduleReason_of_passes {sch : Schedule} (h : (thresholdOrder sch && hysteresisOk sch) = true) :
    scheduleReason sch = none := by
  obtain ⟨order, hyst⟩ := Bool.and_eq_true_iff.1 h
  simp [scheduleReason, order, hyst]

/-- THRESHOLD_ORDER comes first: HYSTERESIS is the reason only where the order holds (R97). -/
theorem scheduleReason_of_fails {sch : Schedule} (h : ¬ (thresholdOrder sch && hysteresisOk sch) = true) :
    scheduleReason sch = some (if thresholdOrder sch then 2 else 1) := by
  cases order : thresholdOrder sch with
  | false => simp [scheduleReason, order]
  | true =>
    have hyst : hysteresisOk sch = false := by simpa [order] using h
    simp [scheduleReason, order, hyst]

/-! ## The bank, from CH0 to CH7 -/

/-- In the order of the channels, only lower channels stand before a channel. -/
theorem allChans_split (c : Chan) : ∃ before later, allChans = before ++ c :: later ∧ ∀ d ∈ before, d < c := by
  obtain ⟨before, later, split⟩ := List.append_of_mem (mem_allChans c)
  have rising : (before ++ c :: later).Pairwise (· < ·) := split ▸ (by decide : allChans.Pairwise (· < ·))
  obtain ⟨-, -, lower⟩ := List.pairwise_append.1 rising
  exact ⟨before, later, split, fun d hd => lower d hd c List.mem_cons_self⟩

theorem validateBank_of_all_pass {b : Bank} (h : ∀ c : Chan, scheduleReason b.scheds[c] = none) :
    validateBank b = none :=
  List.findSome?_eq_none_iff.2 fun c _ => by rw [h c]; rfl

theorem validateBank_of_lowest {b : Bank} {c : Chan} {r : Nat}
    (lower : ∀ d : Chan, d < c → scheduleReason b.scheds[d] = none) (fails : scheduleReason b.scheds[c] = some r) :
    validateBank b = some (c.val, r) := by
  obtain ⟨before, later, split, below⟩ := allChans_split c
  refine List.findSome?_eq_some_iff.2 ⟨before, c, later, split, ?_, fun d hd => ?_⟩
  · rw [fails]; rfl
  · rw [lower d (below d hd)]; rfl

/-! ## BANK_VALIDATION_COMPLETE -/

theorem completeValidation_of_pass {s : State} (h : validateBank s.staged = none) :
    completeValidation s = s.withCommit ⟨.switchPending, 0, 0, 0⟩ := by
  unfold completeValidation; rw [h]

theorem completeValidation_of_fail {s : State} {c r : Nat} (h : validateBank s.staged = some (c, r)) :
    completeValidation s = s.withCommit ⟨.doneRejected, c, r, 0⟩ := by
  unfold completeValidation; rw [h]

/-- Whatever its result, a validation sets the commit and nothing else (R98, R100). -/
theorem completeValidation_commit_only (s : State) :
    completeValidation s = s.withCommit (completeValidation s).commit := by
  unfold completeValidation; split <;> rfl

theorem completeValidation_withMoment (s : State) (m : Option InstantWork) :
    completeValidation (s.withMoment m) = (completeValidation s).withMoment m := by
  unfold completeValidation; rw [State.withMoment_staged]; split <;> rfl

/-- A due validation differs from its completion in the instant's work alone: it is due no more. -/
theorem takeValidation_of_due {s : State} {w : InstantWork} (hm : s.moment = some w)
    (due : w.validationDue = true) (busy : s.commit.state = .validating) :
    SampleKeeps (completeValidation s) (takeValidation s) := by
  have taken : takeValidation s = completeValidation (s.withMoment (some { w with validationDue := false })) := by
    unfold takeValidation; rw [hm]
    simp only [due, busy, if_true]
  rw [taken, completeValidation_withMoment]
  exact withMoment_keeps _ _

theorem exec_bankValidationComplete (s : State) :
    exec .bankValidationComplete s = .next (whenDue (validationDue s) takeValidation s) := rfl

/-- A due validation: the sample event that goes on afterwards leaves the banks and the commit alone. -/
theorem exec_bankValidationComplete_of_due {s : State} {w : InstantWork} (hm : s.moment = some w)
    (due : w.validationDue = true) (busy : s.commit.state = .validating) :
    ∃ t, exec .bankValidationComplete s = .next t ∧ SampleKeeps (completeValidation s) t := by
  have isDue : validationDue s = true := by unfold validationDue; rw [hm]; exact due
  refine ⟨resume (takeValidation s), by rw [exec_bankValidationComplete, isDue]; rfl, ?_⟩
  exact (takeValidation_of_due hm due busy).trans (resume_keeps _)

/-- Settles O20: the search through the channels stops at the first whose schedule gives a reason. -/
theorem validationReportsTheLowestFailingChannel : Obligations.ValidationReportsTheLowestFailingChannel := by
  unfold Obligations.ValidationReportsTheLowestFailingChannel
  intro s w order hyst hm due busy ho hh
  obtain rfl : order = fun c => thresholdOrder s.staged.scheds[c] := funext ho
  obtain rfl : hyst = fun c => hysteresisOk s.staged.scheds[c] := funext hh
  obtain ⟨t, ht, keeps⟩ := exec_bankValidationComplete_of_due hm due busy
  have active := keeps.active
  have staged := keeps.staged
  rw [completeValidation_commit_only] at active staged
  refine ⟨t, ht, active, staged, fun all => ?_, fun c lower fails => ?_⟩
  · have pass : validateBank s.staged = none :=
      validateBank_of_all_pass fun c => scheduleReason_of_passes (all c)
    rw [keeps.commit, completeValidation_of_pass pass]; rfl
  · have lowest := validateBank_of_lowest (fun d hd => scheduleReason_of_passes (lower d hd))
      (scheduleReason_of_fails fails)
    rw [keeps.commit, completeValidation_of_fail lowest]
    exact ⟨rfl, rfl, rfl⟩

end Sys2Proof.Machine
end

section
/-! Consume words (R139, R141 to R144): the entry the search through the slot map finds, what stages 1 to 3
make of each item, what a slot word adds to the pending commit list, and CONSUME_WORD by these rules. -/

namespace Sys2Proof.Machine

open Sys2Proof

/-! ## The entry of a slot word (R139) -/

/-- The test of the search through the slot map, for one entry. -/
theorem entry_resolves_iff (s : State) (i : Fin 48) (w : Nat) :
    (s.slotMap[i].valid && slotWord s.station s.slotMap[i] == w) = true ↔
      s.slotMap[i].valid = true ∧ resolves s i = w := by
  rw [Bool.and_eq_true, beq_iff_eq]; rfl

/-- The search finds the entry that names the word, and no other. -/
theorem findEntry_eq_some_iff {s : State} {w : Nat} {e : SlotEntry} :
    findEntry s w = some e ↔ ∃ i, NamesWord s i w ∧ s.slotMap[i] = e := by
  unfold findEntry
  rw [Vector.find?_toList, Vector.find?_eq_some_iff_getElem]
  constructor
  · rintro ⟨test, i, hi, rfl, first⟩
    obtain ⟨valid, word⟩ := (entry_resolves_iff s ⟨i, hi⟩ w).1 test
    refine ⟨⟨i, hi⟩, ⟨valid, word, fun j below validj wordj => ?_⟩, rfl⟩
    have fails := first j below
    rw [Bool.not_eq_true', Bool.eq_false_iff] at fails
    exact fails ((entry_resolves_iff s j w).2 ⟨validj, wordj⟩)
  · rintro ⟨i, ⟨valid, word, first⟩, rfl⟩
    refine ⟨(entry_resolves_iff s i w).2 ⟨valid, word⟩, i, i.isLt, rfl, fun j below => ?_⟩
    rw [Bool.not_eq_true', Bool.eq_false_iff]
    intro test
    obtain ⟨validj, wordj⟩ := (entry_resolves_iff s ⟨j, below.trans i.isLt⟩ w).1 test
    exact first ⟨j, below.trans i.isLt⟩ below validj wordj

/-! ## Stages 1 to 3, item by item (R141, R142, R143) -/

theorem clampNat_zero (hi n : Nat) : clampNat 0 hi n = min hi n := by
  unfold clampNat
  rw [if_neg (Nat.not_lt_zero n)]
  split <;> omega

/-- Stage 1 for CONTROL keeps bits 0 to 5. -/
theorem scaleControl_eq (x : Word) : scaleControl x = x.extractLsb' 0 6 :=
  BitVec.setWidth_eq_extractLsb' (by decide)

section
variable (s : State) (e : SlotEntry) (x : Word)

theorem newValue_iqRef (h : e.item.val = 0) :
    newValue s e x = some (.iqRef e.channel (combineSigned ((s.chan e.channel).record.subMask.getLsbD 0)
      e.increment (s.chan e.channel).record.subIqRef (s.latch e.channel).iqRef (scaleSigned e.shift x))) := by
  have item : e.item = 0 := Fin.ext h
  simp only [newValue, item]

theorem newValue_idRef (h : e.item.val = 1) :
    newValue s e x = some (.idRef e.channel (combineSigned ((s.chan e.channel).record.subMask.getLsbD 1)
      e.increment (s.chan e.channel).record.subIdRef (s.latch e.channel).idRef (scaleSigned e.shift x))) := by
  have item : e.item = 1 := Fin.ext h
  simp only [newValue, item]

theorem newValue_ilimScale (h : e.item.val = 2) :
    newValue s e x = some (.ilimScale e.channel (combineLimit
      ((s.chan e.channel).record.subMask.getLsbD 2) e.increment (s.chan e.channel).record.subIlimScale
      (s.latch e.channel).ilimScale (scaleLimit e.shift x))) := by
  have item : e.item = 2 := Fin.ext h
  simp only [newValue, item]

theorem newValue_yawCorr (h : e.item.val = 3) :
    newValue s e x = some (.yawCorr e.channel (combineSigned ((s.chan e.channel).record.subMask.getLsbD 3)
      e.increment (s.chan e.channel).record.subYawCorr (s.latch e.channel).yawCorr
      (scaleSigned e.shift x))) := by
  have item : e.item = 3 := Fin.ext h
  simp only [newValue, item]

theorem newValue_control (h : e.item.val = 4) :
    newValue s e x = some (.control e.channel (if (s.chan e.channel).record.subMask.getLsbD 4 then
      (s.chan e.channel).record.subControl else scaleControl x)) := by
  have item : e.item = 4 := Fin.ext h
  simp only [newValue, item]

/-! ## Stage 4 (R144) -/

theorem consumeValue_of_frozen (h : (s.chan e.channel).record.frzMask.getLsbD e.item.val = true) :
    consumeValue s e x = none := if_pos h

theorem consumeValue_of_not_frozen (h : (s.chan e.channel).record.frzMask.getLsbD e.item.val = false) :
    consumeValue s e x = newValue s e x := if_neg (Bool.eq_false_iff.1 h)

end

/-! ## What a slot word adds to the pending commit list -/

theorem slotsProcessed_iff (f : FrameCtx) :
    slotsProcessed f = true ↔ f.kind = .cycle ∧ f.phase = .operational ∧ f.badHeader = false := by
  simp [slotsProcessed, and_assoc]

/-- The slot words of a frame that opened outside OPERATIONAL add nothing. -/
theorem consumed_of_config {s : State} {f : FrameCtx} (h : f.phase = .config) (w : Nat) (x : Word) :
    consumed s f w x = [] := by
  refine if_neg fun processed => ?_
  obtain ⟨-, operational, -⟩ := (slotsProcessed_iff f).1 processed
  rw [h] at operational
  cases operational

/-- A word without a consume entry adds nothing. -/
theorem consumed_of_produce {s : State} {w : Nat} (h : ∀ i, NamesWord s i w → s.slotMap[i].produce = true)
    (f : FrameCtx) (x : Word) : consumed s f w x = [] := by
  unfold consumed
  split
  · split
    · next e found =>
      obtain ⟨i, names, rfl⟩ := findEntry_eq_some_iff.1 found
      exact if_pos (h i names)
    · rfl
  · rfl

/-- A processed word of a consume entry adds what the four stages make of it. -/
theorem consumed_of_consume {s : State} {f : FrameCtx} {i : Fin 48} {w : Nat} (hf : slotsProcessed f = true)
    (names : NamesWord s i w) (consume : s.slotMap[i].produce = false) (x : Word) :
    consumed s f w x = (consumeValue s s.slotMap[i] x).toList := by
  unfold consumed
  rw [if_pos hf, findEntry_eq_some_iff.2 ⟨i, names, rfl⟩]
  exact if_neg (Bool.eq_false_iff.1 consume)

/-! ## CONSUME_WORD -/

theorem exec_consumeWord_of_slot {s : State} {f : FrameCtx} {w : Nat} (hr : s.port.receiving = some f)
    (hp : nextPart f = .slot w) (x : Word) :
    exec (.consumeWord x) s = .next (withReceiving s (takeSlotWord s w x f)) := by
  have unfolds : exec (.consumeWord x) s = .next (receiveSlotWord x s) := rfl
  rw [unfolds]
  simp only [receiveSlotWord, hr, hp]

/-- Settles O31: the word adds `consumed` to the list, and this is read off the stages item by item. -/
theorem consumeWordTakesTheFourStages : Obligations.ConsumeWordTakesTheFourStages := by
  unfold Obligations.ConsumeWordTakesTheFourStages
  intro s f w x hr hp cycle good
  refine ⟨consumed s f w x, exec_consumeWord_of_slot hr hp x, fun config => consumed_of_config config w x,
    fun produce => consumed_of_produce produce f x, ?_⟩
  rintro i e r l y z names rfl consume operational rfl rfl
  have processed : slotsProcessed f = true := (slotsProcessed_iff f).2 ⟨cycle, operational, good⟩
  rw [consumed_of_consume processed names consume]
  refine ⟨fun frozen => by rw [consumeValue_of_frozen _ _ _ frozen]; rfl, fun unfrozen => ?_⟩
  rw [consumeValue_of_not_frozen _ _ _ unfrozen]
  refine ⟨?_, ?_, ?_, ?_, ?_⟩
  · rintro item rfl
    rw [newValue_iqRef _ _ _ item]; rfl
  · rintro item rfl
    rw [newValue_idRef _ _ _ item]; rfl
  · rintro item rfl
    rw [newValue_ilimScale _ _ _ item, combineLimit, clampNat_zero]; rfl
  · rintro item rfl
    rw [newValue_yawCorr _ _ _ item]; rfl
  · intro item
    rw [newValue_control _ _ _ item, scaleControl_eq]; rfl

end Sys2Proof.Machine
end

section
/-! SET_WINDOW (R164, R166): the window a record names, how the record is judged and taken, and how the
positions of a window walk its rectangle. -/

namespace Sys2Proof.Machine

open Sys2Proof

/-! ## The window a record names (R164, R166) -/

theorem tableOf_eq_none_iff (n : Nat) : tableOf n = none ↔ 10 < n := by
  unfold tableOf
  split
  case h_12 =>
    refine iff_of_true rfl ?_
    by_contra low
    interval_cases n <;> contradiction
  all_goals exact iff_of_false nofun (by decide)

/-- The six request data words of a SET_WINDOW record lie within the bounds of a table (R166). -/
structure SoundBounds (t : Table) (b : RecordBody) : Prop where
  words : 6 ≤ b.wordCount.toNat
  entry : b.data[1].toNat < tableEntries t
  field : b.data[3].toNat < tableFields t
  entries : b.data[0].toNat ≤ b.data[1].toNat
  fields : b.data[2].toNat ≤ b.data[3].toNat
  order : b.data[4].toNat ≤ 1
  wrap : b.data[5].toNat ≤ 1

/-- The window that the request data words of a SET_WINDOW record spell for a table (R166). -/
def spelledWindow (t : Table) (b : RecordBody) : Window :=
  ⟨t, b.data[0].toNat, b.data[1].toNat, b.data[2].toNat, b.data[3].toNat,
    decide (b.data[4].toNat = 1), decide (b.data[5].toNat = 1)⟩

theorem dataWords_of_six_le {b : RecordBody} (h : 6 ≤ b.wordCount.toNat) :
    ∃ rest, dataWords b =
      b.data[0] :: b.data[1] :: b.data[2] :: b.data[3] :: b.data[4] :: b.data[5] :: rest := by
  have six : (dataWords b).take 6 = b.data.toList.take 6 := by
    rw [dataWords, List.take_take, Nat.min_eq_left h]
  obtain ⟨_, _, _, _, _, ⟨⟨data⟩, hd⟩, _⟩ := b
  match data, hd with
  | [_, _, _, _, _, _, _, _], _ => exact ⟨_, by rw [← List.take_append_drop 6 (dataWords _), six]; rfl⟩

theorem windowOf_of_short {t : Table} {ws : List Word} (h : ws.length < 6) : windowOf t ws = none := by
  unfold windowOf
  split
  · next => simp only [List.length_cons] at h; omega
  · rfl

theorem beq_one_eq_decide (x : Word) : (x == 1) = decide (x.toNat = 1) := by
  rw [Bool.eq_iff_iff, beq_iff_eq, decide_eq_true_iff]
  exact BitVec.toNat_inj.symm

theorem windowOf_of_sound {t : Table} {b : RecordBody} (h : SoundBounds t b) :
    windowOf t (dataWords b) = some (spelledWindow t b) := by
  obtain ⟨rest, words⟩ := dataWords_of_six_le h.words
  rw [words, spelledWindow, ← beq_one_eq_decide, ← beq_one_eq_decide]
  exact if_pos ⟨h.entry, h.field, h.entries, h.fields, h.order, h.wrap⟩

theorem windowOf_of_not_sound {t : Table} {b : RecordBody} (h : ¬ SoundBounds t b) :
    windowOf t (dataWords b) = none := by
  by_cases long : 6 ≤ b.wordCount.toNat
  · obtain ⟨rest, words⟩ := dataWords_of_six_le long
    rw [words]
    exact if_neg fun ⟨entry, field, entries, fields, order, wrap⟩ =>
      h ⟨long, entry, field, entries, fields, order, wrap⟩
  · exact windowOf_of_short ((List.length_take_le _ _).trans_lt (Nat.lt_of_not_le long))

/-! ## The judgement and the taking (R154, R162, R169) -/

theorem judgeSetWindow_of_sound {t : Table} {b : RecordBody} (ht : tableOf b.argument.toNat = some t)
    (h : SoundBounds t b) : judgeSetWindow b = accept (.setWindow (spelledWindow t b)) := by
  unfold judgeSetWindow argumentOf
  simp only [ht, windowOf_of_sound h]

/-- RANGE without a table, and with a table whose bounds the words leave. -/
theorem judgeSetWindow_of_not_sound {b : RecordBody}
    (h : ∀ t, tableOf b.argument.toNat = some t → ¬ SoundBounds t b) :
    judgeSetWindow b = refuse flagRange := by
  unfold judgeSetWindow argumentOf
  split
  · rfl
  · next t ht => rw [windowOf_of_not_sound (h t ht)]

/-- A record that passes steps 1 to 3 of R154 is judged by its command's own tests. -/
theorem judge_of_takenHere {s : State} {f : FrameCtx} {code : Byte} {b : RecordBody} {c : Command}
    (h : TakenHere s f code b) (hc : commandOf code = some c) (allowed : allowedNow s f.phase c = true) :
    judge s f.phase false code b = judgeCommand s c b := by
  have short : ¬ 8 < b.wordCount.toNat := Nat.not_lt.2 h.words
  unfold judge
  simp [checkFails_eq_false h.check, short, hc, allowed]

/-- SET_WINDOW is no CONTINUE of any stream. -/
theorem closesStream_setWindow (s : State) : closesStream s 0x10 = true := by
  have other : ownContinue s (some .setWindow) = false := by unfold ownContinue; split <;> trivial
  show (!ownContinue s (some .setWindow)) = true
  rw [other]; rfl

theorem clearsSequence_setWindow (s : State) : clearsSequence s 0x10 = tagsPresent s := rfl

theorem flagIf_tagsPresent (s : State) : flagIf (tagsPresent s) flagSeqCleared = seqFlag s := rfl

/-- SET_WINDOW is taken plainly, with the flags and the command of its own tests. -/
theorem setWindow_takesPlainly {s : State} {f : FrameCtx} {b : RecordBody} (h : TakenHere s f 0x10 b) :
    TakesPlainly (.setWindow b) s f 0x10 b (judgeSetWindow b).flags (judgeSetWindow b).cmd := by
  have sound : checkFails s 0x10 b = false := checkFails_eq_false h.check
  have judged : judge s f.phase false 0x10 b = judgeSetWindow b := judge_of_takenHere h rfl rfl
  have clears : answerTaken s f.phase 0x10 b = answeredWith (judgeSetWindow b).cmd (tagsPresent s) := by
    unfold answerTaken answeredWith
    rw [sound, judged, clearsSequence_setWindow, Bool.not_false, Bool.true_and]
    exact congrArg _ (Bool.or_false _)
  have taken := answer_taken (i := .setWindow b) (s := s) (code := 0x10) rfl h.toForThisStation
  rwa [sound, judged, clears, closesStream_setWindow, clearsSequence_setWindow, Bool.not_false,
    Bool.true_and, Bool.true_and, flagIf_tagsPresent] at taken

/-! ## The commit (R155, R166) -/

theorem commitsAs_setWindow (s : State) (w : Window) :
    CommitsAs s (.setWindow w) [] fun t => { t with service := { t.service with window := some w } } :=
  fun _ _ at_ _ g => commits_of_execute at_ g rfl g.settled

theorem commitsAs_notExecuted (s : State) : CommitsAs s .notExecuted [] id :=
  fun _ _ at_ _ g => commits_of_execute at_ g rfl g.settled

/-! ## The walk of the rectangle (R166) -/

/-- Positions below `m * n` are the pairs of a line below `m` and a place below `n`, each once. -/
theorem existsUnique_line_place {m n i j : Nat} (hi : i < m) (hj : j < n) :
    ∃! p, p < m * n ∧ p / n = i ∧ p % n = j := by
  have pos : 0 < n := Nat.zero_lt_of_lt hj
  refine ⟨j + n * i, ⟨?_, (Nat.div_mod_unique pos).2 ⟨rfl, hj⟩⟩, fun p ⟨_, line, place⟩ => ?_⟩
  · calc j + n * i < n + n * i := Nat.add_lt_add_right hj _
      _ = (i + 1) * n := by ring
      _ ≤ m * n := Nat.mul_le_mul_right n hi
  · exact ((Nat.div_mod_unique pos).1 ⟨line, place⟩).1.symm

theorem windowCell_fieldMajor {w : Window} (h : w.fieldMajor = true) (p : Nat) :
    windowCell w p = (w.firstEntry + p % windowEntries w, w.firstField + p / windowEntries w) := if_pos h

theorem windowCell_entryMajor {w : Window} (h : w.fieldMajor = false) (p : Nat) :
    windowCell w p = (w.firstEntry + p / windowFields w, w.firstField + p % windowFields w) :=
  if_neg (Bool.eq_false_iff.1 h)

/-- Each cell of the rectangle stands at one position of the window, in either order. -/
theorem existsUnique_position (w : Window) {i j : Nat} (hi : i < windowEntries w) (hj : j < windowFields w) :
    ∃! p, p < windowLength w ∧ windowCell w p = (w.firstEntry + i, w.firstField + j) := by
  cases order : w.fieldMajor with
  | false =>
    simp only [windowCell_entryMajor order, windowLength, Prod.mk.injEq, Nat.add_left_cancel_iff]
    exact existsUnique_line_place hi hj
  | true =>
    simp only [windowCell_fieldMajor order, windowLength, Prod.mk.injEq, Nat.add_left_cancel_iff,
      Nat.mul_comm (windowEntries w), and_comm (a := _ % _ = i)]
    exact existsUnique_line_place hj hi

theorem existsUnique_position_of_mem (w : Window) {e f : Nat} (he : w.firstEntry ≤ e) (he' : e ≤ w.lastEntry)
    (hf : w.firstField ≤ f) (hf' : f ≤ w.lastField) :
    ∃! p, p < windowLength w ∧ windowCell w p = (e, f) := by
  obtain ⟨i, rfl⟩ := Nat.exists_eq_add_of_le he
  obtain ⟨j, rfl⟩ := Nat.exists_eq_add_of_le hf
  exact existsUnique_position w (by unfold windowEntries; omega) (by unfold windowFields; omega)

/-- Settles O42: the six words are taken or refused by `SoundBounds`, and the walk is division with
remainder by the length of a line. -/
theorem setWindowTakesSoundBounds : Obligations.SetWindowTakesSoundBounds := by
  unfold Obligations.SetWindowTakesSoundBounds
  refine ⟨fun s f b here => ⟨?_, fun out => ?_⟩, commitsAs_setWindow, commitsAs_notExecuted, ?_⟩
  · intro t ht words entry field entries fields order wrap
    have taken := setWindow_takesPlainly here
    rwa [judgeSetWindow_of_sound ht ⟨words, entry, field, entries, fields, order, wrap⟩] at taken
  · have unsound : ∀ t, tableOf b.argument.toNat = some t → ¬ SoundBounds t b := by
      rintro t ht ⟨words, entry, field, entries, fields, order, wrap⟩
      rcases out with noTable | few | ⟨t', ht', beyond⟩ | outside
      · rw [(tableOf_eq_none_iff _).2 noTable] at ht
        cases ht
      · omega
      · obtain rfl : t = t' := Option.some.inj (ht.symm.trans ht')
        omega
      · omega
    have taken := setWindow_takesPlainly here
    rwa [judgeSetWindow_of_not_sound unsound] at taken
  · intro w _ _
    exact ⟨rfl, fun e f he he' hf hf' => existsUnique_position_of_mem w he he' hf hf',
      windowCell_entryMajor, windowCell_fieldMajor⟩

end Sys2Proof.Machine
end

section
/-! What one instant can do (R25): the turns a channel, its gates and the Trace Unit can take between one period
start and the next commit, and that every operation of an instant is made of such turns. The invariants of every
step are read off the turns. -/

namespace Sys2Proof.Machine

open Sys2Proof Relation

/-! ## Turns of one channel and its gates -/

/-- What one event of a sample event makes of a channel and its gates (R25, R10, R16, R82, R112). -/
inductive WalkTurn : Channel × Gate → Channel × Gate → Prop
  | sampled (e : LoopEnv) (x : SenseIn) (ch : Channel) (g : Gate) :
      WalkTurn (ch, g) (regulate e x (beforeReferences x ch), g)
  | faulted (k : Cause) (more : Word) (ia ib : Int) (vbus stamp t : Nat) (ch : Channel) (g : Gate)
      (h : drives ch.state = true) :
      WalkTurn (ch, g) (toFault k more ia ib vbus stamp ch, gateSwitchOff t g)
  | later (k : Cause) (ch : Channel) (g : Gate) (h : ch.state = .fault) (hk : k ≠ .refLoss) :
      WalkTurn (ch, g) (laterFault k ch, g)
  | ramped (refLoss partner : Bool) (ch : Channel) (g : Gate) (h : runOrHold ch.state = true) :
      WalkTurn (ch, g) (toRampdown refLoss partner ch, g)
  | pended (ch : Channel) (g : Gate) (h : ch.state = .rampdown) :
      WalkTurn (ch, g) ({ ch with pendPartner := true }, g)

/-- What one event of an instant makes of a channel and its gates: besides those of the sample event, the end
of a rampdown (R11), a calibration (R15) and a bank switch (R99). -/
inductive Turn : Channel × Gate → Channel × Gate → Prop
  | walk {a b : Channel × Gate} (h : WalkTurn a b) : Turn a b
  | readied (t : Nat) (ch : Channel) (g : Gate) (h : ch.state = .rampdown) :
      Turn (ch, g) (toReady ch, gateSwitchOff t g)
  | calibrated (oa ob : Int) (ch : Channel) (g : Gate) (h : ch.state = .calibrate) :
      Turn (ch, g) ({ ch with state := .ready, calibrated := true, offA := oa, offB := ob }, g)
  | offsetRefused (ia ib : Int) (vbus stamp t : Nat) (ch : Channel) (g : Gate) (h : ch.state = .calibrate) :
      Turn (ch, g)
        (toFault .offsetRange 0 ia ib vbus stamp { ch with offA := 0, offB := 0, calibrated := false },
          gateSwitchOff t g)
  | banded (sch : Schedule) (ch : Channel) (g : Gate) : Turn (ch, g) (clampBand sch ch, g)

/-- What one event of an instant makes of the Trace Unit (R173, R174, R176). -/
inductive TraceTurn : TraceUnit → TraceUnit → Prop
  | fault (c : Chan) (u : TraceUnit) : TraceTurn u (faultTrigger c u)
  | sample (last : Chan → LastResults) (u : TraceUnit) : TraceTurn u (traceSample last u)
  | armed (u : TraceUnit) : TraceTurn u (enterArmed u)
  | complete (u : TraceUnit) : TraceTurn u (completeSegment u)

/-! ## Turns of the whole state -/

/-- Two states agree on everything that no event of an instant changes. -/
structure InstantKeeps (s t : State) : Prop where
  now : t.now = s.now
  resetLow : t.resetLow = s.resetLow
  inhnLow : t.inhnLow = s.inhnLow
  address : t.address = s.address
  phase : t.phase = s.phase
  station : t.station = s.station
  carrier : t.carrier = s.carrier
  sense : t.sense = s.sense
  staged : t.staged = s.staged
  pairs : t.pairs = s.pairs
  timer : t.timer = s.timer
  counters : t.counters = s.counters
  slotMap : t.slotMap = s.slotMap
  latches : t.latches = s.latches
  prevControl : t.prevControl = s.prevControl
  port : t.port = s.port
  freeUsed : t.freeUsed = s.freeUsed
  pending : t.pending = s.pending

theorem InstantKeeps.refl (s : State) : InstantKeeps s s := by constructor <;> rfl

theorem InstantKeeps.trans {a b c : State} (h : InstantKeeps a b) (k : InstantKeeps b c) : InstantKeeps a c where
  now := k.now.trans h.now
  resetLow := k.resetLow.trans h.resetLow
  inhnLow := k.inhnLow.trans h.inhnLow
  address := k.address.trans h.address
  phase := k.phase.trans h.phase
  station := k.station.trans h.station
  carrier := k.carrier.trans h.carrier
  sense := k.sense.trans h.sense
  staged := k.staged.trans h.staged
  pairs := k.pairs.trans h.pairs
  timer := k.timer.trans h.timer
  counters := k.counters.trans h.counters
  slotMap := k.slotMap.trans h.slotMap
  latches := k.latches.trans h.latches
  prevControl := k.prevControl.trans h.prevControl
  port := k.port.trans h.port
  freeUsed := k.freeUsed.trans h.freeUsed
  pending := k.pending.trans h.pending

theorem SampleKeeps.toInstantKeeps {s t : State} (h : SampleKeeps s t) : InstantKeeps s t where
  now := h.now
  resetLow := h.resetLow
  inhnLow := h.inhnLow
  address := h.address
  phase := h.phase
  station := h.station
  carrier := h.carrier
  sense := h.sense
  staged := h.staged
  pairs := h.pairs
  timer := h.timer
  counters := h.counters
  slotMap := h.slotMap
  latches := h.latches
  prevControl := h.prevControl
  port := h.port
  freeUsed := h.freeUsed
  pending := h.pending

/-- From `s` to `t` events of a sample event alone have come about. -/
structure WalkTurned (s t : State) : Prop where
  keeps : SampleKeeps s t
  turns : ∀ d, ReflTransGen WalkTurn (s.chan d, s.gate d) (t.chan d, t.gate d)
  trace : ReflTransGen TraceTurn s.trace t.trace

/-- From `s` to `t` events of one instant have come about. -/
structure Turned (s t : State) : Prop where
  keeps : InstantKeeps s t
  turns : ∀ d, ReflTransGen Turn (s.chan d, s.gate d) (t.chan d, t.gate d)
  trace : ReflTransGen TraceTurn s.trace t.trace

theorem WalkTurned.refl (s : State) : WalkTurned s s := ⟨.refl s, fun _ => .refl, .refl⟩

theorem WalkTurned.trans {a b c : State} (h : WalkTurned a b) (k : WalkTurned b c) : WalkTurned a c :=
  ⟨h.keeps.trans k.keeps, fun d => (h.turns d).trans (k.turns d), h.trace.trans k.trace⟩

theorem WalkTurned.turned {s t : State} (h : WalkTurned s t) : Turned s t :=
  ⟨h.keeps.toInstantKeeps, fun d => (h.turns d).lift id fun _ _ => .walk, h.trace⟩

theorem Turned.refl (s : State) : Turned s s := (WalkTurned.refl s).turned

theorem Turned.trans {a b c : State} (h : Turned a b) (k : Turned b c) : Turned a c :=
  ⟨h.keeps.trans k.keeps, fun d => (h.turns d).trans (k.turns d), h.trace.trans k.trace⟩

/-- A fold of operations made of turns is made of turns. -/
theorem foldl_turned {α : Type} {f : State → α → State} (h : ∀ s a, Turned s (f s a)) (l : List α) (s : State) :
    Turned s (l.foldl f s) := by
  induction l generalizing s with
  | nil => exact .refl s
  | cons a l ih => exact (h s a).trans (ih _)

/-- A state that differs in no channel, gate or trace is reached by no turn at all. -/
theorem walkTurned_of_same {s t : State} (k : SampleKeeps s t) (hc : ∀ d, t.chan d = s.chan d)
    (hg : ∀ d, t.gate d = s.gate d) (ht : t.trace = s.trace) : WalkTurned s t :=
  ⟨k, fun d => by rw [hc, hg], by rw [ht]⟩

theorem withMoment_turned (s : State) (m : Option InstantWork) : WalkTurned s (s.withMoment m) :=
  walkTurned_of_same (withMoment_keeps s m) (fun _ => rfl) (fun _ => rfl) rfl

theorem withTrace_turned {s : State} {u : TraceUnit} (h : TraceTurn s.trace u) : WalkTurned s (s.withTrace u) :=
  ⟨withTrace_keeps s u, fun _ => .refl, .single h⟩

theorem modChan_turned {s : State} {c : Chan} {f : Channel → Channel}
    (h : WalkTurn (s.chan c, s.gate c) (f (s.chan c), s.gate c)) : WalkTurned s (s.modChan c f) := by
  refine ⟨modChan_keeps s c f, fun d => ?_, .refl⟩
  by_cases e : d = c
  · subst e; rw [State.modChan_chan_same, State.modChan_gate]; exact .single h
  · rw [State.modChan_chan_other s f e, State.modChan_gate]

/-! ## Faults, reactions and rampdowns -/

theorem enterRampdown_turned {s : State} {c : Chan} (h : runOrHold (s.chan c).state = true) (r p : Bool) :
    WalkTurned s (enterRampdown c r p s) := by
  have own := modChan_turned (.ramped r p _ (s.gate c) h)
  unfold enterRampdown; dsimp only
  split
  · next takesAlong =>
    exact own.trans (modChan_turned (.ramped r false _ _ (Bool.and_eq_true_iff.1 takesAlong).2))
  · exact own

theorem partnerReact_turned (c : Chan) (s : State) : WalkTurned s (partnerReact c s) := by
  unfold partnerReact
  cases e : (s.chan c).state with
  | run => exact enterRampdown_turned (by rw [e]; rfl) _ _
  | hold => exact enterRampdown_turned (by rw [e]; rfl) _ _
  | rampdown => exact modChan_turned (.pended _ _ e)
  | fault => exact modChan_turned (.later .partner _ _ e nofun)
  | off | calibrate | ready => exact .refl s

theorem tellPartner_turned (c : Chan) (s : State) : WalkTurned s (tellPartner c s) := by
  unfold tellPartner
  split
  · exact partnerReact_turned _ s
  · exact .refl s

theorem enterFaultAlone_gate_other (s : State) {c d : Chan} (h : d ≠ c) (k : Cause) (more : Word) (ia ib : Int)
    (v : Nat) : (enterFaultAlone c k more ia ib v s).gate d = s.gate d := by
  simp [enterFaultAlone, State.modGate_gate_other _ _ h]

theorem enterFaultAlone_turned {s : State} {c : Chan} (h : drives (s.chan c).state = true) (k : Cause)
    (more : Word) (ia ib : Int) (v : Nat) : WalkTurned s (enterFaultAlone c k more ia ib v s) := by
  refine ⟨enterFaultAlone_keeps .., fun d => ?_, .single (.fault c _)⟩
  by_cases e : d = c
  · subst e
    rw [enterFaultAlone_chan_same, enterFaultAlone_gate_same]
    exact .single (.faulted k more ia ib v _ _ _ _ h)
  · rw [enterFaultAlone_chan_other s e, enterFaultAlone_gate_other s e]

theorem enterFault_turned {s : State} {c : Chan} (h : drives (s.chan c).state = true) (k : Cause) (more : Word)
    (ia ib : Int) (v : Nat) : WalkTurned s (enterFault c k more ia ib v s) :=
  (enterFaultAlone_turned h k more ia ib v).trans (tellPartner_turned c _)

theorem detectAlone_turned {k : Cause} (hk : k ≠ .refLoss) (c : Chan) (s : State) :
    WalkTurned s (detectAlone c k s) := by
  unfold detectAlone
  cases e : (s.chan c).state with
  | run | hold | rampdown => exact enterFaultAlone_turned (by rw [e]; rfl) ..
  | fault => exact modChan_turned (.later k _ _ e hk)
  | off | calibrate | ready => exact .refl s

/-! ## The sample event -/

theorem regulate_state (e : LoopEnv) (x : SenseIn) (ch : Channel) : (regulate e x ch).state = ch.state := rfl

theorem beforeReferences_state (x : SenseIn) (ch : Channel) : (beforeReferences x ch).state = ch.state := by
  unfold beforeReferences rampStep angleStep accumulate
  dsimp only
  repeat' split
  all_goals rfl

/-- The sample event of a channel leaves its state (R25). -/
theorem sampledChannel_state (s : State) (v : Nat) (c : Chan) :
    (sampledChannel s v c).state = (s.chan c).state := beforeReferences_state _ _

theorem setSampled_turned (v : Nat) (c : Chan) (s : State) : WalkTurned s (s.setChan c (sampledChannel s v c)) :=
  modChan_turned (f := fun _ => sampledChannel s v c) (.sampled _ _ _ _)

theorem sampleChannel_turned (v : Nat) (c : Chan) (s : State) : WalkTurned s (sampleChannel v c s) := by
  have sampled := setSampled_turned v c s
  have driven (h : drives (s.chan c).state = true) :
      drives ((s.setChan c (sampledChannel s v c)).chan c).state = true := by
    rwa [State.setChan_chan_same, sampledChannel_state]
  unfold sampleChannel; dsimp only
  split
  · next range => exact sampled.trans (enterFault_turned (driven (Bool.and_eq_true_iff.1 range).1) ..)
  · split
    · next trip => exact sampled.trans (enterFault_turned (driven (Bool.and_eq_true_iff.1 trip).1) ..)
    · split
      · exact sampled.trans (withMoment_turned ..)
      · exact sampled

theorem takeItem_turned (v : Nat) (i : WalkItem) (s : State) : WalkTurned s (takeItem v i s) := by
  cases i with
  | sample c => exact sampleChannel_turned v c s
  | record => exact withTrace_turned (.sample _ _)

theorem runWalk_turned (v : Nat) (l : List WalkItem) (s : State) : WalkTurned s (runWalk v l s) := by
  induction l generalizing s with
  | nil => exact withMoment_turned s none
  | cons i l ih =>
    have item := (withMoment_turned s (s.moment.map (beginWalk l))).trans (takeItem_turned v i _)
    unfold runWalk; dsimp only
    split
    · exact item
    · split
      · exact item
      · exact item.trans (ih _)

/-- What is left of a sample event is made of turns. -/
theorem resume_turned (s : State) : WalkTurned s (resume s) := by
  unfold resume
  split
  · exact .refl s
  · split
    · exact .refl s
    · exact runWalk_turned _ _ s

/-! ## The other work of an instant -/

theorem dropRampEnd_turned (c : Chan) (s : State) : WalkTurned s (dropRampEnd c s) := withMoment_turned s _

theorem detectAngle_turned (c : Chan) (s : State) : WalkTurned s (detectAngle c s) := by
  unfold detectAngle; dsimp only
  cases e : (s.chan c).state with
  | run | hold | rampdown => exact enterFault_turned (by rw [e]; rfl) ..
  | fault => exact modChan_turned (.later .angleLost _ _ e nofun)
  | off | calibrate | ready => exact .refl s

theorem takeAngle_turned (s : State) : WalkTurned s (takeAngle s) := by
  unfold takeAngle
  split
  · exact .refl s
  · split
    · exact .refl s
    · exact (withMoment_turned s _).trans (detectAngle_turned _ _)

theorem gateSwitchOff_idem (t : Nat) (g : Gate) : gateSwitchOff t (gateSwitchOff t g) = gateSwitchOff t g := rfl

theorem rampOut_iff (ch : Channel) : rampOut ch = true ↔ ch.state = .rampdown ∧ ch.rampComplete = true := by
  simp [rampOut]

/-- A switch-off before a FAULT entry of the same tick shows in nothing (R58, R59). -/
theorem enterFaultAlone_switchedOff (c : Chan) (k : Cause) (more : Word) (ia ib : Int) (v : Nat) (s : State) :
    enterFaultAlone c k more ia ib v (s.modGate c (gateSwitchOff s.now)) = enterFaultAlone c k more ia ib v s := by
  have gates (s : State) (c : Chan) (f : Gate → Gate) (h : ∀ g, f (f g) = f g) :
      (s.modGate c f).modGate c f = s.modGate c f := by
    unfold State.modGate State.setGate State.gate
    simp [h]
  have idem := gates (s.modChan c (toFault k more ia ib v s.timer.stamp)) c (gateSwitchOff s.now)
    (gateSwitchOff_idem s.now)
  unfold enterFaultAlone
  dsimp only
  exact congrArg (fun u : State => u.withTrace (faultTrigger c u.trace)) idem

theorem endRampdownAlone_turned (c : Chan) (s : State) : Turned s (endRampdownAlone c s) := by
  unfold endRampdownAlone; dsimp only
  split
  · next out =>
    have ramp := ((rampOut_iff _).1 out).1
    have driven : drives (s.chan c).state = true := by rw [ramp]; rfl
    split
    · rw [enterFaultAlone_switchedOff]; exact (enterFaultAlone_turned driven ..).turned
    · split
      · rw [enterFaultAlone_switchedOff]; exact (enterFaultAlone_turned driven ..).turned
      · refine ⟨((modGate_keeps s c _).trans (modChan_keeps _ c _)).toInstantKeeps, fun d => ?_, .refl⟩
        by_cases e : d = c
        · subst e; simpa using .single (.readied _ _ _ ramp)
        · simp [State.modChan_chan_other _ _ e, State.modGate_gate_other _ _ e, ReflTransGen.refl]
  · exact .refl s

theorem takeRampEnd_turned (c : Chan) (s : State) : Turned s (takeRampEnd c s) := by
  unfold takeRampEnd; dsimp only
  split
  · have ended := (dropRampEnd_turned c s).turned.trans (endRampdownAlone_turned c _)
    split
    · exact ended.trans (tellPartner_turned c _).turned
    · exact ended
  · exact .refl s

theorem takePairEvent_turned {k : Cause} (hk : k ≠ .refLoss) (p : Fin 4) (r : PairRun) (e : PairEvent) :
    Turned r.state (takePairEvent p k r e).state := by
  unfold takePairEvent
  cases e with
  | detect odd =>
    dsimp only
    split
    · exact (detectAlone_turned hk _ _).turned
    · exact .refl _
  | react odd =>
    dsimp only
    split
    · exact (partnerReact_turned _ _).turned
    · exact .refl _
  | rampEnd odd =>
    dsimp only
    split
    · exact (dropRampEnd_turned _ _).turned.trans (endRampdownAlone_turned _ _)
    · exact .refl _

theorem pairEvents_turned {k : Cause} (hk : k ≠ .refLoss) (p : Fin 4) (l : List PairEvent) (r : PairRun) :
    Turned r.state (l.foldl (takePairEvent p k) r).state := by
  induction l generalizing r with
  | nil => exact .refl _
  | cons e l ih => exact (takePairEvent_turned hk p r e).trans (ih _)

theorem detectPair_turned {k : Cause} (hk : k ≠ .refLoss) (o : PairOrder) (p : Fin 4) (s : State) :
    Turned s (detectPair o p k s) := pairEvents_turned hk p _ ⟨s, [.detect false, .detect true]⟩

theorem detectAll_turned {k : Cause} (hk : k ≠ .refLoss) (o : PairOrders) (s : State) :
    Turned s (detectAll o k s) := foldl_turned (fun s p => detectPair_turned hk o[p] p s) _ s

theorem changeBus_turned (o : PairOrders) (s : State) : Turned s (changeBus o s) := by
  unfold changeBus
  split
  · have moved : Turned s { s with bus := { s.bus with state := s.bus.candidate, count := 0 } } :=
      ⟨by constructor <;> rfl, fun _ => .refl, .refl⟩
    dsimp only
    split
    · exact moved
    · exact moved.trans (detectAll_turned (k := .busUnder) nofun o _)
    · exact moved.trans (detectAll_turned (k := .busOver) nofun o _)
  · exact .refl s

theorem takeTimeout_turned (s : State) : Turned s (takeTimeout s) := by
  unfold takeTimeout
  split
  · exact .refl s
  · split
    · exact ⟨by constructor <;> rfl, fun _ => .refl, .refl⟩
    · exact .refl s

theorem withCommit_turned (s : State) (b : BankCommit) : Turned s (s.withCommit b) :=
  ⟨by constructor <;> rfl, fun _ => .refl, .refl⟩

theorem takeValidation_turned (s : State) : Turned s (takeValidation s) := by
  unfold takeValidation
  split
  · exact .refl s
  · split
    · dsimp only
      split
      · rw [completeValidation_commit_only]
        exact (withMoment_turned s _).turned.trans (withCommit_turned _ _)
      · exact (withMoment_turned s _).turned
    · exact .refl s

theorem switchBanks_turned (s : State) : Turned s (switchBanks s) := by
  refine ⟨by constructor <;> rfl, fun d => ?_, .refl⟩
  unfold switchBanks
  rw [State.withCommit_chan, State.mapChans_chan, State.withCommit_gate, State.mapChans_gate]
  exact .single (.banded _ _ _)

theorem takeSwitch_turned (s : State) : Turned s (takeSwitch s) := by
  unfold takeSwitch
  split
  · exact .refl s
  · split
    · dsimp only
      split
      · exact (withMoment_turned s _).turned.trans (switchBanks_turned _)
      · exact (withMoment_turned s _).turned
    · exact .refl s

theorem calibrationDue_iff (ch : Channel) : calibrationDue ch = true ↔ ch.state = .calibrate ∧ ch.calCount = 64 := by
  simp [calibrationDue]

theorem completeCalibration_turned (c : Chan) (s : State) : Turned s (completeCalibration c s) := by
  unfold completeCalibration; dsimp only
  split
  · next due =>
    have calibrating := ((calibrationDue_iff _).1 due).1
    split
    · refine ⟨(modChan_keeps s c _).toInstantKeeps, fun d => ?_, .refl⟩
      by_cases e : d = c
      · subst e; rw [State.modChan_chan_same]; exact .single (.calibrated _ _ _ _ calibrating)
      · rw [State.modChan_chan_other s _ e, State.modChan_gate]
    · refine Turned.trans ?_ (tellPartner_turned c _).turned
      refine ⟨((modChan_keeps s c _).trans (enterFaultAlone_keeps ..)).toInstantKeeps, fun d => ?_,
        .single (.fault c _)⟩
      by_cases e : d = c
      · subst e
        rw [enterFaultAlone_chan_same, enterFaultAlone_gate_same, State.modChan_chan_same]
        exact .single (.offsetRefused _ _ _ _ _ _ _ calibrating)
      · rw [enterFaultAlone_chan_other _ e, enterFaultAlone_gate_other _ e, State.modChan_chan_other s _ e,
          State.modChan_gate]
  · exact .refl s

theorem traceEnds_turned (s : State) :
    WalkTurned s (s.withTrace (completeSegment (enterArmed s.trace))) :=
  ⟨withTrace_keeps s _, fun _ => .refl,
    .trans (.single (.armed s.trace)) (.single (.complete (enterArmed s.trace)))⟩

theorem takeDue_turned (s : State) : Turned s (takeDue s) := by
  have timeout := takeTimeout_turned s
  have ends := timeout.trans (foldl_turned (fun s c => takeRampEnd_turned c s) allChans _)
  have bus := ends.trans (changeBus_turned (Vector.replicate 4 []) _)
  have banks := (bus.trans (takeValidation_turned _)).trans (takeSwitch_turned _)
  have angle := banks.trans (takeAngle_turned _).turned
  have calibrations := angle.trans (foldl_turned (fun s c => completeCalibration_turned c s) allChans _)
  exact calibrations.trans (traceEnds_turned _).turned

theorem settle_turned (s : State) : Turned s (settle s) := by
  unfold settle
  split
  · exact .refl s
  · refine (((takeDue_turned s).trans (withMoment_turned _ _).turned).trans
      (foldl_turned (fun s i => ?_) _ _)).trans (withMoment_turned _ none).turned
    exact (takeItem_turned _ i s).turned.trans (takeDue_turned _)

theorem finishSample_turned (s : State) : Turned s (finishSample s) := by
  unfold finishSample
  split
  · exact .refl s
  · split
    · exact settle_turned s
    · exact .refl s

end Sys2Proof.Machine
end

section
/-! What a commit can do (R4, R122, R155): the orders a channel, its gates and the Trace Unit can take, and that
the Slot Engine's part, every command and a miss are made of such orders. -/

namespace Sys2Proof.Machine

open Sys2Proof Relation

/-! ## Orders -/

/-- What one step of a commit, a miss or a completed computation makes of a channel and its gates (R4 to R10,
R13, R18, R21, R25, R55, R69, R85, R99, R160). -/
inductive Order : Channel × Gate → Channel × Gate → Prop
  | returned (ch : Channel) (g : Gate) : Order (ch, g) (holdReturn ch, g)
  | cleared (s : State) (ch : Channel) (g : Gate) : Order (ch, g) (clearRequest s ch, g)
  | calibrating (ch : Channel) (g : Gate) : Order (ch, g) (calibrationRequest ch, g)
  | refused (ch : Channel) (g : Gate) : Order (ch, g) (refuseEnable ch, g)
  | run (sch : Schedule) (ch : Channel) (g : Gate) (h : ch.state = .ready) :
      Order (ch, g) (toRun sch ch, gateEnable g)
  | ramped (refLoss partner : Bool) (ch : Channel) (g : Gate) (h : runOrHold ch.state = true) :
      Order (ch, g) (toRampdown refLoss partner ch, g)
  | acked (ch : Channel) (g : Gate) : Order (ch, g) (ackNotice ch, g)
  | missed (atLimit : Bool) (ch : Channel) (g : Gate) : Order (ch, g) (missTaken atLimit ch, g)
  | written (f : Nat) (w : Word) (ch : Channel) (g : Gate) : Order (ch, g) (writeChannel f w ch, g)
  | published (r : LastResults) (ch : Channel) (g : Gate) :
      Order (ch, g) ({ ch with last := r, comp := none }, g)
  | handed (tr : Triple) (ch : Channel) (g : Gate) (h : drives ch.state = true) :
      Order (ch, g) (ch, gateHandOn tr g)
  | reset (t : Nat) (ch : Channel) (g : Gate) : Order (ch, g) ({}, gateSwitchOff t g)

/-- What one step of a commit makes of the Trace Unit (R171, R172, R174, R177). -/
inductive TraceOrder : TraceUnit → TraceUnit → Prop
  | control (c : Chan) (u : TraceUnit) : TraceOrder u (controlTrigger c u)
  | configured (x : TraceCfg) (u : TraceUnit) : TraceOrder u { u with cfg := clampPreCount x }
  | arm (u : TraceUnit) : TraceOrder u (armTrace u)
  | stop (u : TraceUnit) : TraceOrder u (stopTrace u)
  | trigger (u : TraceUnit) : TraceOrder u (takeTrigger u)
  | reset (u : TraceUnit) : TraceOrder u (resetTrace u)

/-- From `s` to `t` steps of a commit alone have been taken: time, pins, address, carrier, presented values,
frames and the queue stay, and no link counter rises above its bound. -/
structure Ordered (s t : State) : Prop where
  now : t.now = s.now
  resetLow : t.resetLow = s.resetLow
  inhnLow : t.inhnLow = s.inhnLow
  address : t.address = s.address
  carrier : t.carrier = s.carrier
  sense : t.sense = s.sense
  port : t.port = s.port
  pending : t.pending = s.pending
  orders : ∀ d, ReflTransGen Order (s.chan d, s.gate d) (t.chan d, t.gate d)
  trace : ReflTransGen TraceOrder s.trace t.trace
  counters : s.counters.bounded = true → t.counters.bounded = true

theorem Ordered.trans {a b c : State} (h : Ordered a b) (k : Ordered b c) : Ordered a c where
  now := k.now.trans h.now
  resetLow := k.resetLow.trans h.resetLow
  inhnLow := k.inhnLow.trans h.inhnLow
  address := k.address.trans h.address
  carrier := k.carrier.trans h.carrier
  sense := k.sense.trans h.sense
  port := k.port.trans h.port
  pending := k.pending.trans h.pending
  orders d := (h.orders d).trans (k.orders d)
  trace := h.trace.trans k.trace
  counters := fun b => k.counters (h.counters b)

/-- Steps that leave all but channels, gates and the Trace Unit. -/
theorem ordered_of_keeps {s t : State} (k : SampleKeeps s t)
    (orders : ∀ d, ReflTransGen Order (s.chan d, s.gate d) (t.chan d, t.gate d))
    (trace : ReflTransGen TraceOrder s.trace t.trace) : Ordered s t where
  now := k.now
  resetLow := k.resetLow
  inhnLow := k.inhnLow
  address := k.address
  carrier := k.carrier
  sense := k.sense
  port := k.port
  pending := k.pending
  orders := orders
  trace := trace
  counters := by rw [k.counters]; exact id

theorem Ordered.refl (s : State) : Ordered s s := ordered_of_keeps (.refl s) (fun _ => .refl) .refl

theorem foldl_ordered {α : Type} {f : State → α → State} (h : ∀ s a, Ordered s (f s a)) (l : List α) (s : State) :
    Ordered s (l.foldl f s) := by
  induction l generalizing s with
  | nil => exact .refl s
  | cons a l ih => exact (h s a).trans (ih _)

theorem modChan_ordered {s : State} {c : Chan} {f : Channel → Channel}
    (h : Order (s.chan c, s.gate c) (f (s.chan c), s.gate c)) : Ordered s (s.modChan c f) := by
  refine ordered_of_keeps (modChan_keeps s c f) (fun d => ?_) .refl
  by_cases e : d = c
  · subst e; rw [State.modChan_chan_same, State.modChan_gate]; exact .single h
  · rw [State.modChan_chan_other s f e, State.modChan_gate]

theorem mapChans_ordered {s : State} {f : Chan → Channel → Channel}
    (h : ∀ c, ReflTransGen Order (s.chan c, s.gate c) (f c (s.chan c), s.gate c)) : Ordered s (s.mapChans f) :=
  ordered_of_keeps (mapChans_keeps s f) (fun d => by rw [State.mapChans_chan, State.mapChans_gate]; exact h d) .refl

theorem withTrace_ordered {s : State} {u : TraceUnit} (h : TraceOrder s.trace u) : Ordered s (s.withTrace u) :=
  ordered_of_keeps (withTrace_keeps s u) (fun _ => .refl) (.single h)

theorem withService_ordered (s : State) (u : ServiceUnit) : Ordered s (s.withService u) :=
  ⟨rfl, rfl, rfl, rfl, rfl, rfl, rfl, rfl, fun _ => .refl, .refl, id⟩

/-! ## The commit sequence (R4) -/

theorem enterRampdown_ordered {s : State} {c : Chan} (h : runOrHold (s.chan c).state = true) (r p : Bool) :
    Ordered s (enterRampdown c r p s) := by
  have own := modChan_ordered (.ramped r p _ (s.gate c) h)
  unfold enterRampdown; dsimp only
  split
  · next takesAlong =>
    exact own.trans (modChan_ordered (.ramped r false _ _ (Bool.and_eq_true_iff.1 takesAlong).2))
  · exact own

theorem commitSteps123_orders (s : State) (p n : Control) (ch : Channel) (g : Gate) :
    ReflTransGen Order (ch, g) (commitSteps123 s p n ch, g) := by
  have returned : ReflTransGen Order (ch, g) (holdReturn ch, g) := .single (.returned ch g)
  unfold commitSteps123; dsimp only
  split <;> split
  · exact (returned.tail (.cleared s _ g)).tail (.calibrating _ g)
  · exact returned.tail (.calibrating _ g)
  · exact returned.tail (.cleared s _ g)
  · exact returned

theorem enterRun_chan_same (c : Chan) (s : State) :
    (enterRun c s).chan c = toRun s.active.scheds[c] (s.chan c) := by
  unfold enterRun; rw [State.modGate_chan, State.modChan_chan_same]

theorem enterRun_chan_other (s : State) {c d : Chan} (h : d ≠ c) : (enterRun c s).chan d = s.chan d := by
  unfold enterRun; rw [State.modGate_chan, State.modChan_chan_other s _ h]

theorem enterRun_gate_same (c : Chan) (s : State) : (enterRun c s).gate c = gateEnable (s.gate c) := by
  unfold enterRun; rw [State.modGate_gate_same, State.modChan_gate]

theorem enterRun_gate_other (s : State) {c d : Chan} (h : d ≠ c) : (enterRun c s).gate d = s.gate d := by
  unfold enterRun; rw [State.modGate_gate_other _ _ h, State.modChan_gate]

theorem enterRun_ordered {s : State} {c : Chan} (h : (s.chan c).state = .ready) : Ordered s (enterRun c s) := by
  refine ordered_of_keeps (enterRun_keeps c s) (fun d => ?_) .refl
  by_cases e : d = c
  · subst e; rw [enterRun_chan_same, enterRun_gate_same]; exact .single (.run _ _ _ h)
  · rw [enterRun_chan_other s e, enterRun_gate_other s e]

theorem partnerOf_ne (c : Chan) : partnerOf c ≠ c := by revert c; decide

/-- A leader in READY enters RUN only with its follower in READY (R5, R109). -/
theorem partner_ready_of_runAllowed {s : State} {c : Chan} {ctl : Control} (h : runAllowed s c ctl = true)
    (leads : pairedLeader s c = true) : (s.chan (partnerOf c)).state = .ready := by
  simp [runAllowed, leads] at h
  exact h.2.1

theorem startRun_ordered {s : State} {c : Chan} {ctl : Control} (h : (s.chan c).state = .ready)
    (allowed : runAllowed s c ctl = true) : Ordered s (startRun c s) := by
  unfold startRun
  split
  · next leads =>
    have ready := partner_ready_of_runAllowed allowed leads
    exact (enterRun_ordered h).trans (enterRun_ordered (by rwa [enterRun_chan_other s (partnerOf_ne c)]))
  · exact enterRun_ordered h

theorem takeEnable_ordered (c : Chan) (n : Control) (s : State) : Ordered s (takeEnable c n s) := by
  unfold takeEnable
  cases e : (s.chan c).state with
  | ready =>
    dsimp only
    split
    · next allowed => exact startRun_ordered e allowed
    · exact modChan_ordered (.refused _ _)
  | run | hold => exact .refl s
  | off | calibrate | rampdown | fault => exact modChan_ordered (.refused _ _)

theorem commitStep4_ordered (c : Chan) (p n : Control) (s : State) : Ordered s (commitStep4 c p n s) := by
  have enabled : Ordered s (if rising (enableBit p) (enableBit n) then takeEnable c n s else s) := by
    split
    · exact takeEnable_ordered c n s
    · exact .refl s
  unfold commitStep4; dsimp only
  generalize (if rising (enableBit p) (enableBit n) then takeEnable c n s else s) = s1 at enabled ⊢
  split
  · next stops => exact enabled.trans (enterRampdown_ordered (by rw [stops.1]; rfl) _ _)
  · exact enabled

theorem commitStep5_ordered (c : Chan) (p n : Control) (s : State) : Ordered s (commitStep5 c p n s) := by
  have acked : Ordered s (if rising (noticeAckBit p) (noticeAckBit n) then s.modChan c ackNotice else s) := by
    split
    · exact modChan_ordered (.acked _ _)
    · exact .refl s
  unfold commitStep5; dsimp only
  generalize (if rising (noticeAckBit p) (noticeAckBit n) then s.modChan c ackNotice else s) = s1 at acked ⊢
  split
  · exact acked.trans (withTrace_ordered (.control c _))
  · exact acked

theorem commitSequence_ordered (p n : Chan → Control) (s : State) : Ordered s (commitSequence p n s) :=
  ((mapChans_ordered fun c => commitSteps123_orders s (p c) (n c) _ _).trans
    (foldl_ordered (fun s c => commitStep4_ordered c (p c) (n c) s) allChans _)).trans
    (foldl_ordered (fun s c => commitStep5_ordered c (p c) (n c) s) allChans _)

theorem applyLatch_ordered (s : State) (x : LatchWrite) : Ordered s (applyLatch s x) := by
  cases x <;> exact ⟨rfl, rfl, rfl, rfl, rfl, rfl, rfl, rfl, fun _ => .refl, .refl, id⟩

theorem commitSlots_ordered (xs : List LatchWrite) (s : State) : Ordered s (commitSlots xs s) := by
  have sequence := (foldl_ordered applyLatch_ordered xs s).trans
    (commitSequence_ordered (xs.foldl applyLatch s).prevCtrl (fun c => ((xs.foldl applyLatch s).latch c).control) _)
  unfold commitSlots; dsimp only
  exact ⟨sequence.now, sequence.resetLow, sequence.inhnLow, sequence.address, sequence.carrier, sequence.sense,
    sequence.port, sequence.pending, sequence.orders, sequence.trace, sequence.counters⟩

/-! ## Misses and computations -/

theorem announceMiss_ordered (atLimit : Bool) (s : State) : Ordered s (announceMiss atLimit s) := by
  rw [announceMiss_eq]
  exact mapChans_ordered fun c => .single (.missed atLimit _ _)

theorem completeComputation_ordered (c : Chan) (s : State) : Ordered s (completeComputation c s) := by
  unfold completeComputation; dsimp only
  split
  · exact .refl s
  · next k _ =>
    have published : Ordered s
        (s.setChan c { s.chan c with last := publish (s.chan c) k (partnerNotReady s c), comp := none }) :=
      modChan_ordered (f := fun ch => { ch with last := publish (s.chan c) k (partnerNotReady s c), comp := none })
        (.published _ _ _)
    split
    · next hands =>
      refine published.trans (ordered_of_keeps (modGate_keeps _ c _) (fun d => ?_) .refl)
      by_cases e : d = c
      · subst e
        rw [State.modGate_gate_same, State.modGate_chan]
        refine .single (.handed _ _ _ ?_)
        rw [State.setChan_chan_same]
        exact (Bool.and_eq_true_iff.1 hands).2
      · rw [State.modGate_gate_other _ _ e, State.modGate_chan]
    · exact published

theorem completeAll_ordered (s : State) : Ordered s (completeAll s) :=
  foldl_ordered (fun s c => completeComputation_ordered c s) allChans s

/-! ## Commands -/

theorem bounded_iff (k : Counters) : k.bounded = true ↔
    k.frames ≤ 65535 ∧ k.crcErrors ≤ 65535 ∧ k.formatErrors ≤ 65535 ∧ k.foreign ≤ 65535 ∧ k.missed ≤ 65535 ∧
      k.late ≤ 65535 ∧ k.early ≤ 65535 ∧ k.short ≤ 65535 ∧ k.service ≤ 65535 ∧ k.checkFails ≤ 65535 := by
  simp [Counters.bounded]

theorem clearCounter_bounded {k : Counters} (f : Nat) (h : k.bounded = true) : (clearCounter f k).bounded = true := by
  rw [bounded_iff] at h ⊢
  unfold clearCounter
  split <;> simp_all

/-- Writing a word gives orders to the channel it names, and leaves the Trace Unit unless it goes to TRACE_CFG. -/
theorem writeField_ordered {tb : Table} (ht : tb ≠ .traceCfg) (s : State) (x : WordWrite) :
    Ordered s (writeField s tb x) := by
  cases tb with
  | channel => exact modChan_ordered (.written _ _ _ _)
  | traceCfg => exact absurd rfl ht
  | counters =>
    refine ⟨rfl, rfl, rfl, rfl, rfl, rfl, rfl, rfl, fun _ => .refl, .refl, clearCounter_bounded x.field⟩
  | station | slotMap | gainStaged | schedStaged | gainActive | schedActive | faults | traceData =>
    exact ⟨rfl, rfl, rfl, rfl, rfl, rfl, rfl, rfl, fun _ => .refl, .refl, id⟩

theorem writeFields_traceCfg (xs : List WordWrite) (s : State) :
    ∃ x, xs.foldl (fun s x => writeField s .traceCfg x) s = s.withTrace { s.trace with cfg := x } := by
  induction xs generalizing s with
  | nil => exact ⟨s.trace.cfg, rfl⟩
  | cons y ys ih =>
    obtain ⟨x, hx⟩ := ih (writeField s .traceCfg y)
    exact ⟨x, hx⟩

theorem writeWords_ordered (tb : Table) (xs : List WordWrite) (s : State) : Ordered s (writeWords tb xs s) := by
  by_cases ht : tb = .traceCfg
  · subst ht
    obtain ⟨x, hx⟩ := writeFields_traceCfg xs s
    unfold writeWords; rw [hx]
    exact withTrace_ordered (.configured x s.trace)
  · refine (foldl_ordered (writeField_ordered ht) xs s).trans ?_
    cases tb with
    | traceCfg => exact absurd rfl ht
    | station | channel | counters | slotMap | gainStaged | schedStaged | gainActive | schedActive | faults
    | traceData => exact ⟨rfl, rfl, rfl, rfl, rfl, rfl, rfl, rfl, fun _ => .refl, .refl, id⟩

theorem takeAction_ordered (a : GroupAction) (c : Chan) (s : State) : Ordered s (takeAction a c s) := by
  cases a with
  | calibrate => exact modChan_ordered (.calibrating _ _)
  | clearFault => exact modChan_ordered (.cleared s _ _)
  | ackNotice => exact modChan_ordered (.acked _ _)
  | rampdown =>
    unfold takeAction; dsimp only
    split
    · next h => exact enterRampdown_ordered h _ _
    · exact .refl s

theorem applyGroup_ordered (a : GroupAction) (first last : Chan) (s : State) :
    Ordered s (applyGroup a first last s) :=
  foldl_ordered (fun s c => by
    split
    · exact takeAction_ordered a c s
    · exact .refl s) allChans s

theorem commitResetStation_ordered (s : State) : Ordered s (commitResetStation s) where
  now := rfl
  resetLow := rfl
  inhnLow := rfl
  address := rfl
  carrier := rfl
  sense := rfl
  port := rfl
  pending := rfl
  orders d := by
    have chan : (commitResetStation s).chan d = {} := by
      simp [State.chan, commitResetStation]
    have gate : (commitResetStation s).gate d = gateSwitchOff s.now (s.gate d) := by
      simp [State.gate, commitResetStation]
    rw [chan, gate]
    exact .single (.reset _ _ _)
  trace := .single (.reset _)
  counters := id

theorem executeCmd_ordered (cmd : PendCmd) (s : State) : Ordered s (executeCmd cmd s).state := by
  have wrote (start xs q refused) : Ordered s (writeNow start xs q refused s).state := by
    unfold writeNow
    split
    · exact .refl s
    · exact (writeWords_ordered _ xs s).trans (withService_ordered _ _)
  have read (n p) : Ordered s (readNow n p s).state := by
    unfold readNow
    split
    · exact .refl s
    · exact withService_ordered _ _
  cases cmd with
  | notExecuted | nop | getStatus | goRefused | stopStream => exact .refl s
  | setCheck | setWindow | tagFirst | tagLast => exact withService_ordered s _
  | goOperational | leaveOperational | commitBank | copyActiveToStaged =>
    exact ⟨rfl, rfl, rfl, rfl, rfl, rfl, rfl, rfl, fun _ => .refl, .refl, id⟩
  | resetStation => exact commitResetStation_ordered s
  | write start xs q refused =>
    show Ordered s (commitWrite start xs q refused s).state
    unfold commitWrite
    split
    · exact wrote ..
    · split
      · exact .refl s
      · exact wrote ..
  | writeBusy start =>
    show Ordered s (commitWriteBusy start s).state
    unfold commitWriteBusy
    split
    · exact .refl s
    · exact withService_ordered s _
  | read start n =>
    show Ordered s (commitRead start n s).state
    unfold commitRead
    split
    · exact read ..
    · split
      · exact .refl s
      · exact read ..
  | groupAction a first last => exact applyGroup_ordered a first last s
  | traceArm => exact withTrace_ordered (.arm _)
  | traceStop => exact withTrace_ordered (.stop _)
  | traceTrigger => exact withTrace_ordered (.trigger _)

theorem commitRecord_ordered (r : TakenRecord) (s : State) : Ordered s (commitRecord r s) := by
  have tags : Ordered s (if r.clearTags then clearTags s else s) := by
    split
    · exact withService_ordered s _
    · exact .refl s
  have command := tags.trans (executeCmd_ordered r.cmd _)
  unfold commitRecord keepResult
  split
  · exact command.trans (withService_ordered _ _)
  · exact command

/-! ## The end of a frame -/

theorem withTimer_ordered (s : State) (k : CycleTimer) : Ordered s (s.withTimer k) :=
  ⟨rfl, rfl, rfl, rfl, rfl, rfl, rfl, rfl, fun _ => .refl, .refl, id⟩

theorem withCounters_ordered {s : State} {k : Counters} (h : s.counters.bounded = true → k.bounded = true) :
    Ordered s (s.withCounters k) :=
  ⟨rfl, rfl, rfl, rfl, rfl, rfl, rfl, rfl, fun _ => .refl, .refl, h⟩

theorem bumpIf_le {b : Bool} {n : Nat} (h : n ≤ 65535) : (if b then bump n else n) ≤ 65535 := by
  split
  · exact bump_le h
  · exact h

theorem countArrival_bounded {k : Counters} (early late : Bool) (h : k.bounded = true) :
    (countArrival early late k).bounded = true := by
  rw [bounded_iff] at h ⊢
  obtain ⟨frames, crc, format, foreign, missed, lates, earlies, short, service, checks⟩ := h
  exact ⟨frames, crc, format, foreign, missed, bumpIf_le lates, bumpIf_le earlies, short, service, checks⟩

theorem countCommit_bounded {k : Counters} (short : Bool) (taken : Option TakenRecord) (h : k.bounded = true) :
    (countCommit short taken k).bounded = true := by
  rw [bounded_iff] at h ⊢
  obtain ⟨frames, crc, format, foreign, missed, lates, earlies, shorts, service, checks⟩ := h
  exact ⟨bump_le frames, crc, format, foreign, missed, lates, earlies, bumpIf_le shorts, bumpIf_le service,
    bumpIf_le checks⟩

theorem countDropped_bounded {k : Counters} (f : FrameCtx) (h : k.bounded = true) :
    (countDropped f k).bounded = true := by
  rw [bounded_iff] at h
  obtain ⟨frames, crc, format, foreign, missed, lates, earlies, shorts, service, checks⟩ := h
  unfold countDropped
  rw [bounded_iff]
  split
  · exact ⟨bump_le frames, crc, format, bump_le foreign, missed, lates, earlies, shorts, service, checks⟩
  · split
    · exact ⟨bump_le frames, crc, bump_le format, foreign, missed, lates, earlies, shorts, service, checks⟩
    · exact ⟨bump_le frames, bump_le crc, format, foreign, missed, lates, earlies, shorts, service, checks⟩

theorem missed_bounded {k : Counters} (h : k.bounded = true) :
    ({ k with missed := bump k.missed } : Counters).bounded = true := by
  rw [bounded_iff] at h ⊢
  obtain ⟨frames, crc, format, foreign, missed, lates, earlies, shorts, service, checks⟩ := h
  exact ⟨frames, crc, format, foreign, bump_le missed, lates, earlies, shorts, service, checks⟩

theorem takeArrival_ordered (s : State) : Ordered s (takeArrival s) := by
  unfold takeArrival; dsimp only
  split
  · exact (withCounters_ordered (countArrival_bounded _ _)).trans (withTimer_ordered _ _)
  · exact withTimer_ordered _ _

theorem commitTimer_ordered (f : FrameCtx) (s : State) : Ordered s (commitTimer f s) := by
  unfold commitTimer; dsimp only
  split
  · split
    · exact (withTimer_ordered s _).trans (takeArrival_ordered _)
    · exact withTimer_ordered s _
  · exact .refl s

theorem commitSlotEngine_ordered (f : FrameCtx) (s : State) : Ordered s (commitSlotEngine f s) := by
  unfold commitSlotEngine
  split
  · exact commitSlots_ordered f.latches s
  · exact .refl s

theorem commitCounters_ordered (f : FrameCtx) (s : State) : Ordered s (commitCounters f s) :=
  withCounters_ordered (countCommit_bounded _ _)

theorem commitService_ordered (f : FrameCtx) (s : State) : Ordered s (commitService f s) := by
  unfold commitService
  split
  · exact .refl s
  · exact commitRecord_ordered _ s

/-- The commit of a frame is made of orders (R122). -/
theorem commitFrame_ordered (f : FrameCtx) (s : State) : Ordered s (commitFrame f s) :=
  (((commitTimer_ordered f s).trans (commitSlotEngine_ordered f _)).trans (commitCounters_ordered f _)).trans
    (commitService_ordered f _)

/-- A wholly received frame leaves the Ring Port for the list of frames to send, and then gives orders alone. -/
theorem settleFrame_ordered (f : FrameCtx) (s : State) : Ordered (closeReception f s) (settleFrame f s) := by
  unfold settleFrame; dsimp only
  split
  · exact commitFrame_ordered f _
  · exact withCounters_ordered (countDropped_bounded f)

end Sys2Proof.Machine
end

section
/-! Every command by what it can do: turns of an instant, a reception, a commit, or one of the effects on pins,
carrier and legs. The frame of every command (log 1, log 2) is read off this list. -/

namespace Sys2Proof.Machine

open Sys2Proof Relation

/-! ## Time -/

theorem withNow_turned {s t : State} (n : Nat) (h : Turned s t) : Turned (s.withNow n) (t.withNow n) where
  keeps := { h.keeps with now := rfl }
  turns := h.turns
  trace := h.trace

/-- Before time goes on to a tick the instant is finished: seen from the tick reached, by its turns alone. -/
theorem advanceTo_turned (n : Nat) (s : State) : Turned (s.withNow (max s.now n)) (advanceTo n s) := by
  unfold advanceTo
  split
  · next later =>
    rw [Nat.max_eq_right (Nat.le_of_lt later)]
    exact withNow_turned n (settle_turned s)
  · next reached =>
    rw [Nat.max_eq_left (Nat.le_of_not_lt reached)]
    exact .refl s

theorem finishAdvanced_turned (n : Nat) (s : State) :
    Turned (s.withNow (max s.now n)) (finishSample (advanceTo n s)) :=
  (advanceTo_turned n s).trans (finishSample_turned _)

/-! ## Reception -/

/-- What holds of the frame being received: it is processed in the phase the station holds (R116), a
GO_OPERATIONAL waits only in CONFIG (R158) and a LEAVE_OPERATIONAL only over channels at rest (R159). -/
def FrameSound (s : State) : Prop :=
  ∀ f, s.port.receiving = some f → f.phase = s.phase ∧ ∀ r, f.taken = some r →
    (r.cmd = .goOperational → s.phase = .config) ∧
      (r.cmd = .leaveOperational → ∀ c, atRest (s.chan c).state = true)

/-- From `s` to `t` the Ring Port has received or sent bytes, which touches it, the Service Unit's stream and the
count of free values alone. -/
structure Received (s t : State) : Prop where
  only : t = { s with port := t.port, service := t.service, freeUsed := t.freeUsed }
  sound : FrameSound s → FrameSound t
  closed : s.resetLow = true → s.port.receiving = none → t.port.receiving = none

theorem Received.refl (s : State) : Received s s := ⟨rfl, id, fun _ => id⟩

theorem Received.trans {a b c : State} (h : Received a b) (k : Received b c) : Received a c where
  only := by rw [k.only, h.only]
  sound := k.sound ∘ h.sound
  closed low none := k.closed (by rw [h.only]; exact low) (h.closed low none)

/-- Anything may happen to the port while the frame being received stays. -/
theorem withPort_received {s : State} {p : RingPort} (h : p.receiving = s.port.receiving) :
    Received s (s.withPort p) where
  only := rfl
  sound sound f hf := sound f (h.symm.trans hf)
  closed _ none := h.trans none

/-- The frame being received takes bytes. -/
theorem withReceiving_received {s : State} {f g : FrameCtx} (hr : s.port.receiving = some f)
    (phase : g.phase = f.phase) (taken : g.taken = f.taken) : Received s (withReceiving s g) where
  only := rfl
  sound sound g' hg := by
    obtain rfl : g = g' := Option.some.inj hg
    rw [phase, taken]
    exact sound f hr
  closed _ none := absurd (none.symm.trans hr) nofun

theorem startFrame_received (kind : Byte) (s : State) : Received s (startFrame kind s) := by
  unfold startFrame
  split
  · exact .refl s
  · next open_ =>
    split
    · exact .refl s
    · refine ⟨rfl, fun _ g hg => ?_, fun low => absurd low ?_⟩
      · obtain rfl : openFrame s.phase kind = g := Option.some.inj hg
        exact ⟨rfl, nofun⟩
      · intro low; exact open_ (by rw [low]; rfl)

theorem receiveHeader_received (h : Header) (s : State) : Received s (receiveHeader h s) := by
  unfold receiveHeader
  split
  · exact .refl s
  · next f hr =>
    split
    · exact withReceiving_received hr rfl rfl
    · exact withReceiving_received hr rfl rfl
    · exact .refl s
    · exact .refl s

theorem receiveSlotWord_received (x : Word) (s : State) : Received s (receiveSlotWord x s) := by
  unfold receiveSlotWord
  split
  · exact .refl s
  · next f hr =>
    split
    · exact withReceiving_received hr rfl rfl
    · exact withReceiving_received hr rfl rfl
    · exact .refl s
    · exact .refl s

theorem receivePlain_received (bs : List Byte) (s : State) : Received s (receivePlain bs s) := by
  unfold receivePlain
  split
  · exact .refl s
  · next f hr => exact withReceiving_received hr rfl rfl

/-- The judgement of a command is a change of phase only for the two commands that name one. -/
theorem judgeCommand_phase (s : State) (c : Command) (b : RecordBody) :
    ((judgeCommand s c b).cmd = .goOperational → c = .goOperational) ∧
      ((judgeCommand s c b).cmd = .leaveOperational → c = .leaveOperational) := by
  cases c with
  | goOperational =>
    refine ⟨fun _ => rfl, ?_⟩
    unfold judgeCommand judgeGoOperational; dsimp only
    split
    · nofun
    · split <;> nofun
  | leaveOperational => exact ⟨nofun, fun _ => rfl⟩
  | nop | getStatus | resetStation | stopStream | traceArm | traceStop | traceTrigger => exact ⟨nofun, nofun⟩
  | setCheck => unfold judgeCommand judgeSetCheck; dsimp only; split <;> exact ⟨nofun, nofun⟩
  | setWindow =>
    unfold judgeCommand judgeSetWindow; dsimp only
    split
    · exact ⟨nofun, nofun⟩
    · split <;> exact ⟨nofun, nofun⟩
  | writeStart =>
    unfold judgeCommand judgeWriteStart; dsimp only
    split
    · exact ⟨nofun, nofun⟩
    · split <;> exact ⟨nofun, nofun⟩
  | writeContinue =>
    unfold judgeCommand judgeWriteContinue; dsimp only
    split
    · split <;> exact ⟨nofun, nofun⟩
    · exact ⟨nofun, nofun⟩
  | readStart =>
    unfold judgeCommand judgeReadStart; dsimp only
    split
    · exact ⟨nofun, nofun⟩
    · split
      · exact ⟨nofun, nofun⟩
      · split <;> exact ⟨nofun, nofun⟩
  | readContinue =>
    unfold judgeCommand judgeReadContinue; dsimp only
    split
    · split <;> exact ⟨nofun, nofun⟩
    · exact ⟨nofun, nofun⟩
    · exact ⟨nofun, nofun⟩
  | commitBank | copyActiveToStaged =>
    unfold judgeCommand judgeBank; dsimp only; split <;> exact ⟨nofun, nofun⟩
  | tagFirst | tagLast => unfold judgeCommand judgeTag; dsimp only; split <;> exact ⟨nofun, nofun⟩
  | groupAction =>
    unfold judgeCommand judgeGroup; dsimp only
    split
    · split
      · exact ⟨nofun, nofun⟩
      · split <;> exact ⟨nofun, nofun⟩
    · exact ⟨nofun, nofun⟩

/-- Step 3 of R154 lets a change of phase pass only where it is allowed (R158, R159). -/
theorem judge_phase (s : State) (phase : Phase) (broadcast : Bool) (code : Byte) (b : RecordBody) :
    ((judge s phase broadcast code b).cmd = .goOperational → phase = .config) ∧
      ((judge s phase broadcast code b).cmd = .leaveOperational → ∀ c, atRest (s.chan c).state = true) := by
  unfold judge
  split
  · exact ⟨nofun, nofun⟩
  · split
    · exact ⟨nofun, nofun⟩
    · split
      · exact ⟨nofun, nofun⟩
      · next c _ =>
        split
        · exact ⟨nofun, nofun⟩
        · next passes =>
          have allowed : allowedNow s phase c = true := by
            by_contra no; exact passes (by simp [Bool.eq_false_iff.2 no])
          obtain ⟨go, leave⟩ := judgeCommand_phase s c b
          refine ⟨fun h => ?_, fun h c' => ?_⟩
          · rw [go h] at allowed; exact beq_iff_eq.1 allowed
          · rw [leave h] at allowed
            simp [allowedNow, anyChan] at allowed
            exact allowed.2 c' (mem_allChans c')

theorem closeIf_received (cond : Bool) (s : State) : Received s (closeIf cond s) := by
  unfold closeIf
  split
  · exact ⟨rfl, id, fun _ => id⟩
  · exact .refl s

/-- A frame takes a record that waits for a command allowed now. -/
theorem takenRecord_received {s : State} {f : FrameCtx} (hr : s.port.receiving = some f) (code : Byte)
    (b out : RecordBody) (r : TakenRecord) (go : r.cmd = .goOperational → f.phase = .config)
    (leave : r.cmd = .leaveOperational → ∀ c, atRest (s.chan c).state = true) :
    Received s (withReceiving s (takenRecord code b out r f)) where
  only := rfl
  sound sound g hg := by
    obtain rfl : takenRecord code b out r f = g := Option.some.inj hg
    have phase : f.phase = s.phase := (sound f hr).1
    refine ⟨phase, fun r' hr' => ?_⟩
    obtain rfl : r = r' := Option.some.inj hr'
    exact ⟨fun h => phase.symm.trans (go h), leave⟩
  closed _ none := absurd (none.symm.trans hr) nofun

theorem receiveRecord_received (code : Byte) (b : RecordBody) (s : State) : Received s (receiveRecord code b s) := by
  unfold receiveRecord
  split
  · exact .refl s
  · next f hr =>
    split
    · split
      · obtain ⟨go, leave⟩ := judge_phase s f.phase false code b
        exact (takenRecord_received hr code b _ _ go leave).trans (closeIf_received _ _)
      · obtain ⟨go, leave⟩ := judge_phase s f.phase true code b
        refine (takenRecord_received hr code b _ _ (fun h => ?_) fun h => ?_).trans (closeIf_received _ _)
        all_goals
          unfold broadcastTaken at h; dsimp only at h
          split at h
          · first | exact go h | exact leave h
          · cases h
      · exact withReceiving_received hr rfl rfl
    · exact withReceiving_received hr rfl rfl
    · exact .refl s
    · exact .refl s

theorem receivePart_received (p : Part) (bs : List Byte) (s : State) : Received s (receivePart p bs s) := by
  cases p with
  | header => exact receiveHeader_received _ s
  | record => exact receiveRecord_received _ _ s
  | slot w => exact receiveSlotWord_received _ s
  | plain => exact receivePlain_received bs s

theorem receiveRest_received (n : Nat) (bs : List Byte) (s : State) : Received s (receiveRest n bs s) := by
  induction n generalizing bs s with
  | zero => exact receivePlain_received bs s
  | succ n ih =>
    unfold receiveRest
    split
    · exact .refl s
    · dsimp only
      split
      · exact receivePlain_received bs s
      · exact (receivePart_received _ _ s).trans (ih _ _)

/-! ## Leaving on TXL -/

/-- Sending bytes leaves everything of a frame's context but what has been sent. -/
def SentOnly (f g : FrameCtx) : Prop := g = { f with tx := g.tx, crcOut := g.crcOut }

theorem SentOnly.refl (f : FrameCtx) : SentOnly f f := rfl

theorem SentOnly.trans {f g h : FrameCtx} (a : SentOnly f g) (b : SentOnly g h) : SentOnly f h := by
  unfold SentOnly at *; rw [b, a]

theorem sendBytes_sentOnly (bs : List Byte) (f : FrameCtx) : SentOnly f (sendBytes bs f) := rfl

theorem sendTo_sentOnly (s : State) (n : Nat) (f : FrameCtx) : SentOnly f (sendTo s n f) := by
  unfold sendTo; dsimp only
  split
  · exact (sendBytes_sentOnly _ f).trans (sendBytes_sentOnly _ _)
  · exact sendBytes_sentOnly _ f

theorem sendWord_sentOnly (s : State) (h : Header) (f : FrameCtx) : SentOnly f (sendWord s h f) := by
  unfold sendWord; dsimp only
  split
  · exact (sendTo_sentOnly s _ f).trans (sendBytes_sentOnly _ _)
  · exact .refl f

theorem sendNextWord_sentOnly (s : State) (f : FrameCtx) : SentOnly f (sendNextWord s f) := by
  unfold sendNextWord
  split
  · split
    · exact .refl f
    · exact sendWord_sentOnly s _ f
  all_goals exact .refl f

theorem sendSummary_sentOnly (s : State) (f : FrameCtx) : SentOnly f (sendSummary s f) := by
  unfold sendSummary
  split
  · exact sendBytes_sentOnly _ f
  · exact .refl f

theorem atTxl_received {g : FrameCtx → FrameCtx} (h : ∀ f, SentOnly f (g f)) (s : State) :
    Received s (atTxl g s) := by
  unfold atTxl
  split
  · exact withPort_received rfl
  · split
    · next f hr => exact withReceiving_received hr (by rw [h f]) (by rw [h f])
    · exact .refl s

theorem sendTrailer_received (s : State) : Received s (sendTrailer s) := by
  unfold sendTrailer
  split
  · dsimp only
    split
    · exact ⟨rfl, id, fun _ => id⟩
    · exact withPort_received rfl
  · exact .refl s

theorem lineIdle_received (s : State) : Received s (lineIdle s) := by
  unfold lineIdle
  split
  · exact .refl s
  · exact withPort_received rfl

/-! ## The end of reception -/

/-- The end of reception in its three parts: the instant's turns at its tick, the bytes left, and the frame's
commit or discard with the sample event that goes on after it. -/
theorem endReception_parts {s : State} {f : FrameCtx} (n : Nat) (rest : List Byte)
    (hr : s.port.receiving = some f) :
    ∃ u v, Turned (s.withNow (max s.now n)) u ∧ Received u v ∧
      (endReception n rest s = v ∨
        ∃ g, v.port.receiving = some g ∧ endReception n rest s = resume (settleFrame g v)) := by
  refine ⟨takeTimeout (finishSample (advanceTo n s)),
    receiveRest rest.length rest (takeTimeout (finishSample (advanceTo n s))),
    (finishAdvanced_turned n s).trans (takeTimeout_turned _), receiveRest_received _ _ _, ?_⟩
  unfold endReception; rw [hr]; dsimp only
  cases hg : (receiveRest rest.length rest (takeTimeout (finishSample (advanceTo n s)))).port.receiving with
  | none => exact .inl rfl
  | some g => exact .inr ⟨g, rfl, rfl⟩

/-! ## Every command -/

theorem whenDue_turned {f : State → State} (h : ∀ s, Turned s (f s)) (due : Bool) (s : State) :
    Turned s (whenDue due f s) := by
  unfold whenDue
  split
  · exact (h s).trans (resume_turned _).turned
  · exact .refl s

/-- A miss is counted by the timer and in MISSED (R128). -/
def missCounted (d : Nat) (s : State) : State :=
  (s.withTimer (countMiss s.station d s.timer)).withCounters { s.counters with missed := bump s.counters.missed }

/-- The effect of a command, by what it can do. -/
inductive Effect (s : State) : Instr → State → Prop
  | turned {i : Instr} {t : State} (h : Turned s t) : Effect s i t
  | received {i : Instr} {t : State} (h : Received s t) : Effect s i t
  | advanced {i : Instr} (n : Nat) : Effect s i (advanceTo n s)
  | pinReset (n : Nat) : Effect s (.resetnAsserted n) (assertReset n s)
  | released (n : Nat) (straps : Byte) : Effect s (.resetnReleased n straps) (releaseReset n straps s)
  | inhibited (n : Nat) (orders : PairOrders) :
      Effect s (.inhnAsserted n orders) (resume (detectAll orders .inhibit
        ({ finishSample (advanceTo n s) with inhnLow := true }.mapGates
          (gateInhibit (finishSample (advanceTo n s)).now))))
  | uninhibited (n : Nat) (h : s.inhnLow = true) :
      Effect s (.inhnReleased n) ({ advanceTo n s with inhnLow := false }.mapGates
        (gateLevels false (advanceTo n s).carrier (advanceTo n s).now
          ((advanceTo n s).now - (advanceTo n s).carrier.periodAt)))
  | period (x : SampleInputs) (o : SampleOrder) (h : s.resetLow = false) :
      Effect s (.periodStart x o) (resume (periodWork x o (completeAll (settle s))))
  | computed (c : Chan) : Effect s (.computationComplete c) (completeComputation c (settle s))
  | edge (c : Chan) (leg : Leg) (n : Nat) (lv : Level)
      (h : (gateLeg ((advanceTo n s).gate c) leg).level = some lv) :
      Effect s (.legLevelChange c leg) ((advanceTo n s).modGate c fun g =>
        setGateLeg g leg (legCommand (advanceTo n s).carrier.deadTime (advanceTo n s).now (otherLevel lv)
          (gateLeg g leg)))
  | deadTime (c : Chan) (leg : Leg) (n : Nat)
      (h : deadTimeEndAt s.carrier s.now (s.gate c) leg = some n) :
      Effect s (.deadTimeEnd c leg)
        ((advanceTo n s).modGate c fun g => setGateLeg g leg (legTurnOn (gateLeg g leg)))
  | missed (u : State) (n d : Nat) (h : Turned (s.withNow n) u) (b : Bool) :
      Effect s .deadlineExpiry (announceMiss b (missCounted d u))
  | frameEnd (n : Nat) (rest : List Byte) (u v : State) (g : FrameCtx)
      (hu : Turned (s.withNow (max s.now n)) u) (hv : Received u v) (hg : v.port.receiving = some g) :
      Effect s (.endOfReception n rest) (resume (settleFrame g v))
  | frameOpen (n : Nat) (rest : List Byte) (u v : State)
      (hu : Turned (s.withNow (max s.now n)) u) (hv : Received u v) : Effect s (.endOfReception n rest) v

theorem Effect.idle (s : State) (i : Instr) : Effect s i s := .turned (.refl s)

theorem assertInhibit_effect (n : Nat) (o : PairOrders) (s : State) :
    Effect s (.inhnAsserted n o) (assertInhibit n o s) := by
  unfold assertInhibit
  split
  · exact .idle s _
  · exact .inhibited n o

theorem releaseInhibit_effect (n : Nat) (s : State) : Effect s (.inhnReleased n) (releaseInhibit n s) := by
  unfold releaseInhibit
  split
  · next h => exact .uninhibited n h
  · exact .idle s _

theorem changeLevel_effect (c : Chan) (l : Leg) (s : State) : Effect s (.legLevelChange c l) (changeLevel c l s) := by
  unfold changeLevel
  split
  · exact .idle s _
  · dsimp only
    split
    · exact .advanced _
    · next h => exact .edge c l _ _ h

theorem endDeadTime_effect (c : Chan) (l : Leg) (s : State) : Effect s (.deadTimeEnd c l) (endDeadTime c l s) := by
  unfold endDeadTime
  split
  · exact .idle s _
  · next h => exact .deadTime c l _ h

theorem expireDeadline_effect (s : State) : Effect s .deadlineExpiry (expireDeadline s) := by
  unfold expireDeadline
  split
  · exact .missed _ _ _ (finishAdvanced_turned _ s) _
  · exact .idle s _

theorem endReception_effect (n : Nat) (rest : List Byte) (s : State) :
    Effect s (.endOfReception n rest) (endReception n rest s) := by
  cases hr : s.port.receiving with
  | none => unfold endReception; rw [hr]; exact .idle s _
  | some f =>
    obtain ⟨u, v, hu, hv, open_ | ⟨g, hg, ended⟩⟩ := endReception_parts n rest hr
    · rw [open_]; exact .frameOpen n rest u v hu hv
    · rw [ended]; exact .frameEnd n rest u v g hu hv hg

/-- Every command answers a next state, by one of these effects (log 2). -/
theorem exec_effect (i : Instr) (s : State) : ∃ t, exec i s = .next t ∧ Effect s i t := by
  cases i with
  | resetnAsserted n => exact ⟨_, rfl, .pinReset n⟩
  | resetnReleased n straps => exact ⟨_, rfl, .released n straps⟩
  | inhnAsserted n o => exact ⟨_, rfl, assertInhibit_effect n o s⟩
  | inhnReleased n => exact ⟨_, rfl, releaseInhibit_effect n s⟩
  | periodStart x o =>
    refine ⟨_, rfl, ?_⟩
    split
    · exact .idle s _
    · next h => exact .period x o (Bool.eq_false_iff.2 h)
  | angleLost c => exact ⟨_, rfl, .turned (whenDue_turned (fun s => (takeAngle_turned s).turned) _ s)⟩
  | calibrationComplete c => exact ⟨_, rfl, .turned (whenDue_turned (completeCalibration_turned c) _ s)⟩
  | computationComplete c => exact ⟨_, rfl, .computed c⟩
  | legLevelChange c l => exact ⟨_, rfl, changeLevel_effect c l s⟩
  | deadTimeEnd c l => exact ⟨_, rfl, endDeadTime_effect c l s⟩
  | busStateChange o => exact ⟨_, rfl, .turned (whenDue_turned (changeBus_turned o) _ s)⟩
  | rampdownEnd c => exact ⟨_, rfl, .turned (whenDue_turned (takeRampEnd_turned c) _ s)⟩
  | bankValidationComplete => exact ⟨_, rfl, .turned (whenDue_turned takeValidation_turned _ s)⟩
  | bankSwitch => exact ⟨_, rfl, .turned (whenDue_turned takeSwitch_turned _ s)⟩
  | streamDiscardTimeout => exact ⟨_, rfl, .turned (whenDue_turned takeTimeout_turned _ s)⟩
  | deadlineExpiry => exact ⟨_, rfl, expireDeadline_effect s⟩
  | traceArmedEntry =>
    exact ⟨_, rfl, .turned (whenDue_turned (fun s => (withTrace_turned (.armed s.trace)).turned) _ s)⟩
  | segmentComplete =>
    exact ⟨_, rfl, .turned (whenDue_turned (fun s => (withTrace_turned (.complete s.trace)).turned) _ s)⟩
  | frameStart kind => exact ⟨_, rfl, .received (startFrame_received kind s)⟩
  | header h => exact ⟨_, rfl, .received (receiveHeader_received h s)⟩
  | summary => exact ⟨_, rfl, .received (atTxl_received (sendSummary_sentOnly s) s)⟩
  | consumeWord x => exact ⟨_, rfl, .received (receiveSlotWord_received x s)⟩
  | produceWord => exact ⟨_, rfl, .received (atTxl_received (sendNextWord_sentOnly s) s)⟩
  | endOfReception n rest => exact ⟨_, rfl, endReception_effect n rest s⟩
  | trailerSent => exact ⟨_, rfl, .received (sendTrailer_received s)⟩
  | lineIdleAfterReset => exact ⟨_, rfl, .received (lineIdle_received s)⟩
  | unknown | nop | getStatus | setCheck | goOperational | leaveOperational | resetStation | setWindow | writeStart
  | writeContinue | readStart | readContinue | stopStream | commitBank | copyActiveToStaged | tagFirst | tagLast
  | groupActionCalibrate | groupActionClearFault | groupActionAckNotice | groupActionRampdown | traceArm
  | traceStop | traceTrigger => exact ⟨_, rfl, .received (receiveRecord_received _ _ s)⟩

/-! ## The queue and the station as a whole -/

/-- From `s` to `t` the phase, the latches, the previous control words, the pairs and the slot map stay (R106,
R116, R136, R143, R145). -/
def StationKept (s t : State) : Prop :=
  t.phase = s.phase ∧ t.latches = s.latches ∧ t.prevControl = s.prevControl ∧ t.pairs = s.pairs ∧
    t.slotMap = s.slotMap

theorem StationKept.trans {a b c : State} (h : StationKept a b) (k : StationKept b c) : StationKept a c := by
  obtain ⟨phase, latches, prev, pairs, slots⟩ := h
  obtain ⟨phase', latches', prev', pairs', slots'⟩ := k
  exact ⟨phase'.trans phase, latches'.trans latches, prev'.trans prev, pairs'.trans pairs, slots'.trans slots⟩

theorem InstantKeeps.stationKept {s t : State} (h : InstantKeeps s t) : StationKept s t :=
  ⟨h.phase, h.latches, h.prevControl, h.pairs, h.slotMap⟩

/-- The queue stays, and so do the straps and RESETN (R124, R160). -/
def QueueKept (s t : State) : Prop := t.pending = s.pending ∧ t.address = s.address ∧ t.resetLow = s.resetLow

theorem QueueKept.trans {a b c : State} (h : QueueKept a b) (k : QueueKept b c) : QueueKept a c := by
  obtain ⟨pending, address, low⟩ := h
  obtain ⟨pending', address', low'⟩ := k
  exact ⟨pending'.trans pending, address'.trans address, low'.trans low⟩

theorem InstantKeeps.queueKept {s t : State} (h : InstantKeeps s t) : QueueKept s t :=
  ⟨h.pending, h.address, h.resetLow⟩

theorem Ordered.queueKept {s t : State} (h : Ordered s t) : QueueKept s t := ⟨h.pending, h.address, h.resetLow⟩

theorem Received.kept {s t : State} (h : Received s t) : StationKept s t ∧ QueueKept s t := by
  rw [h.only]; exact ⟨⟨rfl, rfl, rfl, rfl, rfl⟩, rfl, rfl, rfl⟩

/-- A command outside the end of reception and the edges of RESETN keeps the station and the queue. -/
theorem Turned.kept {s t : State} (h : Turned s t) : StationKept s t ∧ QueueKept s t :=
  ⟨h.keeps.stationKept, h.keeps.queueKept⟩

theorem SampleKeeps.kept {s t : State} (h : SampleKeeps s t) : StationKept s t ∧ QueueKept s t :=
  ⟨h.toInstantKeeps.stationKept, h.toInstantKeeps.queueKept⟩

theorem kept_trans {a b c : State} (h : StationKept a b ∧ QueueKept a b) (k : StationKept b c ∧ QueueKept b c) :
    StationKept a c ∧ QueueKept a c := ⟨h.1.trans k.1, h.2.trans k.2⟩

theorem advanceTo_kept (n : Nat) (s : State) : StationKept s (advanceTo n s) ∧ QueueKept s (advanceTo n s) :=
  (advanceTo_turned n s).kept

theorem periodWork_kept (x : SampleInputs) (o : SampleOrder) (s : State) :
    StationKept s (periodWork x o s) ∧ QueueKept s (periodWork x o s) :=
  ⟨⟨rfl, rfl, rfl, rfl, rfl⟩, rfl, rfl, rfl⟩

theorem startPeriod_kept (x : SampleInputs) (o : SampleOrder) (s : State) :
    StationKept s (resume (periodWork x o (completeAll (settle s)))) ∧
      QueueKept s (resume (periodWork x o (completeAll (settle s)))) := by
  have before := kept_trans (settle_turned s).kept (completeAll_keeps _).kept
  exact kept_trans (kept_trans before (periodWork_kept x o _)) (resume_keeps _).kept

theorem settleFrame_queueKept (f : FrameCtx) (s : State) : QueueKept s (resume (settleFrame f s)) :=
  QueueKept.trans (b := closeReception f s) ⟨rfl, rfl, rfl⟩
    ((settleFrame_ordered f s).queueKept.trans (resume_keeps _).kept.2)

/-- Settles O2: each clause is a field that the effects keep. -/
theorem phaseStrapsAndLatchesChangeOnlyAtCommitsAndResets :
    Obligations.PhaseStrapsAndLatchesChangeOnlyAtCommitsAndResets := by
  unfold Obligations.PhaseStrapsAndLatchesChangeOnlyAtCommitsAndResets
  intro i s
  obtain ⟨t, ht, effect⟩ := exec_effect i s
  have of_kept (h : StationKept s t ∧ QueueKept s t) : t.pending = s.pending ∧
      ((∀ at_ rest, i ≠ .endOfReception at_ rest) → (∀ at_, i ≠ .resetnAsserted at_) → StationKept s t) ∧
      ((∀ at_, i ≠ .resetnAsserted at_) → (∀ at_ straps, i ≠ .resetnReleased at_ straps) →
        t.address = s.address ∧ t.resetLow = s.resetLow) :=
    ⟨h.2.1, fun _ _ => h.1, fun _ _ => h.2.2⟩
  refine ⟨t, ht, ?_⟩
  cases effect with
  | turned h => exact of_kept h.kept
  | received h => exact of_kept h.kept
  | advanced n => exact of_kept (advanceTo_kept n s)
  | pinReset n => exact ⟨rfl, fun _ never => absurd rfl (never n), fun never => absurd rfl (never n)⟩
  | released n straps =>
    have only : releaseReset n straps s = { s with
        now := (releaseReset n straps s).now
        resetLow := (releaseReset n straps s).resetLow
        address := (releaseReset n straps s).address
        carrier := (releaseReset n straps s).carrier
        port := (releaseReset n straps s).port } := by
      unfold releaseReset; split <;> rfl
    rw [only]
    exact ⟨rfl, fun _ _ => ⟨rfl, rfl, rfl, rfl, rfl⟩, fun _ never => absurd rfl (never n straps)⟩
  | inhibited n o =>
    have moved := (finishAdvanced_turned n s).kept
    have detected := (detectAll_keeps o .inhibit ({ finishSample (advanceTo n s) with inhnLow := true }.mapGates
      (gateInhibit (finishSample (advanceTo n s)).now))).trans (resume_keeps _)
    exact of_kept (kept_trans moved detected.kept)
  | uninhibited n h => exact of_kept (advanceTo_kept n s)
  | period x o h => exact of_kept (startPeriod_kept x o s)
  | computed c => exact of_kept (kept_trans (settle_turned s).kept (completeComputation_keeps c _).kept)
  | edge c l n lv h => exact of_kept (advanceTo_kept n s)
  | deadTime c l n h => exact of_kept (advanceTo_kept n s)
  | missed u n d h b =>
    have counted : StationKept u (missCounted d u) ∧ QueueKept u (missCounted d u) :=
      ⟨⟨rfl, rfl, rfl, rfl, rfl⟩, rfl, rfl, rfl⟩
    exact of_kept (kept_trans (kept_trans h.kept counted) (announceMiss_keeps b _).kept)
  | frameEnd n rest u v g hu hv hg =>
    have kept := (kept_trans hu.kept hv.kept).2.trans (settleFrame_queueKept g v)
    exact ⟨kept.1, fun never => absurd rfl (never n rest), fun _ _ => kept.2⟩
  | frameOpen n rest u v hu hv => exact of_kept (kept_trans hu.kept hv.kept)

end Sys2Proof.Machine
end

section
/-! The invariants of every step that are read off one channel, its gates, the Trace Unit and the counters: each
turn and each order keeps them, and so does every command. -/

namespace Sys2Proof.Machine

open Sys2Proof Relation

/-- A property that each step of a chain keeps holds at its end. -/
theorem keeps_of_chain {α : Type} {r : α → α → Prop} {p : α → Prop} (h : ∀ {a b}, r a b → p a → p b) {a b : α}
    (chain : ReflTransGen r a b) (start : p a) : p b := by
  induction chain with
  | refl => exact start
  | tail _ step ih => exact h step ih

theorem step_cases {s t : State} (h : step s = .next t) :
    t = s ∨ ∃ i rest, s.pending = i :: rest ∧ Effect (s.withPending rest) i t := by
  unfold step at h
  split at h
  · cases h; exact .inl rfl
  · next i rest pending =>
    obtain ⟨u, hu, effect⟩ := exec_effect i (s.withPending rest)
    obtain rfl : u = t := by rw [hu] at h; cases h; rfl
    exact .inr ⟨i, rest, pending, effect⟩

/-- A property that does not see the queue and that every effect keeps holds after a step. -/
theorem holds_after_step {p : State → Prop} {s t : State} (h : step s = .next t)
    (queue : ∀ rest, p s → p (s.withPending rest)) (effect : ∀ {s i t}, Effect s i t → p s → p t) (hs : p s) :
    p t := by
  obtain rfl | ⟨i, rest, -, e⟩ := step_cases h
  · exact hs
  · exact effect e (queue rest hs)

/-! ## The Trace Unit (R171, R173) -/

/-- The parts of a sound Trace Unit. -/
theorem traceSound_iff (u : TraceUnit) : u.sound = true ↔ u.cfg.sound = true ∧ u.armedCfg.sound = true ∧
    u.pointer < traceL u ∧ (∀ k : Fin 4, u.segs[k].valid ≤ traceL u) ∧ TraceMem.wf u.mem = true := by
  simp only [TraceUnit.sound, Bool.and_eq_true, decide_eq_true_eq, List.all_eq_true, Vector.mem_toList_iff,
    and_assoc]
  refine and_congr_right fun _ => and_congr_right fun _ => and_congr_right fun _ => and_congr_left fun _ => ?_
  refine ⟨fun h k => h _ (Vector.getElem_mem k.isLt), fun h x hx => ?_⟩
  obtain ⟨i, hi, rfl⟩ := Vector.mem_iff_getElem.1 hx
  exact h ⟨i, hi⟩

theorem clampPreCount_sound (x : TraceCfg) : (clampPreCount x).sound = true := by
  have pos := captureLength_pos x
  have : captureLength (clampPreCount x) = captureLength x := rfl
  simp only [TraceCfg.sound, this, decide_eq_true_eq]
  show min x.preCount (captureLength x - 1) < captureLength x
  omega

/-- The active segment takes a count within the capture length. -/
theorem setActiveSegment_sound {u : TraceUnit} (h : u.sound = true) {x : Segment} (hx : x.valid ≤ traceL u) :
    (setActiveSegment u x).sound = true := by
  rw [traceSound_iff] at h ⊢
  obtain ⟨cfg, armed, pointer, segs, mem⟩ := h
  refine ⟨cfg, armed, pointer, fun k => ?_, mem⟩
  show (u.segs.set u.seg x)[k].valid ≤ traceL u
  by_cases e : (u.seg : Nat) = k
  · simp [e, hx]
  · simp only [Fin.getElem_fin]
    rw [Vector.getElem_set_ne _ _ e]; exact segs k

theorem takeTrigger_sound {u : TraceUnit} (h : u.sound = true) : (takeTrigger u).sound = true := by
  unfold takeTrigger
  split
  · have below : traceP u ≤ traceL u := by
      have := ((traceSound_iff u).1 h).2.1
      simp only [TraceCfg.sound, decide_eq_true_eq] at this
      exact Nat.le_of_lt this
    exact setActiveSegment_sound h (x := ⟨traceP u, _⟩) below
  all_goals exact h

theorem segmentAfter_valid_le {u : TraceUnit} (n : Nat) : (segmentAfter u n).valid ≤ traceL u := by
  unfold segmentAfter
  dsimp only
  split <;> exact Nat.min_le_right _ _

theorem writeRecord_sound (r : TraceRec) {u : TraceUnit} (h : u.sound = true) : (writeRecord r u).sound = true := by
  have active := setActiveSegment_sound h (segmentAfter_valid_le ((u.pointer + 1) % traceL u))
  rw [traceSound_iff] at active ⊢
  obtain ⟨cfg, armed, -, segs, -⟩ := active
  exact ⟨cfg, armed, Nat.mod_lt _ (captureLength_pos _), segs, writeRecord_wf r ((traceSound_iff u).1 h).2.2.2.2⟩

theorem traceTurn_sound {u v : TraceUnit} (turn : TraceTurn u v) (h : u.sound = true) : v.sound = true := by
  cases turn with
  | fault c =>
    unfold faultTrigger
    split
    · exact takeTrigger_sound h
    · exact h
  | sample last =>
    unfold traceSample recordNow
    split
    · split
      · have taken : (if levelCrossing u (formRecord u.armedCfg last) then takeTrigger u else u).sound = true := by
          split
          · exact takeTrigger_sound h
          · exact h
        exact writeRecord_sound _ taken
      · exact h
    · exact h
  | armed => unfold enterArmed; split <;> exact h
  | complete =>
    unfold completeSegment
    split
    · split
      · rw [traceSound_iff] at h ⊢
        obtain ⟨cfg, armed, -, segs, mem⟩ := h
        exact ⟨cfg, armed, captureLength_pos _, segs, mem⟩
      · exact h
    · exact h

theorem traceOrder_sound {u v : TraceUnit} (order : TraceOrder u v) (h : u.sound = true) : v.sound = true := by
  cases order with
  | control c =>
    unfold controlTrigger
    split
    · exact takeTrigger_sound h
    · exact h
  | configured x =>
    rw [traceSound_iff] at h ⊢
    exact ⟨clampPreCount_sound x, h.2⟩
  | arm =>
    rw [traceSound_iff] at h ⊢
    obtain ⟨cfg, -, -, -, mem⟩ := h
    refine ⟨cfg, cfg, captureLength_pos _, fun k => ?_, mem⟩
    simp [armTrace]
  | stop => unfold stopTrace; split <;> exact h
  | trigger => exact takeTrigger_sound h
  | reset =>
    have mem := ((traceSound_iff u).1 h).2.2.2.2
    rw [traceSound_iff]
    refine ⟨rfl, rfl, by show 0 < 4096; decide, fun k => ?_, mem⟩
    simp [resetTrace]

theorem Turned.traceSound {s t : State} (h : Turned s t) (hs : s.trace.sound = true) : t.trace.sound = true :=
  keeps_of_chain (p := fun u => u.sound = true) traceTurn_sound h.trace hs

theorem Ordered.traceSound {s t : State} (h : Ordered s t) (hs : s.trace.sound = true) : t.trace.sound = true :=
  keeps_of_chain (p := fun u => u.sound = true) traceOrder_sound h.trace hs

theorem Received.trace {s t : State} (h : Received s t) : t.trace = s.trace := by rw [h.only]

theorem periodWork_trace (x : SampleInputs) (o : SampleOrder) (s : State) : (periodWork x o s).trace = s.trace := rfl

theorem effect_traceSound {s t : State} {i : Instr} (e : Effect s i t) (h : s.trace.sound = true) :
    t.trace.sound = true := by
  cases e with
  | turned turned => exact turned.traceSound h
  | received received => rw [received.trace]; exact h
  | advanced n => exact (advanceTo_turned n s).traceSound h
  | pinReset n => exact traceOrder_sound (.reset s.trace) h
  | released n straps => unfold releaseReset; split <;> exact h
  | inhibited n o =>
    have before := (finishAdvanced_turned n s).traceSound h
    exact (resume_turned _).turned.traceSound ((detectAll_turned (k := .inhibit) nofun o _).traceSound before)
  | uninhibited n => exact (advanceTo_turned n s).traceSound h
  | period x o =>
    have before := (completeAll_ordered _).traceSound ((settle_turned s).traceSound h)
    exact (resume_turned _).turned.traceSound (by rw [periodWork_trace]; exact before)
  | computed c => exact (completeComputation_ordered c _).traceSound ((settle_turned s).traceSound h)
  | edge c l n lv => exact (advanceTo_turned n s).traceSound h
  | deadTime c l n => exact (advanceTo_turned n s).traceSound h
  | missed u n d hu b =>
    have counted : (missCounted d u).trace.sound = true := hu.traceSound h
    exact (announceMiss_ordered b _).traceSound counted
  | frameEnd n rest u v g hu hv hg =>
    have closed : (closeReception g v).trace.sound = true := by
      show v.trace.sound = true
      rw [hv.trace]; exact hu.traceSound h
    exact (resume_turned _).turned.traceSound ((settleFrame_ordered g v).traceSound closed)
  | frameOpen n rest u v hu hv => rw [hv.trace]; exact hu.traceSound h

/-- Settles O59: every turn and every order keeps the Trace Unit sound. -/
theorem everyStepKeepsTheTraceUnitSound : Obligations.EveryStepKeepsTheTraceUnitSound := by
  unfold Obligations.EveryStepKeepsTheTraceUnitSound
  exact fun s t hs h => holds_after_step (p := fun s => s.trace.sound = true) h (fun _ => id) effect_traceSound hs

end Sys2Proof.Machine
end

section
/-! The channel contexts and the link counters stay sound (R3, R45, R67, R69, R84, R85, R130). -/

namespace Sys2Proof.Machine

open Sys2Proof Relation

/-- Integrators and last effective references stand at 0 (R3). -/
def Channel.Zeroed (ch : Channel) : Prop := ch.accD = 0 ∧ ch.accQ = 0 ∧ ch.lastRefD = 0 ∧ ch.lastRefQ = 0

/-- The parts of a sound channel context. -/
theorem channelSound_iff (ch : Channel) : ch.sound = true ↔
    ch.noticeArmed = !ch.noticePending ∧ (drives ch.state = true ∨ ch.Zeroed) ∧ ch.accD.natAbs ≤ 2147418112 ∧
      ch.accQ.natAbs ≤ 2147418112 ∧ ch.i2t ≤ ch.record.i2tLim * 65536 := by
  simp only [Channel.sound, Channel.restsAtZero, Channel.Zeroed, Bool.and_eq_true, Bool.or_eq_true, beq_iff_eq,
    decide_eq_true_eq, and_assoc]

/-- The part of a channel that its soundness reads. -/
def Channel.soundPart (ch : Channel) : Bool × Bool × Bool × Int × Int × Int × Int × Nat × Nat :=
  (ch.noticeArmed, ch.noticePending, drives ch.state, ch.accD, ch.accQ, ch.lastRefD, ch.lastRefQ, ch.i2t,
    ch.record.i2tLim)

theorem sound_of_same {a b : Channel} (e : b.soundPart = a.soundPart) (h : a.sound = true) : b.sound = true := by
  simp only [Channel.soundPart, Prod.mk.injEq] at e
  obtain ⟨armed, pending, drv, accD, accQ, refD, refQ, i2t, lim⟩ := e
  simpa only [Channel.sound, Channel.restsAtZero, armed, pending, drv, accD, accQ, refD, refQ, i2t, lim] using h

/-- A channel brought to rest at zero is sound. -/
theorem sound_of_zeroed {ch : Channel} (notice : ch.noticeArmed = !ch.noticePending) (zero : ch.Zeroed)
    (i2t : ch.i2t ≤ ch.record.i2tLim * 65536) : ch.sound = true := by
  obtain ⟨accD, accQ, -, -⟩ := id zero
  exact (channelSound_iff ch).2 ⟨notice, .inr zero, by simp [accD], by simp [accQ], i2t⟩

theorem integrate_natAbs_le (l : Bool) (ki : Nat) (e v : Int) {acc : Int} (h : acc.natAbs ≤ 2147418112) :
    (integrate l ki e v acc).natAbs ≤ 2147418112 := by
  unfold integrate
  split
  · exact h
  · have := clamp_bounds (lo := -accBound) (hi := accBound) (acc + ki * e) (by decide)
    unfold accBound at this ⊢
    omega

theorem i2tStep_le (al be : Int) (cont lim t : Nat) : i2tStep al be cont lim t ≤ lim * 65536 := by
  have := clamp_bounds (lo := 0) (hi := (lim : Int) * 65536)
    ((t : Int) + rshift 15 (al * al + be * be) - rshift 15 ((cont : Int) * cont)) (by positivity)
  unfold i2tStep
  omega

theorem accumulate_soundPart (x : SenseIn) (ch : Channel) : (accumulate x ch).soundPart = ch.soundPart := by
  unfold accumulate; split <;> rfl

theorem angleStep_soundPart (x : SenseIn) (ch : Channel) : (angleStep x ch).soundPart = ch.soundPart := by
  unfold angleStep; split <;> rfl

theorem rampStep_soundPart (ch : Channel) : (rampStep ch).soundPart = ch.soundPart := by
  unfold rampStep; split <;> rfl

theorem beforeReferences_soundPart (x : SenseIn) (ch : Channel) :
    (beforeReferences x ch).soundPart = ch.soundPart := by
  unfold beforeReferences
  rw [rampStep_soundPart, angleStep_soundPart, accumulate_soundPart]

theorem regulate_sound (e : LoopEnv) (x : SenseIn) {ch : Channel} (h : ch.sound = true) :
    (regulate e x ch).sound = true := by
  rw [channelSound_iff] at h ⊢
  obtain ⟨notice, rests, accD, accQ, -⟩ := h
  have limit := i2tStep_le (phaseCurrent x.aRaw ch.offA)
    (clarkeBeta (phaseCurrent x.aRaw ch.offA) (phaseCurrent x.bRaw ch.offB)) ch.record.cont ch.record.i2tLim ch.i2t
  cases drv : drives ch.state with
  | true =>
    refine ⟨notice, .inl drv, ?_, ?_, limit⟩
    · simp only [regulate, drv, if_true]; exact integrate_natAbs_le _ _ _ _ accD
    · simp only [regulate, drv, if_true]; exact integrate_natAbs_le _ _ _ _ accQ
  | false =>
    obtain ⟨zeroD, zeroQ, refD, refQ⟩ := rests.resolve_left (by simp [drv])
    have zero : (regulate e x ch).Zeroed := by simp [Channel.Zeroed, regulate, drv, zeroD, zeroQ, refD, refQ]
    exact (channelSound_iff _).1 (sound_of_zeroed notice zero limit)

theorem toFault_sound (k : Cause) (more : Word) (ia ib : Int) (v n : Nat) {ch : Channel} (h : ch.sound = true) :
    (toFault k more ia ib v n ch).sound = true := by
  obtain ⟨notice, -, -, -, i2t⟩ := (channelSound_iff ch).1 h
  refine sound_of_zeroed ?_ ⟨rfl, rfl, rfl, rfl⟩ i2t
  simp [toFault, notice]

theorem toRampdown_sound {r p : Bool} {ch : Channel} (rOH : runOrHold ch.state = true) (h : ch.sound = true) :
    (toRampdown r p ch).sound = true := by
  refine sound_of_same ?_ h
  cases e : ch.state <;> simp_all [Channel.soundPart, toRampdown, runOrHold, drives]

theorem walkTurn_sound {a b : Channel × Gate} (turn : WalkTurn a b) (h : a.1.sound = true) : b.1.sound = true := by
  cases turn with
  | sampled e x ch g => exact regulate_sound e x (sound_of_same (beforeReferences_soundPart x ch) h)
  | faulted => exact toFault_sound _ _ _ _ _ _ h
  | later => exact sound_of_same rfl h
  | ramped r p ch g rOH => exact toRampdown_sound rOH h
  | pended => exact sound_of_same rfl h

theorem turn_sound {a b : Channel × Gate} (turn : Turn a b) (h : a.1.sound = true) : b.1.sound = true := by
  cases turn with
  | walk w => exact walkTurn_sound w h
  | readied =>
    obtain ⟨notice, -, -, -, i2t⟩ := (channelSound_iff _).1 h
    exact sound_of_zeroed notice ⟨rfl, rfl, rfl, rfl⟩ i2t
  | calibrated oa ob ch g calibrate => exact sound_of_same (by simp [Channel.soundPart, calibrate, drives]) h
  | offsetRefused ia ib v n t ch g => exact toFault_sound _ _ _ _ _ _ (sound_of_same rfl h)
  | banded => exact sound_of_same rfl h

theorem clearRequest_soundPart (s : State) (ch : Channel) : (clearRequest s ch).soundPart = ch.soundPart := by
  unfold clearRequest
  split
  · next fault => split <;> [split; skip] <;> simp [Channel.soundPart, fault, drives]
  · rfl

theorem calibrationRequest_soundPart (ch : Channel) : (calibrationRequest ch).soundPart = ch.soundPart := by
  unfold calibrationRequest
  split <;> simp_all [Channel.soundPart, drives]

theorem holdReturn_soundPart (ch : Channel) : (holdReturn ch).soundPart = ch.soundPart := by
  unfold holdReturn
  split
  · next hold => simp [Channel.soundPart, hold, drives]
  · rfl

theorem writeChannel_sound (f : Nat) (w : Word) {ch : Channel} (h : ch.sound = true) :
    (writeChannel f w ch).sound = true := by
  unfold writeChannel
  dsimp only
  split <;> try exact sound_of_same rfl h
  unfold writeI2tLim
  dsimp only
  obtain ⟨notice, rests, accD, accQ, -⟩ := (channelSound_iff ch).1 h
  split
  · exact (channelSound_iff _).2 ⟨notice, rests, accD, accQ, le_refl _⟩
  · next below => exact (channelSound_iff _).2 ⟨notice, rests, accD, accQ, not_lt.1 below⟩

theorem missTaken_sound (atLimit : Bool) {ch : Channel} (h : ch.sound = true) :
    (missTaken atLimit ch).sound = true := by
  unfold missTaken
  split
  · next run =>
    split
    · exact toRampdown_sound (by rw [run]; rfl) h
    · exact sound_of_same (by simp [Channel.soundPart, toHold, run, drives]) h
  · next hold =>
    split
    · exact toRampdown_sound (by rw [hold]; rfl) h
    · exact h
  all_goals exact h

theorem order_sound {a b : Channel × Gate} (order : Order a b) (h : a.1.sound = true) : b.1.sound = true := by
  cases order with
  | returned => exact sound_of_same (holdReturn_soundPart _) h
  | cleared => exact sound_of_same (clearRequest_soundPart _ _) h
  | calibrating => exact sound_of_same (calibrationRequest_soundPart _) h
  | refused => exact sound_of_same rfl h
  | run =>
    obtain ⟨notice, -, -, -, i2t⟩ := (channelSound_iff _).1 h
    exact sound_of_zeroed notice ⟨rfl, rfl, rfl, rfl⟩ i2t
  | ramped r p ch g rOH => exact toRampdown_sound rOH h
  | acked =>
    obtain ⟨-, rests, accD, accQ, i2t⟩ := (channelSound_iff _).1 h
    exact (channelSound_iff _).2 ⟨rfl, rests, accD, accQ, i2t⟩
  | missed => exact missTaken_sound _ h
  | written f w => exact writeChannel_sound f w h
  | published => exact sound_of_same rfl h
  | handed => exact h
  | reset => rfl

/-! ## Every command -/

theorem periodWork_counters (x : SampleInputs) (o : SampleOrder) (s : State) :
    (periodWork x o s).counters = s.counters := rfl

theorem periodWork_channels (x : SampleInputs) (o : SampleOrder) (s : State) :
    (periodWork x o s).channels = s.channels := rfl

/-- Every channel has a property. -/
def EachChan (q : Channel → Prop) (s : State) : Prop := ∀ c, q (s.chan c)

section
variable {q : Channel → Prop} (turn : ∀ {a b : Channel × Gate}, Turn a b → q a.1 → q b.1)
  (order : ∀ {a b : Channel × Gate}, Order a b → q a.1 → q b.1)

include turn in
theorem Turned.eachChan {s t : State} (h : Turned s t) (hs : EachChan q s) : EachChan q t :=
  fun c => keeps_of_chain (p := fun x => q x.1) turn (h.turns c) (hs c)

include order in
theorem Ordered.eachChan {s t : State} (h : Ordered s t) (hs : EachChan q s) : EachChan q t :=
  fun c => keeps_of_chain (p := fun x => q x.1) order (h.orders c) (hs c)

theorem eachChan_of_same {s t : State} (h : t.channels = s.channels) (hs : EachChan q s) : EachChan q t := by
  intro c
  have := hs c
  rwa [State.chan, ← h] at this

include turn order in
/-- A property of one channel that every turn and every order keeps is kept by every command. -/
theorem effect_eachChan {s t : State} {i : Instr} (e : Effect s i t) (h : EachChan q s) : EachChan q t := by
  have settled := (settle_turned s).eachChan turn h
  cases e with
  | turned turned => exact turned.eachChan turn h
  | received received => exact eachChan_of_same (by rw [received.only]) h
  | advanced n => exact (advanceTo_turned n s).eachChan turn h
  | pinReset n =>
    intro c
    have : (assertReset n s).chan c = {} := by simp [State.chan, assertReset]
    rw [this]
    exact order (.reset 0 (s.chan c) (s.gate c)) (h c)
  | released n straps => exact eachChan_of_same (by unfold releaseReset; split <;> rfl) h
  | inhibited n o =>
    have before := (finishAdvanced_turned n s).eachChan turn h
    exact (resume_turned _).turned.eachChan turn
      ((detectAll_turned (k := .inhibit) nofun o _).eachChan turn (eachChan_of_same rfl before))
  | uninhibited n => exact (advanceTo_turned n s).eachChan turn h
  | period x o =>
    have before := (completeAll_ordered _).eachChan order settled
    exact (resume_turned _).turned.eachChan turn (eachChan_of_same (periodWork_channels x o _) before)
  | computed c => exact (completeComputation_ordered c _).eachChan order settled
  | edge c l n lv => exact (advanceTo_turned n s).eachChan turn h
  | deadTime c l n => exact (advanceTo_turned n s).eachChan turn h
  | missed u n d hu b =>
    exact (announceMiss_ordered b _).eachChan order (eachChan_of_same rfl (hu.eachChan turn h))
  | frameEnd n rest u v g hu hv hg =>
    have received : EachChan q v := eachChan_of_same (by rw [hv.only]) (hu.eachChan turn h)
    have closed : EachChan q (closeReception g v) := eachChan_of_same rfl received
    exact (resume_turned _).turned.eachChan turn ((settleFrame_ordered g v).eachChan order closed)
  | frameOpen n rest u v hu hv => exact eachChan_of_same (by rw [hv.only]) (hu.eachChan turn h)

end

theorem channelsSound_iff (s : State) : s.channelsSound = true ↔ EachChan (fun ch => ch.sound = true) s := by
  simp only [State.channelsSound, List.all_eq_true, EachChan]
  exact ⟨fun h c => h c (by fin_cases c <;> simp [allChans]), fun h c _ => h c⟩

theorem effect_bounded {s t : State} {i : Instr} (e : Effect s i t) (h : s.counters.bounded = true) :
    t.counters.bounded = true := by
  have same {u v : State} (k : v.counters = u.counters) (hu : u.counters.bounded = true) :
      v.counters.bounded = true := by rw [k]; exact hu
  have settled := same (settle_turned s).keeps.counters h
  cases e with
  | turned turned => exact same turned.keeps.counters h
  | received received => exact same (by rw [received.only]) h
  | advanced n => exact same (advanceTo_turned n s).keeps.counters h
  | pinReset n => rfl
  | released n straps => exact same (by unfold releaseReset; split <;> rfl) h
  | inhibited n o =>
    have detected := (detectAll_keeps o .inhibit ({ finishSample (advanceTo n s) with inhnLow := true }.mapGates
      (gateInhibit (finishSample (advanceTo n s)).now))).trans (resume_keeps _)
    exact same detected.counters (same (finishAdvanced_turned n s).keeps.counters h)
  | uninhibited n => exact same (advanceTo_turned n s).keeps.counters h
  | period x o =>
    have before := same (periodWork_counters x o _) ((completeAll_ordered _).counters settled)
    exact same (resume_keeps _).counters before
  | computed c => exact (completeComputation_ordered c _).counters settled
  | edge c l n lv => exact same (advanceTo_turned n s).keeps.counters h
  | deadTime c l n => exact same (advanceTo_turned n s).keeps.counters h
  | missed u n d hu b => exact (announceMiss_ordered b _).counters (missed_bounded (same hu.keeps.counters h))
  | frameEnd n rest u v g hu hv hg =>
    have received : v.counters.bounded = true := same (by rw [hv.only]) (same hu.keeps.counters h)
    exact same (resume_keeps _).counters ((settleFrame_ordered g v).counters received)
  | frameOpen n rest u v hu hv => exact same (by rw [hv.only]) (same hu.keeps.counters h)

/-- Settles O58: every turn and every order keeps a channel sound, and no order raises a counter above its
bound. -/
theorem everyStepKeepsChannelsAndCountersSound : Obligations.EveryStepKeepsChannelsAndCountersSound := by
  unfold Obligations.EveryStepKeepsChannelsAndCountersSound
  refine fun s t h => ⟨fun hs => ?_, fun hs => ?_⟩
  · rw [channelsSound_iff] at hs ⊢
    exact holds_after_step (p := EachChan fun ch => ch.sound = true) h (fun _ => id)
      (fun e => effect_eachChan turn_sound order_sound e) hs
  · exact holds_after_step (p := fun s => s.counters.bounded = true) h (fun _ => id) effect_bounded hs

end Sys2Proof.Machine
end

section
/-! The switches stay safe (R55 to R62, R124), and a switch goes on only when its partner has been off for the
dead time (R57). -/

namespace Sys2Proof.Machine

open Sys2Proof Relation

/-! ## The gates of one channel -/

theorem quiet_iff (g : Gate) : g.quiet = true ↔ ∀ l, (gateLeg g l).level = none := by
  simp only [Gate.quiet, Bool.and_eq_true, Option.isNone_iff_eq_none, and_assoc]
  exact ⟨fun ⟨a, b, c⟩ l => by cases l <;> assumption, fun h => ⟨h .a, h .b, h .c⟩⟩

/-- The parts of safe gates. -/
theorem gateSafe_iff (inhn : Bool) (g : Gate) : g.safe inhn = true ↔
    (∀ l, (gateLeg g l).safe = true) ∧ (g.enable = true ∧ inhn = false ∨ ∀ l, (gateLeg g l).level = none) ∧
      (g.enable = true ∨ g.pendingTriple = none ∧ g.activeTriple = none) := by
  have legs : (∀ l, (gateLeg g l).safe = true) ↔ g.legA.safe = true ∧ g.legB.safe = true ∧ g.legC.safe = true :=
    ⟨fun h => ⟨h .a, h .b, h .c⟩, fun ⟨a, b, c⟩ l => by cases l <;> assumption⟩
  rw [legs, ← quiet_iff]
  simp only [Gate.safe, Bool.and_eq_true, Bool.or_eq_true, Bool.not_eq_true', Option.isNone_iff_eq_none, and_assoc,
    or_comm (a := g.quiet = true)]

/-- Gates without a level, an enable or a triple are safe. -/
theorem gateSafe_of_switchedOff {g : Gate} (h : SwitchedOff g) (inhn : Bool) : g.safe inhn = true := by
  obtain ⟨-, pending, active, legs⟩ := h
  refine (gateSafe_iff inhn g).2 ⟨fun l => ?_, .inr fun l => (legs l).1, .inr ⟨pending, active⟩⟩
  obtain ⟨level, high, low⟩ := legs l
  simp [LegState.safe, level, high, low]

/-- Any leg may be commanded or take its waiting switch on while the output enable is on and INHN is released. -/
theorem gateSafe_of_enabled {g h : Gate} (safe : g.safe false = true) (on : h.enable = true)
    (legs : ∀ l, (gateLeg g l).safe = true → (gateLeg h l).safe = true) : h.safe false = true := by
  have own := ((gateSafe_iff false g).1 safe).1
  exact (gateSafe_iff false h).2 ⟨fun l => legs l (own l), .inl ⟨on, rfl⟩, .inl on⟩

theorem gateLevels_enable (inhn : Bool) (k : Carrier) (t tau : Nat) (g : Gate) :
    (gateLevels inhn k t tau g).enable = g.enable := by
  unfold gateLevels; split <;> [split; skip] <;> rfl

theorem gateApply_enable (g : Gate) : (gateApply g).enable = g.enable := by
  unfold gateApply; split <;> [split; skip] <;> rfl

theorem gateLevels_leg (inhn : Bool) (k : Carrier) (t tau : Nat) (g : Gate) (l : Leg) :
    gateLeg (gateLevels inhn k t tau g) l = gateLeg g l ∨
      ∃ lv, gateLeg (gateLevels inhn k t tau g) l = legCommand k.deadTime t lv (gateLeg g l) := by
  unfold gateLevels
  split
  · split
    · next tr _ => exact .inr ⟨levelAt k.h (tripleLeg tr l) tau, by cases l <;> rfl⟩
    · exact .inl rfl
  · exact .inl rfl

theorem gateApply_leg (g : Gate) (l : Leg) : gateLeg (gateApply g) l = gateLeg g l := by
  unfold gateApply; split <;> [split; skip] <;> cases l <;> rfl

theorem gateLevels_safe {inhn : Bool} (k : Carrier) (t tau : Nat) {g : Gate} (h : g.safe inhn = true) :
    (gateLevels inhn k t tau g).safe inhn = true := by
  cases on : g.enable && !inhn with
  | false => unfold gateLevels; rw [on]; exact h
  | true =>
    obtain ⟨enable, released⟩ := Bool.and_eq_true_iff.1 on
    obtain rfl : inhn = false := by simpa using released
    refine gateSafe_of_enabled h (by rw [gateLevels_enable]; exact enable) fun l safe => ?_
    rcases gateLevels_leg false k t tau g l with e | ⟨lv, e⟩
    · rw [e]; exact safe
    · rw [e]; exact legCommand_safe _ _ _ safe

theorem gateApply_safe {inhn : Bool} {g : Gate} (h : g.safe inhn = true) : (gateApply g).safe inhn = true := by
  obtain ⟨legs, levels, triples⟩ := (gateSafe_iff inhn g).1 h
  refine (gateSafe_iff inhn _).2 ⟨fun l => by rw [gateApply_leg]; exact legs l, ?_, ?_⟩
  · rw [gateApply_enable]
    exact levels.imp_right fun none l => by rw [gateApply_leg]; exact none l
  · rw [gateApply_enable]
    cases on : g.enable with
    | true => exact .inl rfl
    | false => right; unfold gateApply; rw [on]; exact triples.resolve_left (by simp [on])

/-- The inhibit leaves safe gates with every switch off (R60). -/
theorem gateInhibit_safe (t : Nat) {inhn : Bool} {g : Gate} (h : g.safe inhn = true) :
    (gateInhibit t g).safe true = true := by
  obtain ⟨-, -, triples⟩ := (gateSafe_iff inhn g).1 h
  refine (gateSafe_iff true _).2 ⟨fun l => ?_, .inr fun l => ?_, triples⟩
  · rw [gateInhibit_legs]; exact legOff_safe _ _
  · rw [gateInhibit_legs]; rfl

/-- Safe gates while INHN is asserted are safe while it is released. -/
theorem gateSafe_released {inhn : Bool} {g : Gate} (h : g.safe inhn = true) : g.safe false = true := by
  obtain ⟨legs, levels, triples⟩ := (gateSafe_iff inhn g).1 h
  exact (gateSafe_iff false g).2 ⟨legs, levels.imp_left fun ⟨on, _⟩ => ⟨on, rfl⟩, triples⟩

/-! ## A channel and its gates -/

/-- The gates of a channel are safe and its output enable is on exactly while it drives (R55 to R60). -/
def GateSafe (inhn : Bool) (x : Channel × Gate) : Prop :=
  x.2.safe inhn = true ∧ x.2.enable = drives x.1.state

theorem GateSafe.of_drives {inhn : Bool} {ch ch' : Channel} {g : Gate} (h : GateSafe inhn (ch, g))
    (e : drives ch'.state = drives ch.state) : GateSafe inhn (ch', g) := ⟨h.1, h.2.trans e.symm⟩

theorem gateSafe_switchedOff (inhn : Bool) (t : Nat) (g : Gate) {ch : Channel} (h : drives ch.state = false) :
    GateSafe inhn (ch, gateSwitchOff t g) :=
  ⟨gateSafe_of_switchedOff (gateSwitchOff_switchedOff t g) inhn, h.symm⟩

theorem drives_of_runOrHold {x : ChState} (h : runOrHold x = true) : drives x = true := by
  cases x <;> simp_all [runOrHold, drives]

theorem walkTurn_gateSafe {inhn : Bool} {a b : Channel × Gate} (turn : WalkTurn a b) (h : GateSafe inhn a) :
    GateSafe inhn b := by
  cases turn with
  | sampled e x ch g => exact h.of_drives (by rw [regulate_state, beforeReferences_state])
  | faulted => exact gateSafe_switchedOff inhn _ _ rfl
  | later => exact h.of_drives rfl
  | ramped r p ch g rOH => exact h.of_drives (drives_of_runOrHold rOH).symm
  | pended => exact h.of_drives rfl

theorem turn_gateSafe {inhn : Bool} {a b : Channel × Gate} (turn : Turn a b) (h : GateSafe inhn a) :
    GateSafe inhn b := by
  cases turn with
  | walk w => exact walkTurn_gateSafe w h
  | readied => exact gateSafe_switchedOff inhn _ _ rfl
  | calibrated oa ob ch g calibrate => exact h.of_drives (by rw [calibrate]; rfl)
  | offsetRefused => exact gateSafe_switchedOff inhn _ _ rfl
  | banded => exact h.of_drives rfl

theorem clearRequest_drives (s : State) (ch : Channel) : drives (clearRequest s ch).state = drives ch.state :=
  congrArg (fun x => x.2.2.1) (clearRequest_soundPart s ch)

theorem calibrationRequest_drives (ch : Channel) : drives (calibrationRequest ch).state = drives ch.state :=
  congrArg (fun x => x.2.2.1) (calibrationRequest_soundPart ch)

theorem holdReturn_drives (ch : Channel) : drives (holdReturn ch).state = drives ch.state :=
  congrArg (fun x => x.2.2.1) (holdReturn_soundPart ch)

theorem missTaken_drives (atLimit : Bool) (ch : Channel) : drives (missTaken atLimit ch).state = drives ch.state := by
  cases rOH : runOrHold ch.state with
  | false => rw [missTaken_rest rOH]
  | true =>
    rw [drives_of_runOrHold rOH]
    cases atLimit with
    | true => rw [missTaken_limit rOH]; rfl
    | false =>
      unfold missTaken
      cases e : ch.state <;> simp_all [runOrHold, drives]

theorem writeChannel_state (f : Nat) (w : Word) (ch : Channel) : (writeChannel f w ch).state = ch.state := by
  unfold writeChannel
  dsimp only
  split <;> try rfl
  unfold writeI2tLim
  dsimp only
  split <;> rfl

theorem order_gateSafe {inhn : Bool} {a b : Channel × Gate} (order : Order a b) (h : GateSafe inhn a) :
    GateSafe inhn b := by
  cases order with
  | returned => exact h.of_drives (holdReturn_drives _)
  | cleared => exact h.of_drives (clearRequest_drives _ _)
  | calibrating => exact h.of_drives (calibrationRequest_drives _)
  | refused => exact h.of_drives rfl
  | run sch ch g ready =>
    obtain ⟨safe, enable⟩ := h
    obtain ⟨legs, levels, -⟩ := (gateSafe_iff inhn g).1 safe
    have off : g.enable = false := by rw [enable, ready]; rfl
    exact ⟨(gateSafe_iff inhn _).2 ⟨legs, .inr (levels.resolve_left (by simp [off])), .inl rfl⟩, rfl⟩
  | ramped r p ch g rOH => exact h.of_drives (drives_of_runOrHold rOH).symm
  | acked => exact h.of_drives rfl
  | missed => exact h.of_drives (missTaken_drives _ _)
  | written => exact h.of_drives (by rw [writeChannel_state])
  | published => exact h.of_drives rfl
  | handed tr ch g drv =>
    obtain ⟨safe, enable⟩ := h
    obtain ⟨legs, levels, -⟩ := (gateSafe_iff inhn g).1 safe
    have on : g.enable = true := enable.trans drv
    exact ⟨(gateSafe_iff inhn _).2 ⟨legs, levels, .inl on⟩, enable⟩
  | reset => exact gateSafe_switchedOff inhn _ _ rfl

/-! ## The whole state -/

/-- The gates of every channel are safe. -/
def EachGate (s : State) : Prop := ∀ c, GateSafe s.inhnLow (s.chan c, s.gate c)

/-- No channel drives. -/
def Undriven (s : State) : Prop := ∀ c, drives (s.chan c).state = false

/-- What RESETN holds while it is asserted (R62, R124). -/
def ResetHolds (s : State) : Prop := s.resetLow = true → s.port.receiving = none ∧ Undriven s

theorem gatesSafe_iff (s : State) : s.gatesSafe = true ↔ EachGate s ∧ ResetHolds s := by
  have all (p : Chan → Bool) : allChans.all p = true ↔ ∀ c, p c = true := by
    rw [List.all_eq_true]; exact ⟨fun h c => h c (mem_allChans c), fun h c _ => h c⟩
  simp only [State.gatesSafe, Bool.and_eq_true, all, beq_iff_eq, Bool.or_eq_true, Bool.not_eq_true',
    Option.isNone_iff_eq_none]
  constructor
  · rintro ⟨port, chans⟩
    refine ⟨fun c => (chans c).1, fun low => ⟨port.resolve_left (by simp [low]), fun c => ?_⟩⟩
    obtain ⟨⟨-, enable⟩, off⟩ := chans c
    exact enable.symm.trans (off.resolve_left (by simp [low]))
  · rintro ⟨gates, holds⟩
    cases low : s.resetLow with
    | false => exact ⟨.inl rfl, fun c => ⟨gates c, .inl rfl⟩⟩
    | true =>
      obtain ⟨port, undriven⟩ := holds low
      exact ⟨.inr port, fun c => ⟨gates c, .inr ((gates c).2.trans (undriven c))⟩⟩

theorem Turned.eachGate {s t : State} (h : Turned s t) (hs : EachGate s) : EachGate t := fun c => by
  rw [h.keeps.inhnLow]; exact keeps_of_chain (p := GateSafe s.inhnLow) turn_gateSafe (h.turns c) (hs c)

theorem Ordered.eachGate {s t : State} (h : Ordered s t) (hs : EachGate s) : EachGate t := fun c => by
  rw [h.inhnLow]; exact keeps_of_chain (p := GateSafe s.inhnLow) order_gateSafe (h.orders c) (hs c)

/-- No turn makes a channel drive. -/
theorem turn_undriven {a b : Channel × Gate} (turn : Turn a b) (h : drives a.1.state = false) :
    drives b.1.state = false := by
  cases turn with
  | walk w =>
    cases w with
    | sampled => rw [regulate_state, beforeReferences_state]; exact h
    | ramped r p ch g rOH => exact absurd (drives_of_runOrHold rOH) (by simp [h])
    | faulted => rfl
    | later | pended => exact h
  | readied | calibrated | offsetRefused => rfl
  | banded => exact h

theorem Turned.undriven {s t : State} (h : Turned s t) (hs : Undriven s) : Undriven t :=
  fun c => keeps_of_chain (p := fun x => drives x.1.state = false) turn_undriven (h.turns c) (hs c)

theorem Turned.resetHolds {s t : State} (h : Turned s t) (hs : ResetHolds s) : ResetHolds t := fun low => by
  obtain ⟨port, undriven⟩ := hs (by rw [← h.keeps.resetLow]; exact low)
  exact ⟨by rw [h.keeps.port]; exact port, h.undriven undriven⟩

theorem Turned.safe {s t : State} (h : Turned s t) (hs : EachGate s ∧ ResetHolds s) : EachGate t ∧ ResetHolds t :=
  ⟨h.eachGate hs.1, h.resetHolds hs.2⟩

theorem Received.safe {s t : State} (h : Received s t) (hs : EachGate s ∧ ResetHolds s) :
    EachGate t ∧ ResetHolds t := by
  have closed := h.closed
  have only := h.only
  generalize t.port = port at *
  generalize t.service = service at *
  generalize t.freeUsed = free at *
  subst only
  exact ⟨hs.1, fun low => ⟨closed low (hs.2 low).1, (hs.2 low).2⟩⟩

/-- Orders that make no channel drive keep what RESETN holds. -/
theorem Ordered.safe {s t : State} (h : Ordered s t) (drv : ∀ c, drives (t.chan c).state = drives (s.chan c).state)
    (hs : EachGate s ∧ ResetHolds s) : EachGate t ∧ ResetHolds t := by
  refine ⟨h.eachGate hs.1, fun low => ?_⟩
  obtain ⟨port, undriven⟩ := hs.2 (by rw [← h.resetLow]; exact low)
  exact ⟨by rw [h.port]; exact port, fun c => (drv c).trans (undriven c)⟩

theorem completeComputation_state (c d : Chan) (s : State) :
    ((completeComputation c s).chan d).state = (s.chan d).state := by
  unfold completeComputation
  dsimp only
  split
  · rfl
  · have published (ch : Channel) (h : ch.state = (s.chan c).state) :
        ((s.setChan c ch).chan d).state = (s.chan d).state := by
      by_cases e : d = c
      · subst e; rw [State.setChan_chan_same, h]
      · rw [State.setChan_chan_other s ch e]
    split
    · rw [State.modGate_chan]; exact published _ rfl
    · exact published _ rfl

/-- New levels for one leg of a driving channel. -/
theorem modLeg_safe {s : State} (c : Chan) (l : Leg) (f : LegState → LegState)
    (safe : ∀ x, x.safe = true → (f x).safe = true)
    (levels : (gateLeg (s.gate c) l).level = none → (f (gateLeg (s.gate c) l)).level = none)
    (hs : EachGate s ∧ ResetHolds s) :
    EachGate (s.modGate c fun g => setGateLeg g l (f (gateLeg g l))) ∧
      ResetHolds (s.modGate c fun g => setGateLeg g l (f (gateLeg g l))) := by
  refine ⟨fun d => ?_, hs.2⟩
  rw [State.modGate_chan]
  by_cases e : d = c
  swap
  · rw [State.modGate_gate_other s _ e]; exact hs.1 d
  subst e
  rw [State.modGate_gate_same]
  obtain ⟨gate, enable⟩ := hs.1 d
  obtain ⟨legs, quiet, triples⟩ := (gateSafe_iff _ _).1 gate
  refine ⟨(gateSafe_iff _ _).2 ⟨fun m => ?_, ?_, by simpa using triples⟩, by simpa using enable⟩
  · by_cases same : m = l
    · subst same; rw [gateLeg_setGateLeg_same]; exact safe _ (legs m)
    · rw [gateLeg_setGateLeg_other _ same]; exact legs m
  · rw [setGateLeg_enable]
    refine quiet.imp_right fun none m => ?_
    by_cases same : m = l
    · subst same; rw [gateLeg_setGateLeg_same]; exact levels (none m)
    · rw [gateLeg_setGateLeg_other _ same]; exact none m

theorem legTurnOn_level (x : LegState) : (legTurnOn x).level = x.level := by
  unfold legTurnOn
  split
  · rfl
  · split <;> simp_all

/-! ## Every command keeps the switches safe -/

theorem periodWork_chan (x : SampleInputs) (o : SampleOrder) (s : State) (c : Chan) :
    (periodWork x o s).chan c = s.chan c := rfl

theorem periodWork_gate (x : SampleInputs) (o : SampleOrder) (s : State) (c : Chan) :
    (periodWork x o s).gate c = gateLevels s.inhnLow (carrierStart s.carrier s.station)
      (max s.now s.carrier.nextPeriod) (max s.now s.carrier.nextPeriod - s.carrier.nextPeriod)
      (gateApply (s.gate c)) := by
  simp only [periodWork, State.gate, State.withMoment, Fin.getElem_fin, Vector.getElem_map]
  rfl

theorem periodWork_resetLow (x : SampleInputs) (o : SampleOrder) (s : State) :
    (periodWork x o s).resetLow = s.resetLow := rfl

theorem periodWork_inhnLow (x : SampleInputs) (o : SampleOrder) (s : State) :
    (periodWork x o s).inhnLow = s.inhnLow := rfl

theorem periodWork_eachGate (x : SampleInputs) (o : SampleOrder) {s : State} (h : EachGate s) :
    EachGate (periodWork x o s) := fun c => by
  obtain ⟨safe, enable⟩ := h c
  rw [periodWork_inhnLow, periodWork_chan, periodWork_gate]
  refine ⟨gateLevels_safe _ _ _ (gateApply_safe safe), ?_⟩
  rw [← enable]
  exact (gateLevels_enable ..).trans (gateApply_enable _)

/-- While a pin is not asserted RESETN holds nothing. -/
theorem resetHolds_of_high {s : State} (h : s.resetLow = false) : ResetHolds s :=
  fun low => absurd low (by simp [h])

theorem inhibit_safe {s : State} (hs : EachGate s ∧ ResetHolds s) (t : Nat) :
    EachGate ({ s with inhnLow := true }.mapGates (gateInhibit t)) ∧
      ResetHolds ({ s with inhnLow := true }.mapGates (gateInhibit t)) := by
  refine ⟨fun c => ?_, hs.2⟩
  rw [State.mapGates_gate, State.mapGates_chan]
  exact ⟨gateInhibit_safe t (hs.1 c).1, (hs.1 c).2⟩

theorem uninhibit_safe {s : State} (hs : EachGate s ∧ ResetHolds s) (k : Carrier) (t tau : Nat) :
    EachGate ({ s with inhnLow := false }.mapGates (gateLevels false k t tau)) ∧
      ResetHolds ({ s with inhnLow := false }.mapGates (gateLevels false k t tau)) := by
  refine ⟨fun c => ?_, hs.2⟩
  rw [State.mapGates_gate, State.mapGates_chan]
  exact ⟨gateLevels_safe k t tau (gateSafe_released (hs.1 c).1), (gateLevels_enable ..).trans (hs.1 c).2⟩

theorem assertReset_safe (n : Nat) (s : State) : EachGate (assertReset n s) ∧ ResetHolds (assertReset n s) := by
  have chan (c : Chan) : (assertReset n s).chan c = {} := by simp [State.chan, assertReset]
  have gate (c : Chan) : (assertReset n s).gate c = gateSwitchOff (max s.now n) (s.gate c) := by
    simp [State.gate, assertReset]
  refine ⟨fun c => ?_, fun _ => ⟨rfl, fun c => by rw [chan]; rfl⟩⟩
  rw [chan, gate]
  exact gateSafe_switchedOff _ _ _ rfl

theorem releaseReset_safe (n : Nat) (straps : Byte) {s : State} (hs : EachGate s ∧ ResetHolds s) :
    EachGate (releaseReset n straps s) ∧ ResetHolds (releaseReset n straps s) := by
  unfold releaseReset
  split
  · exact ⟨hs.1, resetHolds_of_high rfl⟩
  · exact hs

theorem effect_safe {s t : State} {i : Instr} (e : Effect s i t) (h : EachGate s ∧ ResetHolds s) :
    EachGate t ∧ ResetHolds t := by
  have settled := (settle_turned s).safe h
  cases e with
  | turned turned => exact turned.safe h
  | received received => exact received.safe h
  | advanced n => exact (advanceTo_turned n s).safe h
  | pinReset n => exact assertReset_safe n s
  | released n straps => exact releaseReset_safe n straps h
  | inhibited n o =>
    have before := (finishAdvanced_turned n s).safe h
    exact (resume_turned _).turned.safe ((detectAll_turned (k := .inhibit) nofun o _).safe (inhibit_safe before _))
  | uninhibited n => exact uninhibit_safe ((advanceTo_turned n s).safe h) _ _ _
  | period x o high =>
    have before := (completeAll_ordered _).eachGate settled.1
    have low : (periodWork x o (completeAll (settle s))).resetLow = false := by
      rw [periodWork_resetLow, (completeAll_keeps _).resetLow, (settle_turned s).keeps.resetLow, high]
    exact (resume_turned _).turned.safe ⟨periodWork_eachGate x o before, resetHolds_of_high low⟩
  | computed c => exact (completeComputation_ordered c _).safe (fun d => by rw [completeComputation_state]) settled
  | edge c l n lv level =>
    refine modLeg_safe c l _ (fun x => legCommand_safe _ _ _) (fun none => ?_) ((advanceTo_turned n s).safe h)
    rw [none] at level; cases level
  | deadTime c l n =>
    refine modLeg_safe c l _ (fun x => legTurnOn_safe) (fun none => ?_) ((advanceTo_turned n s).safe h)
    rw [legTurnOn_level, none]
  | missed u n d hu b =>
    have counted : EachGate (missCounted d u) ∧ ResetHolds (missCounted d u) := hu.safe h
    refine (announceMiss_ordered b _).safe (fun c => ?_) counted
    rw [announceMiss_eq, State.mapChans_chan, missTaken_drives]
  | frameEnd n rest u v g hu hv hg =>
    have received := hv.safe (hu.safe h)
    have high : v.resetLow = false := by
      by_contra low
      have none := (received.2 (by simpa using low)).1
      rw [none] at hg; cases hg
    have gates : EachGate (closeReception g v) := received.1
    have settledFrame := settleFrame_ordered g v
    refine (resume_turned _).turned.safe ⟨settledFrame.eachGate gates, resetHolds_of_high ?_⟩
    rw [settledFrame.resetLow]; exact high
  | frameOpen n rest u v hu hv => exact hv.safe (hu.safe h)

/-- Settles O57: every turn and every order keeps the gates of a channel safe; what RESETN holds is kept because
no turn makes a channel drive and no frame is committed while it is asserted. -/
theorem everyStepKeepsTheSwitchesSafe : Obligations.EveryStepKeepsTheSwitchesSafe := by
  unfold Obligations.EveryStepKeepsTheSwitchesSafe
  intro s t hs h
  rw [gatesSafe_iff] at hs ⊢
  exact holds_after_step (p := fun s => EachGate s ∧ ResetHolds s) h (fun _ => id) effect_safe hs

/-! ## A switch goes on only after the dead time (R57) -/

/-- A leg stands as before, or has lost its level and both switches. -/
def LegKept (x y : LegState) : Prop := y = x ∨ y.level = none ∧ y.highOn = false ∧ y.lowOn = false

/-- The legs of a channel's gates are kept. -/
def GateKept (x y : Channel × Gate) : Prop := ∀ l, LegKept (gateLeg x.2 l) (gateLeg y.2 l)

/-- A switch that goes on between `x` and `y` has its partner off, for the dead time at tick `t`. -/
def LegOnSafely (dt t : Nat) (x y : LegState) : Prop :=
  (x.highOn = false → y.highOn = true → y.lowOn = false ∧ y.lowOffAt + dt ≤ t) ∧
    (x.lowOn = false → y.lowOn = true → y.highOn = false ∧ y.highOffAt + dt ≤ t)

theorem LegKept.refl (x : LegState) : LegKept x x := .inl rfl

theorem LegKept.trans {x y z : LegState} (h : LegKept x y) (k : LegKept y z) : LegKept x z := by
  rcases k with rfl | off
  · exact h
  · exact .inr off

theorem legOff_kept (t : Nat) (x : LegState) : LegKept x (legOff t x) := .inr ⟨rfl, rfl, rfl⟩

theorem LegKept.onSafely {x y : LegState} (h : LegKept x y) (dt t : Nat) : LegOnSafely dt t x y := by
  rcases h with rfl | ⟨-, high, low⟩
  · exact ⟨fun off on => absurd on (by simp [off]), fun off on => absurd on (by simp [off])⟩
  · exact ⟨fun _ on => absurd on (by simp [high]), fun _ on => absurd on (by simp [low])⟩

theorem LegOnSafely.of_kept {dt t : Nat} {x y z : LegState} (h : LegOnSafely dt t x y) (k : LegKept y z) :
    LegOnSafely dt t x z := by
  rcases k with rfl | ⟨-, high, low⟩
  · exact h
  · exact ⟨fun _ on => absurd on (by simp [high]), fun _ on => absurd on (by simp [low])⟩

/-- A level commanded after the leg was kept. -/
theorem legCommand_onSafely {x y : LegState} (h : LegKept x y) (dt t : Nat) (lv : Level) :
    LegOnSafely dt t x (legCommand dt t lv y) := by
  rcases h with rfl | ⟨-, high, low⟩
  · exact ⟨legCommand_highOn dt t lv y, legCommand_lowOn dt t lv y⟩
  · exact ⟨fun _ => legCommand_highOn dt t lv y high, fun _ => legCommand_lowOn dt t lv y low⟩

theorem turn_gateKept {a b : Channel × Gate} (turn : Turn a b) : GateKept a b := by
  intro l
  cases turn with
  | walk w =>
    cases w with
    | faulted => cases l <;> exact legOff_kept _ _
    | sampled | later | ramped | pended => exact .refl _
  | readied | offsetRefused => cases l <;> exact legOff_kept _ _
  | calibrated | banded => exact .refl _

theorem order_gateKept {a b : Channel × Gate} (order : Order a b) : GateKept a b := by
  intro l
  cases order with
  | reset => cases l <;> exact legOff_kept _ _
  | run | handed => cases l <;> exact .refl _
  | returned | cleared | calibrating | refused | ramped | acked | missed | written | published => exact .refl _

theorem gateKept_of_chain {r : Channel × Gate → Channel × Gate → Prop} (step : ∀ {a b}, r a b → GateKept a b)
    {a b : Channel × Gate} (chain : ReflTransGen r a b) : GateKept a b := by
  induction chain with
  | refl => exact fun l => .refl _
  | tail _ last ih => exact fun l => (ih l).trans (step last l)

theorem Turned.legKept {s t : State} (h : Turned s t) (c : Chan) (l : Leg) :
    LegKept (gateLeg (s.gate c) l) (gateLeg (t.gate c) l) := gateKept_of_chain turn_gateKept (h.turns c) l

theorem Ordered.legKept {s t : State} (h : Ordered s t) (c : Chan) (l : Leg) :
    LegKept (gateLeg (s.gate c) l) (gateLeg (t.gate c) l) := gateKept_of_chain order_gateKept (h.orders c) l

theorem gateLevels_onSafely (inhn : Bool) (k : Carrier) (t tau : Nat) {x : LegState} {g : Gate} {l : Leg}
    (h : LegKept x (gateLeg g l)) :
    LegOnSafely k.deadTime t x (gateLeg (gateLevels inhn k t tau g) l) := by
  rcases gateLevels_leg inhn k t tau g l with e | ⟨lv, e⟩
  · rw [e]; exact h.onSafely _ _
  · rw [e]; exact legCommand_onSafely h _ _ _

/-- A waiting switch goes on at the tick of its dead-time end (R57). -/
theorem legTurnOn_onSafely {k : Carrier} {now n t : Nat} {g : Gate} {l : Leg}
    (due : deadTimeEndAt k now g l = some n) (reached : n ≤ t) {y : LegState} (h : LegKept (gateLeg g l) y) :
    LegOnSafely k.deadTime t (gateLeg g l) (legTurnOn y) := by
  rcases h with rfl | ⟨level, high, low⟩
  · unfold deadTimeEndAt at due
    dsimp only at due
    split at due
    · cases due
    · next off =>
      obtain ⟨highOff, lowOff⟩ : (gateLeg g l).highOn = false ∧ (gateLeg g l).lowOn = false := by simpa using off
      unfold legTurnOn
      rw [if_neg off]
      split at due
      · next level =>
        rw [level]
        split at due
        · cases due; exact ⟨fun _ _ => ⟨lowOff, reached⟩, fun _ on => absurd on (by simp [lowOff])⟩
        · cases due
      · next level =>
        rw [level]
        split at due
        · cases due; exact ⟨fun _ on => absurd on (by simp [highOff]), fun _ _ => ⟨highOff, reached⟩⟩
        · cases due
      · cases due
  · have same : legTurnOn y = y := by simp [legTurnOn, level, high, low]
    rw [same]
    exact LegKept.onSafely (.inr ⟨level, high, low⟩) _ _

theorem advanceTo_now (n : Nat) (s : State) : (advanceTo n s).now = max s.now n := (advanceTo_turned n s).keeps.now

theorem advanceTo_carrier (n : Nat) (s : State) : (advanceTo n s).carrier = s.carrier :=
  (advanceTo_turned n s).keeps.carrier

theorem modLeg_onSafely {s : State} {c d : Chan} {l m : Leg} {f : LegState → LegState} {dt t : Nat} {x : LegState}
    (kept : LegKept x (gateLeg (s.gate d) m))
    (own : d = c → m = l → LegOnSafely dt t x (f (gateLeg (s.gate c) l))) :
    LegOnSafely dt t x (gateLeg ((s.modGate c fun g => setGateLeg g l (f (gateLeg g l))).gate d) m) := by
  by_cases e : d = c
  swap
  · rw [State.modGate_gate_other s _ e]; exact kept.onSafely _ _
  subst e
  rw [State.modGate_gate_same]
  by_cases same : m = l
  · subst same; rw [gateLeg_setGateLeg_same]; exact own rfl rfl
  · rw [gateLeg_setGateLeg_other _ same]; exact kept.onSafely _ _

theorem effect_onSafely {s t : State} {i : Instr} (e : Effect s i t) (c : Chan) (l : Leg) :
    LegOnSafely t.carrier.deadTime t.now (gateLeg (s.gate c) l) (gateLeg (t.gate c) l) := by
  have settled := (settle_turned s).legKept c l
  cases e with
  | turned turned => exact (turned.legKept c l).onSafely _ _
  | received received =>
    have same : t.gate c = s.gate c := by rw [received.only]; rfl
    rw [same]; exact (LegKept.refl _).onSafely _ _
  | advanced n => exact ((advanceTo_turned n s).legKept c l).onSafely _ _
  | pinReset n =>
    have gate : (assertReset n s).gate c = gateSwitchOff (max s.now n) (s.gate c) := by
      simp [State.gate, assertReset]
    rw [gate]
    refine LegKept.onSafely ?_ _ _
    cases l <;> exact legOff_kept _ _
  | released n straps =>
    have same : (releaseReset n straps s).gate c = s.gate c := by unfold releaseReset; split <;> rfl
    rw [same]; exact (LegKept.refl _).onSafely _ _
  | inhibited n o =>
    refine LegKept.onSafely ?_ _ _
    have before := (finishAdvanced_turned n s).legKept c l
    refine (before.trans ?_).trans
      (((detectAll_turned (k := .inhibit) nofun o _).legKept c l).trans ((resume_turned _).turned.legKept c l))
    rw [State.mapGates_gate, gateInhibit_legs]
    exact legOff_kept _ _
  | uninhibited n =>
    have before := (advanceTo_turned n s).legKept c l
    have on := gateLevels_onSafely false (advanceTo n s).carrier (advanceTo n s).now
      ((advanceTo n s).now - (advanceTo n s).carrier.periodAt) before
    rw [State.mapGates_gate]; exact on
  | period x o high =>
    have before := settled.trans ((completeAll_ordered _).legKept c l)
    generalize completeAll (settle s) = u at *
    have keeps := resume_keeps (periodWork x o u)
    rw [keeps.carrier, keeps.now]
    refine LegOnSafely.of_kept ?_ ((resume_turned _).turned.legKept c l)
    rw [periodWork_gate]
    rw [← gateApply_leg (u.gate c)] at before
    exact gateLevels_onSafely _ _ _ _ before
  | computed c' => exact (settled.trans ((completeComputation_ordered c' _).legKept c l)).onSafely _ _
  | edge c' l' n lv level =>
    have before := (advanceTo_turned n s).legKept c l
    exact modLeg_onSafely before (by rintro rfl rfl; exact legCommand_onSafely before _ _ _)
  | deadTime c' l' n due =>
    have before := (advanceTo_turned n s).legKept c l
    refine modLeg_onSafely before ?_
    rintro rfl rfl
    show LegOnSafely (advanceTo n s).carrier.deadTime (advanceTo n s).now _ _
    rw [advanceTo_now, advanceTo_carrier]
    exact legTurnOn_onSafely due (Nat.le_max_right _ _) before
  | missed u n d hu b =>
    exact ((hu.legKept c l).trans ((announceMiss_ordered b (missCounted d u)).legKept c l)).onSafely _ _
  | frameEnd n rest u v g hu hv hg =>
    have same : v.gate c = u.gate c := by rw [hv.only]; rfl
    have received := hu.legKept c l
    have gates : (s.withNow (max s.now n)).gate c = s.gate c := rfl
    rw [gates, ← same] at received
    have closed : LegKept (gateLeg (s.gate c) l) (gateLeg ((closeReception g v).gate c) l) := received
    exact ((closed.trans ((settleFrame_ordered g v).legKept c l)).trans
      ((resume_turned _).turned.legKept c l)).onSafely _ _
  | frameOpen n rest u v hu hv =>
    have same : t.gate c = u.gate c := by rw [hv.only]; rfl
    have received := hu.legKept c l
    rw [← same] at received
    exact LegKept.onSafely received _ _

/-- Settles O18: turns and orders never turn a switch on; a commanded level and a dead-time end do, after the
dead time. -/
theorem switchesGoOnOnlyAfterTheDeadTime : Obligations.SwitchesGoOnOnlyAfterTheDeadTime := by
  unfold Obligations.SwitchesGoOnOnlyAfterTheDeadTime
  intro i s t c l h
  obtain ⟨u, hu, effect⟩ := exec_effect i s
  obtain rfl : u = t := by rw [hu] at h; cases h; rfl
  exact effect_onSafely effect c l

end Sys2Proof.Machine
end

section
/-! A paired follower is in RUN or HOLD only while its leader is (R110): every operation of an instant, a commit
and a miss keeps the two coupled. -/

namespace Sys2Proof.Machine

open Sys2Proof Relation

/-! ## Pair positions -/

theorem evenOf_ne_oddOf (p q : Fin 4) : evenOf p ≠ oddOf q := by revert p q; decide

theorem pairOf_evenOf (p : Fin 4) : pairOf (evenOf p) = p := by revert p; decide

theorem pairOf_oddOf (p : Fin 4) : pairOf (oddOf p) = p := by revert p; decide

theorem partnerOf_evenOf (p : Fin 4) : partnerOf (evenOf p) = oddOf p := by revert p; decide

theorem partnerOf_oddOf (p : Fin 4) : partnerOf (oddOf p) = evenOf p := by revert p; decide

theorem pairOf_partnerOf (c : Chan) : pairOf (partnerOf c) = pairOf c := by revert c; decide

/-- A channel is the even or the odd one of its pair position. -/
theorem even_or_odd (c : Chan) : c = evenOf (pairOf c) ∨ c = oddOf (pairOf c) := by revert c; decide

theorem pairedLeader_evenOf (s : State) (p : Fin 4) : pairedLeader s (evenOf p) = s.pairs[p] := by
  have even : (evenOf p).val % 2 == 0 := by revert p; decide
  simp [pairedLeader, paired, pairOf_evenOf, even]

theorem pairedLeader_oddOf (s : State) (p : Fin 4) : pairedLeader s (oddOf p) = false := by
  have odd : ((oddOf p).val % 2 == 0) = false := by revert p; decide
  simp [pairedLeader, odd]

theorem pairedFollower_oddOf (s : State) (p : Fin 4) : pairedFollower s (oddOf p) = s.pairs[p] := by
  have odd : (oddOf p).val % 2 == 1 := by revert p; decide
  simp [pairedFollower, paired, pairOf_oddOf, odd]

/-! ## Coupled pairs -/

/-- A channel is in RUN or HOLD. -/
def State.active_ (s : State) (c : Chan) : Bool := runOrHold (s.chan c).state

/-- If pair position `p` is configured, its follower is in RUN or HOLD only while its leader is (R110). -/
def Coupled (p : Fin 4) (s : State) : Prop :=
  s.pairs[p] = true → s.active_ (oddOf p) = true → s.active_ (evenOf p) = true

/-- From `s` to `t` coupled pairs stay coupled. -/
structure KeepsCoupled (s t : State) : Prop where
  kept : ∀ p, Coupled p s → Coupled p t

theorem KeepsCoupled.refl (s : State) : KeepsCoupled s s := ⟨fun _ => id⟩

theorem KeepsCoupled.trans {a b c : State} (h : KeepsCoupled a b) (k : KeepsCoupled b c) : KeepsCoupled a c :=
  ⟨fun p => k.kept p ∘ h.kept p⟩

theorem foldl_keepsCoupled {α : Type} {f : State → α → State} (h : ∀ s a, KeepsCoupled s (f s a)) (l : List α)
    (s : State) : KeepsCoupled s (l.foldl f s) := by
  induction l generalizing s with
  | nil => exact .refl s
  | cons a l ih => exact (h s a).trans (ih _)

/-- Who is in RUN or HOLD has not changed. -/
theorem keepsCoupled_of_same {s t : State} (pairs : t.pairs = s.pairs) (same : ∀ c, t.active_ c = s.active_ c) :
    KeepsCoupled s t := by
  refine ⟨fun p h => ?_⟩
  unfold Coupled at h ⊢
  rwa [pairs, same, same]

theorem keepsCoupled_of_channels {s t : State} (pairs : t.pairs = s.pairs) (chans : t.channels = s.channels) :
    KeepsCoupled s t :=
  keepsCoupled_of_same pairs fun c => by simp only [State.active_, State.chan, chans]

/-- One channel changes without entering or leaving RUN and HOLD. -/
theorem modChan_keepsCoupled {s : State} {c : Chan} {f : Channel → Channel}
    (h : runOrHold (f (s.chan c)).state = runOrHold (s.chan c).state) : KeepsCoupled s (s.modChan c f) := by
  refine keepsCoupled_of_same rfl fun d => ?_
  unfold State.active_
  by_cases e : d = c
  · subst e; rw [State.modChan_chan_same, h]
  · rw [State.modChan_chan_other s f e]

/-! ## What stays within one pair position -/

/-- From `s` to `t` an event has come about that touches channels and gates of pair position `p` alone, besides
the Trace Unit and the instant's work. -/
structure PairOnly (p : Fin 4) (s t : State) : Prop where
  keeps : SampleKeeps s t
  chan : ∀ d, pairOf d ≠ p → t.chan d = s.chan d
  gate : ∀ d, pairOf d ≠ p → t.gate d = s.gate d

theorem PairOnly.refl (p : Fin 4) (s : State) : PairOnly p s s := ⟨.refl s, fun _ _ => rfl, fun _ _ => rfl⟩

theorem PairOnly.trans {p : Fin 4} {a b c : State} (h : PairOnly p a b) (k : PairOnly p b c) : PairOnly p a c :=
  ⟨h.keeps.trans k.keeps, fun d hd => (k.chan d hd).trans (h.chan d hd),
    fun d hd => (k.gate d hd).trans (h.gate d hd)⟩

theorem modChan_pairOnly {p : Fin 4} {c : Chan} (h : pairOf c = p) (f : Channel → Channel) (s : State) :
    PairOnly p s (s.modChan c f) :=
  ⟨modChan_keeps s c f, fun d hd => State.modChan_chan_other s f (by rintro rfl; exact hd h), fun _ _ => rfl⟩

theorem modGate_pairOnly {p : Fin 4} {c : Chan} (h : pairOf c = p) (f : Gate → Gate) (s : State) :
    PairOnly p s (s.modGate c f) :=
  ⟨modGate_keeps s c f, fun _ _ => rfl, fun d hd => State.modGate_gate_other s f (by rintro rfl; exact hd h)⟩

theorem withTrace_pairOnly (p : Fin 4) (s : State) (u : TraceUnit) : PairOnly p s (s.withTrace u) :=
  ⟨withTrace_keeps s u, fun _ _ => rfl, fun _ _ => rfl⟩

theorem withMoment_pairOnly (p : Fin 4) (s : State) (m : Option InstantWork) : PairOnly p s (s.withMoment m) :=
  ⟨withMoment_keeps s m, fun _ _ => rfl, fun _ _ => rfl⟩

theorem enterRampdown_pairOnly {p : Fin 4} {c : Chan} (h : pairOf c = p) (r q : Bool) (s : State) :
    PairOnly p s (enterRampdown c r q s) := by
  unfold enterRampdown
  dsimp only
  split
  · exact (modChan_pairOnly h _ s).trans (modChan_pairOnly ((pairOf_partnerOf c).trans h) _ _)
  · exact modChan_pairOnly h _ s

theorem partnerReact_pairOnly {p : Fin 4} {c : Chan} (h : pairOf c = p) (s : State) :
    PairOnly p s (partnerReact c s) := by
  unfold partnerReact
  cases (s.chan c).state with
  | run | hold => exact enterRampdown_pairOnly h _ _ s
  | rampdown | fault => exact modChan_pairOnly h _ s
  | off | calibrate | ready => exact .refl p s

theorem tellPartner_pairOnly {p : Fin 4} {c : Chan} (h : pairOf c = p) (s : State) :
    PairOnly p s (tellPartner c s) := by
  unfold tellPartner
  split
  · exact partnerReact_pairOnly ((pairOf_partnerOf c).trans h) s
  · exact .refl p s

theorem enterFaultAlone_pairOnly {p : Fin 4} {c : Chan} (h : pairOf c = p) (k : Cause) (m : Word) (ia ib : Int)
    (v : Nat) (s : State) : PairOnly p s (enterFaultAlone c k m ia ib v s) :=
  ((modChan_pairOnly h _ s).trans (modGate_pairOnly h _ _)).trans (withTrace_pairOnly p _ _)

theorem enterFault_pairOnly {p : Fin 4} {c : Chan} (h : pairOf c = p) (k : Cause) (m : Word) (ia ib : Int)
    (v : Nat) (s : State) : PairOnly p s (enterFault c k m ia ib v s) :=
  (enterFaultAlone_pairOnly h k m ia ib v s).trans (tellPartner_pairOnly h _)

theorem detectAlone_pairOnly {p : Fin 4} {c : Chan} (h : pairOf c = p) (k : Cause) (s : State) :
    PairOnly p s (detectAlone c k s) := by
  unfold detectAlone
  cases (s.chan c).state with
  | run | hold | rampdown => exact enterFaultAlone_pairOnly h _ _ _ _ _ s
  | fault => exact modChan_pairOnly h _ s
  | off | calibrate | ready => exact .refl p s

theorem endRampdownAlone_pairOnly {p : Fin 4} {c : Chan} (h : pairOf c = p) (s : State) :
    PairOnly p s (endRampdownAlone c s) := by
  unfold endRampdownAlone
  dsimp only
  split
  · have off := modGate_pairOnly h (gateSwitchOff s.now) s
    split
    · exact off.trans (enterFaultAlone_pairOnly h _ _ _ _ _ _)
    · split
      · exact off.trans (enterFaultAlone_pairOnly h _ _ _ _ _ _)
      · exact off.trans (modChan_pairOnly h _ _)
  · exact .refl p s

theorem pairOf_sideOf (p : Fin 4) (odd : Bool) : pairOf (sideOf p odd) = p := by revert p odd; decide

theorem takePairEvent_pairOnly (p : Fin 4) (k : Cause) (r : PairRun) (e : PairEvent) :
    PairOnly p r.state (takePairEvent p k r e).state := by
  cases e with
  | detect odd =>
    unfold takePairEvent
    dsimp only
    split
    · exact detectAlone_pairOnly (pairOf_sideOf p odd) k _
    · exact .refl p _
  | react odd =>
    unfold takePairEvent
    dsimp only
    split
    · exact partnerReact_pairOnly (pairOf_sideOf p odd) _
    · exact .refl p _
  | rampEnd odd =>
    unfold takePairEvent
    dsimp only
    split
    · exact (withMoment_pairOnly p _ _).trans (endRampdownAlone_pairOnly (pairOf_sideOf p odd) _)
    · exact .refl p _

theorem pairEvents_pairOnly (p : Fin 4) (k : Cause) (l : List PairEvent) (r : PairRun) :
    PairOnly p r.state (l.foldl (takePairEvent p k) r).state := by
  induction l generalizing r with
  | nil => exact .refl p _
  | cons e l ih => exact (takePairEvent_pairOnly p k r e).trans (ih _)

/-- A station-wide detection reaches each pair position by itself (R75, R80). -/
theorem detectPair_pairOnly (o : PairOrder) (p : Fin 4) (k : Cause) (s : State) :
    PairOnly p s (detectPair o p k s) := pairEvents_pairOnly p k (o ++ pairRest) ⟨s, [.detect false, .detect true]⟩

/-! ## The operations that keep pairs coupled -/

/-- What stays within one pair position couples the others as before. -/
theorem keepsCoupled_of_pairOnly {p : Fin 4} {s t : State} (h : PairOnly p s t) (own : Coupled p s → Coupled p t) :
    KeepsCoupled s t := by
  refine ⟨fun q => ?_⟩
  by_cases e : q = p
  · subst e; exact own
  · have same (c : Chan) (hc : pairOf c = q) : t.active_ c = s.active_ c := by
      unfold State.active_; rw [h.chan c (by rw [hc]; exact e)]
    unfold Coupled
    rw [h.keeps.pairs, same _ (pairOf_evenOf q), same _ (pairOf_oddOf q)]
    exact id

/-- An odd channel outside RUN and HOLD is coupled. -/
theorem coupled_of_odd_inactive {p : Fin 4} {s : State} (h : s.active_ (oddOf p) = false) : Coupled p s :=
  fun _ follows => absurd follows (by simp [h])

/-- A leader takes its follower along, so neither is left in RUN or HOLD (R110). -/
theorem enterRampdown_keepsCoupled (c : Chan) (r q : Bool) (s : State) : KeepsCoupled s (enterRampdown c r q s) := by
  have only := enterRampdown_pairOnly rfl r q s (c := c)
  refine keepsCoupled_of_pairOnly only fun _ pairs follows => ?_
  rw [only.keeps.pairs] at pairs
  exfalso
  have inactive : (enterRampdown c r q s).active_ (oddOf (pairOf c)) = false := by
    unfold State.active_ enterRampdown
    dsimp only
    rcases even_or_odd c with even | odd
    · generalize pairOf c = p at *
      subst even
      rw [pairedLeader_evenOf, pairs, partnerOf_evenOf, Bool.true_and]
      split
      · rw [State.modChan_chan_same]; rfl
      · next stays => simpa using stays
    · generalize pairOf c = p at *
      subst odd
      rw [pairedLeader_oddOf, Bool.false_and, if_neg (by simp), State.modChan_chan_same]
      rfl
  rw [inactive] at follows
  cases follows

theorem partnerReact_keepsCoupled (c : Chan) (s : State) : KeepsCoupled s (partnerReact c s) := by
  unfold partnerReact
  cases e : (s.chan c).state with
  | run | hold => exact enterRampdown_keepsCoupled c _ _ s
  | rampdown | fault => exact modChan_keepsCoupled (by rfl)
  | off | calibrate | ready => exact .refl s

theorem partnerReact_inactive (c : Chan) (s : State) : (partnerReact c s).active_ c = false := by
  have entered (r q : Bool) : (enterRampdown c r q s).active_ c = false := by
    unfold State.active_ enterRampdown
    dsimp only
    split
    · rw [State.modChan_chan_other _ _ (partnerOf_ne c).symm, State.modChan_chan_same]; rfl
    · rw [State.modChan_chan_same]; rfl
  unfold partnerReact
  cases e : (s.chan c).state with
  | run | hold => exact entered _ _
  | rampdown | fault => unfold State.active_; rw [State.modChan_chan_same]; simp [e, runOrHold]
  | off | calibrate | ready => unfold State.active_; rw [e]; rfl

theorem enterFaultAlone_inactive (c : Chan) (k : Cause) (m : Word) (ia ib : Int) (v : Nat) (s : State) :
    (enterFaultAlone c k m ia ib v s).active_ c = false := by
  unfold State.active_; rw [enterFaultAlone_chan_same]; rfl

/-- A leader that enters FAULT makes its follower leave RUN and HOLD by its reaction (R112). -/
theorem enterFault_keepsCoupled (c : Chan) (k : Cause) (m : Word) (ia ib : Int) (v : Nat) (s : State) :
    KeepsCoupled s (enterFault c k m ia ib v s) := by
  have only := enterFault_pairOnly rfl k m ia ib v s (c := c)
  have alone := enterFaultAlone_pairOnly rfl k m ia ib v s (c := c)
  have inactive := enterFaultAlone_inactive c k m ia ib v s
  refine keepsCoupled_of_pairOnly only fun _ => ?_
  unfold enterFault
  generalize enterFaultAlone c k m ia ib v s = u at *
  rcases even_or_odd c with even | odd
  · cases pairs : paired u c with
    | false =>
      intro configured
      rw [(tellPartner_keeps c u).pairs] at configured
      exact absurd configured (by simpa [paired] using pairs)
    | true =>
      unfold tellPartner
      rw [if_pos pairs]
      have follower : partnerOf c = oddOf (pairOf c) := by
        conv_lhs => rw [even]
        exact partnerOf_evenOf _
      rw [follower]
      exact coupled_of_odd_inactive (partnerReact_inactive _ _)
  · rw [odd] at inactive
    have told : KeepsCoupled u (tellPartner c u) := by
      unfold tellPartner
      split
      · exact partnerReact_keepsCoupled _ u
      · exact .refl u
    exact told.kept _ (coupled_of_odd_inactive inactive)

theorem setSampled_keepsCoupled (s : State) (v : Nat) (c : Chan) :
    KeepsCoupled s (s.setChan c (sampledChannel s v c)) :=
  modChan_keepsCoupled (f := fun _ => sampledChannel s v c) (by rw [sampledChannel_state])

theorem withMoment_keepsCoupled (s : State) (m : Option InstantWork) : KeepsCoupled s (s.withMoment m) :=
  keepsCoupled_of_channels rfl rfl

theorem withTrace_keepsCoupled (s : State) (u : TraceUnit) : KeepsCoupled s (s.withTrace u) :=
  keepsCoupled_of_channels rfl rfl

theorem takeItem_keepsCoupled (v : Nat) (i : WalkItem) (s : State) : KeepsCoupled s (takeItem v i s) := by
  cases i with
  | record => exact withTrace_keepsCoupled s _
  | sample c =>
    show KeepsCoupled s (sampleChannel v c s)
    unfold sampleChannel
    dsimp only
    have sampled := setSampled_keepsCoupled s v c
    split
    · exact sampled.trans (enterFault_keepsCoupled ..)
    · split
      · exact sampled.trans (enterFault_keepsCoupled ..)
      · split
        · exact sampled.trans (withMoment_keepsCoupled _ _)
        · exact sampled

theorem runWalk_keepsCoupled (v : Nat) (l : List WalkItem) (s : State) : KeepsCoupled s (runWalk v l s) := by
  induction l generalizing s with
  | nil => exact withMoment_keepsCoupled s none
  | cons i l ih =>
    unfold runWalk
    dsimp only
    have taken := (withMoment_keepsCoupled s (s.moment.map (beginWalk l))).trans (takeItem_keepsCoupled v i _)
    split
    · exact taken
    · split
      · exact taken
      · exact taken.trans (ih _)

theorem resume_keepsCoupled (s : State) : KeepsCoupled s (resume s) := by
  unfold resume
  split
  · exact .refl s
  · split
    · exact .refl s
    · exact runWalk_keepsCoupled _ _ s

theorem detectAngle_keepsCoupled (c : Chan) (s : State) : KeepsCoupled s (detectAngle c s) := by
  unfold detectAngle
  dsimp only
  cases (s.chan c).state with
  | run | hold | rampdown => exact enterFault_keepsCoupled ..
  | fault => exact modChan_keepsCoupled (by rfl)
  | off | calibrate | ready => exact .refl s

theorem takeAngle_keepsCoupled (s : State) : KeepsCoupled s (takeAngle s) := by
  unfold takeAngle
  split
  · exact .refl s
  · split
    · exact .refl s
    · exact (withMoment_keepsCoupled s _).trans (detectAngle_keepsCoupled _ _)

/-- A rampdown that ends has left RUN and HOLD before. -/
theorem endRampdownAlone_active (c d : Chan) (s : State) : (endRampdownAlone c s).active_ d = s.active_ d := by
  have changed {t : State} (ramp : (s.chan c).state = .rampdown) (own : runOrHold (t.chan c).state = false)
      (others : ∀ d, d ≠ c → t.chan d = s.chan d) : t.active_ d = s.active_ d := by
    unfold State.active_
    by_cases e : d = c
    · subst e; rw [own, ramp]; rfl
    · rw [others d e]
  unfold endRampdownAlone
  dsimp only
  split
  · next out =>
    obtain ⟨ramp, -⟩ := (rampOut_iff _).1 out
    split
    · exact changed ramp (by rw [enterFaultAlone_chan_same]; rfl) fun d h => enterFaultAlone_chan_other _ h ..
    · split
      · exact changed ramp (by rw [enterFaultAlone_chan_same]; rfl) fun d h => enterFaultAlone_chan_other _ h ..
      · exact changed ramp (by rw [State.modChan_chan_same]; rfl) fun d h => State.modChan_chan_other _ _ h
  · rfl

theorem endRampdownAlone_keepsCoupled (c : Chan) (s : State) : KeepsCoupled s (endRampdownAlone c s) :=
  keepsCoupled_of_same (endRampdownAlone_keeps c s).pairs fun d => endRampdownAlone_active c d s

theorem dropRampEnd_keepsCoupled (c : Chan) (s : State) : KeepsCoupled s (dropRampEnd c s) :=
  withMoment_keepsCoupled s _

theorem takeRampEnd_keepsCoupled (c : Chan) (s : State) : KeepsCoupled s (takeRampEnd c s) := by
  unfold takeRampEnd
  dsimp only
  split
  · have ended := (dropRampEnd_keepsCoupled c s).trans (endRampdownAlone_keepsCoupled c _)
    split
    · refine ended.trans ?_
      unfold tellPartner
      split
      · exact partnerReact_keepsCoupled _ _
      · exact .refl _
    · exact ended
  · exact .refl s

/-! ## A station-wide detection in one pair position -/

/-- While a detection reaches the pair: if it is coupled no more, the follower's reaction is on its way. -/
def CoupledOrTold (p : Fin 4) (r : PairRun) : Prop := Coupled p r.state ∨ .react true ∈ r.waiting

theorem detectAlone_odd_coupled (p : Fin 4) (k : Cause) {s : State} (h : Coupled p s) :
    Coupled p (detectAlone (oddOf p) k s) := by
  unfold detectAlone
  cases (s.chan (oddOf p)).state with
  | run | hold | rampdown => exact coupled_of_odd_inactive (enterFaultAlone_inactive ..)
  | fault => exact (modChan_keepsCoupled (by rfl)).kept p h
  | off | calibrate | ready => exact h

/-- The leader's detection either keeps the pair coupled or sends the follower its reaction (R112). -/
theorem detectAlone_even_coupled (p : Fin 4) (k : Cause) {s : State} (h : Coupled p s) :
    Coupled p (detectAlone (evenOf p) k s) ∨
      (enteredFault (evenOf p) s (detectAlone (evenOf p) k s) && paired (detectAlone (evenOf p) k s) (evenOf p)) =
        true := by
  cases drv : drives (s.chan (evenOf p)).state with
  | true =>
    rw [detectAlone_drives drv]
    cases pairs : s.pairs[p] with
    | false =>
      left; intro configured
      rw [(enterFaultAlone_keeps ..).pairs] at configured
      exact absurd configured (by simp [pairs])
    | true =>
      right
      have notFault : (s.chan (evenOf p)).state ≠ .fault := by intro e; rw [e] at drv; cases drv
      have pairedEven : paired s (evenOf p) = true := by simpa [paired, pairOf_evenOf] using pairs
      rw [paired_of_keeps (enterFaultAlone_keeps ..), pairedEven]
      simp [enteredFault, enterFaultAlone_chan_same, notFault]
  | false =>
    left
    unfold detectAlone
    cases e : (s.chan (evenOf p)).state with
    | run | hold | rampdown => rw [e] at drv; cases drv
    | fault => exact (modChan_keepsCoupled (by rfl)).kept p h
    | off | calibrate | ready => exact h

theorem mem_of_mem_erase_ne {x y : PairEvent} {l : List PairEvent} (h : x ≠ y) (hx : x ∈ l) : x ∈ l.erase y :=
  (List.mem_erase_of_ne h).2 hx

theorem followUp_waiting_mem {p : Fin 4} {odd : Bool} {r : PairRun} {t : State} {l : List PairEvent} {e : PairEvent}
    (h : e ∈ l) : e ∈ (followUp p odd r t l).waiting := by
  unfold followUp
  dsimp only
  split
  · exact List.mem_cons_of_mem _ h
  · exact h

theorem takePairEvent_coupledOrTold (p : Fin 4) (k : Cause) (e : PairEvent) {r : PairRun} (h : CoupledOrTold p r) :
    CoupledOrTold p (takePairEvent p k r e) := by
  cases e with
  | detect odd =>
    unfold takePairEvent
    dsimp only
    split
    swap
    · exact h
    rcases h with coupled | told
    swap
    · exact .inr (followUp_waiting_mem (mem_of_mem_erase_ne nofun told))
    cases odd with
    | true => exact .inl (detectAlone_odd_coupled p k coupled)
    | false =>
      rcases detectAlone_even_coupled p k coupled with still | sent
      · exact .inl still
      · right
        have both : enteredFault (sideOf p false) r.state (detectAlone (sideOf p false) k r.state) &&
          paired (detectAlone (sideOf p false) k r.state) (sideOf p false) := sent
        unfold followUp
        dsimp only
        rw [if_pos both]
        exact List.mem_cons_self
  | react odd =>
    unfold takePairEvent
    dsimp only
    split
    swap
    · exact h
    cases odd with
    | true => exact .inl (coupled_of_odd_inactive (partnerReact_inactive _ _))
    | false => exact h.imp ((partnerReact_keepsCoupled _ _).kept p) (mem_of_mem_erase_ne (by simp))
  | rampEnd odd =>
    unfold takePairEvent
    dsimp only
    split
    swap
    · exact h
    exact h.imp (((dropRampEnd_keepsCoupled _ _).trans (endRampdownAlone_keepsCoupled _ _)).kept p) followUp_waiting_mem

theorem pairEvents_coupledOrTold (p : Fin 4) (k : Cause) (l : List PairEvent) {r : PairRun} (h : CoupledOrTold p r) :
    CoupledOrTold p (l.foldl (takePairEvent p k) r) := by
  induction l generalizing r with
  | nil => exact h
  | cons e l ih => exact ih (takePairEvent_coupledOrTold p k e h)

/-- Once the follower's reaction has had its turn the pair is coupled again. -/
theorem react_coupled (p : Fin 4) (k : Cause) {r : PairRun} (h : CoupledOrTold p r) :
    Coupled p (takePairEvent p k r (.react true)).state := by
  unfold takePairEvent
  dsimp only
  split
  · exact coupled_of_odd_inactive (partnerReact_inactive _ _)
  · next absent => exact h.resolve_right (by simpa using absent)

theorem detectOdd_coupled (p : Fin 4) (k : Cause) {r : PairRun} (h : Coupled p r.state) :
    Coupled p (takePairEvent p k r (.detect true)).state := by
  unfold takePairEvent
  dsimp only
  split
  · exact detectAlone_odd_coupled p k h
  · exact h

theorem reactEven_coupled (p : Fin 4) (k : Cause) {r : PairRun} (h : Coupled p r.state) :
    Coupled p (takePairEvent p k r (.react false)).state := by
  unfold takePairEvent
  dsimp only
  split
  · exact (partnerReact_keepsCoupled _ _).kept p h
  · exact h

/-- A station-wide detection keeps pairs coupled: after the leader's detection the follower's reaction comes, and
no event after it takes the leader alone. -/
theorem detectPair_keepsCoupled (o : PairOrder) (p : Fin 4) (k : Cause) (s : State) :
    KeepsCoupled s (detectPair o p k s) := by
  refine keepsCoupled_of_pairOnly (detectPair_pairOnly o p k s) fun h => ?_
  have parts : o ++ pairRest = (o ++ [.react false, .react true, .detect false]) ++
      [.react true, .detect true, .react false] := by simp [pairRest]
  unfold detectPair
  rw [parts, List.foldl_append]
  exact reactEven_coupled p k (detectOdd_coupled p k (react_coupled p k (pairEvents_coupledOrTold p k _ (.inl h))))

theorem detectAll_keepsCoupled (o : PairOrders) (k : Cause) (s : State) : KeepsCoupled s (detectAll o k s) :=
  foldl_keepsCoupled (fun s p => detectPair_keepsCoupled o[p] p k s) allPairs s

/-! ## The whole instant -/

theorem changeBus_keepsCoupled (o : PairOrders) (s : State) : KeepsCoupled s (changeBus o s) := by
  unfold changeBus
  dsimp only
  split
  · have moved : KeepsCoupled s { s with bus := { s.bus with state := s.bus.candidate, count := 0 } } :=
      keepsCoupled_of_channels rfl rfl
    split
    · exact moved
    · exact moved.trans (detectAll_keepsCoupled o _ _)
    · exact moved.trans (detectAll_keepsCoupled o _ _)
  · exact .refl s

theorem takeTimeout_keepsCoupled (s : State) : KeepsCoupled s (takeTimeout s) := by
  unfold takeTimeout
  split
  · exact .refl s
  · split
    · exact keepsCoupled_of_channels rfl rfl
    · exact .refl s

theorem takeValidation_keepsCoupled (s : State) : KeepsCoupled s (takeValidation s) := by
  unfold takeValidation completeValidation
  split
  · exact .refl s
  · dsimp only
    split
    · split
      · split <;> exact keepsCoupled_of_channels rfl rfl
      · exact keepsCoupled_of_channels rfl rfl
    · exact .refl s

theorem switchBanks_keepsCoupled (s : State) : KeepsCoupled s (switchBanks s) :=
  keepsCoupled_of_same rfl fun c => by
    unfold State.active_ switchBanks
    rw [State.withCommit_chan, State.mapChans_chan]
    rfl

theorem takeSwitch_keepsCoupled (s : State) : KeepsCoupled s (takeSwitch s) := by
  unfold takeSwitch
  split
  · exact .refl s
  · dsimp only
    split
    · split
      · exact (withMoment_keepsCoupled s _).trans (switchBanks_keepsCoupled _)
      · exact withMoment_keepsCoupled s _
    · exact .refl s

theorem completeCalibration_keepsCoupled (c : Chan) (s : State) : KeepsCoupled s (completeCalibration c s) := by
  unfold completeCalibration
  dsimp only
  split
  · next due =>
    obtain ⟨calibrate, -⟩ := (calibrationDue_iff _).1 due
    split
    · exact modChan_keepsCoupled (by rw [calibrate]; rfl)
    · exact (modChan_keepsCoupled (f := fun ch => { ch with offA := 0, offB := 0, calibrated := false }) rfl).trans
        (enterFault_keepsCoupled ..)
  · exact .refl s

theorem takeDue_keepsCoupled (s : State) : KeepsCoupled s (takeDue s) := by
  unfold takeDue
  dsimp only
  refine KeepsCoupled.trans ?_ (withTrace_keepsCoupled _ _)
  refine KeepsCoupled.trans ?_ (foldl_keepsCoupled (fun s c => completeCalibration_keepsCoupled c s) allChans _)
  refine KeepsCoupled.trans ?_ (takeAngle_keepsCoupled _)
  refine KeepsCoupled.trans ?_ ((takeValidation_keepsCoupled _).trans (takeSwitch_keepsCoupled _))
  refine KeepsCoupled.trans ?_ (changeBus_keepsCoupled _ _)
  exact (takeTimeout_keepsCoupled s).trans
    (foldl_keepsCoupled (fun s c => takeRampEnd_keepsCoupled c s) allChans _)

theorem settle_keepsCoupled (s : State) : KeepsCoupled s (settle s) := by
  unfold settle
  split
  · exact .refl s
  · dsimp only
    refine KeepsCoupled.trans ?_ (withMoment_keepsCoupled _ none)
    refine KeepsCoupled.trans ?_ (foldl_keepsCoupled (fun s i => (takeItem_keepsCoupled _ i s).trans
      (takeDue_keepsCoupled _)) _ _)
    exact (takeDue_keepsCoupled s).trans (withMoment_keepsCoupled _ _)

theorem finishSample_keepsCoupled (s : State) : KeepsCoupled s (finishSample s) := by
  unfold finishSample
  split
  · exact .refl s
  · split
    · exact settle_keepsCoupled s
    · exact .refl s

theorem advanceTo_keepsCoupled (n : Nat) (s : State) : KeepsCoupled s (advanceTo n s) := by
  unfold advanceTo
  split
  · exact (settle_keepsCoupled s).trans (keepsCoupled_of_channels rfl rfl)
  · exact .refl s

end Sys2Proof.Machine
end

section
/-! The station as a whole stays sound (R24, R106, R110, R116, R158, R159): phase, pairs, the frame being received
and the channels agree after every command. -/

namespace Sys2Proof.Machine

open Sys2Proof Relation

/-! ## The commit sequence keeps pairs coupled -/

theorem mapChans_keepsCoupled {s : State} {f : Chan → Channel → Channel}
    (h : ∀ c, runOrHold (f c (s.chan c)).state = runOrHold (s.chan c).state) : KeepsCoupled s (s.mapChans f) :=
  keepsCoupled_of_same rfl fun c => by unfold State.active_; rw [State.mapChans_chan, h]

theorem holdReturn_runOrHold (ch : Channel) : runOrHold (holdReturn ch).state = runOrHold ch.state := by
  unfold holdReturn
  split
  · next hold => rw [hold]; rfl
  · rfl

theorem clearRequest_runOrHold (s : State) (ch : Channel) :
    runOrHold (clearRequest s ch).state = runOrHold ch.state := by
  unfold clearRequest
  split
  · next fault =>
    split
    · split <;> rw [fault] <;> rfl
    · rfl
  · rfl

theorem calibrationRequest_runOrHold (ch : Channel) :
    runOrHold (calibrationRequest ch).state = runOrHold ch.state := by
  unfold calibrationRequest
  split
  · next e => rw [e]; rfl
  · next e => rw [e]; rfl
  all_goals rfl

theorem commitSteps123_runOrHold (s : State) (p n : Control) (ch : Channel) :
    runOrHold (commitSteps123 s p n ch).state = runOrHold ch.state := by
  unfold commitSteps123
  dsimp only
  split <;> split <;>
    simp only [calibrationRequest_runOrHold, clearRequest_runOrHold, holdReturn_runOrHold]

theorem enterRun_active_same (c : Chan) (s : State) : (enterRun c s).active_ c = true := by
  unfold State.active_; rw [enterRun_chan_same]; rfl

/-- A leader enters RUN with its follower; a paired follower does not enter it by itself (R5, R109). -/
theorem startRun_keepsCoupled {c : Chan} {ctl : Control} {s : State} (h : runAllowed s c ctl = true) :
    KeepsCoupled s (startRun c s) := by
  refine ⟨fun p coupled pairs follows => ?_⟩
  rw [(startRun_keeps c s).pairs] at pairs
  unfold startRun at follows ⊢
  rcases even_or_odd c with even | odd
  · by_cases same : pairOf c = p
    · rw [same] at even
      subst even
      rw [pairedLeader_evenOf, if_pos pairs, partnerOf_evenOf]
      unfold State.active_
      rw [enterRun_chan_other _ (evenOf_ne_oddOf p p)]
      exact enterRun_active_same _ s
    · have away (d : Chan) (hd : pairOf d = p) : d ≠ c ∧ d ≠ partnerOf c :=
        ⟨by rintro rfl; exact same hd, by rintro rfl; exact same ((pairOf_partnerOf c).symm.trans hd)⟩
      have stays (d : Chan) (hd : pairOf d = p) :
          (if pairedLeader s c then enterRun (partnerOf c) (enterRun c s) else enterRun c s).active_ d =
            s.active_ d := by
        unfold State.active_
        split
        · rw [enterRun_chan_other _ (away d hd).2, enterRun_chan_other _ (away d hd).1]
        · rw [enterRun_chan_other _ (away d hd).1]
      rw [stays _ (pairOf_oddOf p)] at follows
      rw [stays _ (pairOf_evenOf p)]
      exact coupled pairs follows
  · generalize pairOf c = q at odd
    subst odd
    rw [pairedLeader_oddOf, if_neg (by simp)] at follows ⊢
    have free : s.pairs[q] = false := by
      by_contra configured
      simp [runAllowed, pairedFollower_oddOf] at h
      obtain ⟨⟨-, free⟩, -⟩ := h
      exact configured free
    have other : p ≠ q := by rintro rfl; rw [free] at pairs; cases pairs
    have away (d : Chan) (hd : pairOf d = p) : d ≠ oddOf q := by
      rintro rfl; rw [pairOf_oddOf] at hd; exact other hd.symm
    unfold State.active_ at follows ⊢
    rw [enterRun_chan_other _ (away _ (pairOf_oddOf p))] at follows
    rw [enterRun_chan_other _ (away _ (pairOf_evenOf p))]
    exact coupled pairs follows

theorem takeEnable_keepsCoupled (c : Chan) (n : Control) (s : State) : KeepsCoupled s (takeEnable c n s) := by
  unfold takeEnable
  cases (s.chan c).state with
  | ready =>
    dsimp only
    split
    · next allowed => exact startRun_keepsCoupled allowed
    · exact modChan_keepsCoupled rfl
  | run | hold => exact .refl s
  | off | calibrate | rampdown | fault => exact modChan_keepsCoupled rfl

theorem commitStep4_keepsCoupled (c : Chan) (p n : Control) (s : State) : KeepsCoupled s (commitStep4 c p n s) := by
  have enabled : KeepsCoupled s (if rising (enableBit p) (enableBit n) then takeEnable c n s else s) := by
    split
    · exact takeEnable_keepsCoupled c n s
    · exact .refl s
  unfold commitStep4
  dsimp only
  generalize (if rising (enableBit p) (enableBit n) then takeEnable c n s else s) = s1 at enabled ⊢
  split
  · exact enabled.trans (enterRampdown_keepsCoupled ..)
  · exact enabled

theorem commitStep5_keepsCoupled (c : Chan) (p n : Control) (s : State) : KeepsCoupled s (commitStep5 c p n s) := by
  have acked : KeepsCoupled s (if rising (noticeAckBit p) (noticeAckBit n) then s.modChan c ackNotice else s) := by
    split
    · exact modChan_keepsCoupled rfl
    · exact .refl s
  unfold commitStep5
  dsimp only
  generalize (if rising (noticeAckBit p) (noticeAckBit n) then s.modChan c ackNotice else s) = s1 at acked ⊢
  split
  · exact acked.trans (withTrace_keepsCoupled _ _)
  · exact acked

theorem commitSequence_keepsCoupled (p n : Chan → Control) (s : State) : KeepsCoupled s (commitSequence p n s) :=
  ((mapChans_keepsCoupled fun c => commitSteps123_runOrHold s (p c) (n c) _).trans
    (foldl_keepsCoupled (fun s c => commitStep4_keepsCoupled c (p c) (n c) s) allChans _)).trans
    (foldl_keepsCoupled (fun s c => commitStep5_keepsCoupled c (p c) (n c) s) allChans _)

theorem takeAction_keepsCoupled (a : GroupAction) (c : Chan) (s : State) : KeepsCoupled s (takeAction a c s) := by
  cases a with
  | calibrate => exact modChan_keepsCoupled (calibrationRequest_runOrHold _)
  | clearFault => exact modChan_keepsCoupled (clearRequest_runOrHold _ _)
  | ackNotice => exact modChan_keepsCoupled rfl
  | rampdown =>
    unfold takeAction
    dsimp only
    split
    · exact enterRampdown_keepsCoupled ..
    · exact .refl s

theorem applyGroup_keepsCoupled (a : GroupAction) (first last : Chan) (s : State) :
    KeepsCoupled s (applyGroup a first last s) :=
  foldl_keepsCoupled (fun s c => by
    split
    · exact takeAction_keepsCoupled a c s
    · exact .refl s) allChans s

theorem missTaken_runOrHold (ch : Channel) : runOrHold (missTaken false ch).state = runOrHold ch.state := by
  unfold missTaken
  cases e : ch.state <;> simp [e, runOrHold]

theorem announceMiss_keepsCoupled (atLimit : Bool) (s : State) : KeepsCoupled s (announceMiss atLimit s) := by
  rw [announceMiss_eq]
  cases atLimit with
  | false => exact mapChans_keepsCoupled fun c => missTaken_runOrHold _
  | true =>
    refine ⟨fun p _ => coupled_of_odd_inactive ?_⟩
    unfold State.active_
    rw [State.mapChans_chan]
    cases h : runOrHold (s.chan (oddOf p)).state with
    | true => rw [missTaken_limit h]; rfl
    | false => rw [missTaken_rest h, h]

/-! ## The station -/

/-- In CONFIG no channel drives and no pair is configured (R24, R106). -/
def ConfigRests (s : State) : Prop := s.phase = .config → Undriven s ∧ ∀ p : Fin 4, s.pairs[p] = false

theorem stationSound_iff (s : State) :
    StationSound s ↔ ConfigRests s ∧ FrameSound s ∧ ∀ p, Coupled p s := by
  constructor
  · rintro ⟨config, phase, go, leave, pairs⟩
    exact ⟨config, fun f hf => ⟨phase f hf, fun r hr => ⟨go f r hf hr, leave f r hf hr⟩⟩, pairs⟩
  · rintro ⟨config, frame, pairs⟩
    exact ⟨config, fun f hf => (frame f hf).1, fun f r hf hr => ((frame f hf).2 r hr).1,
      fun f r hf hr => ((frame f hf).2 r hr).2, pairs⟩

/-- A change that keeps phase, pairs and frame, makes no channel drive, leaves channels at rest there and keeps
pairs coupled keeps the station sound. -/
theorem station_of_keeps {s t : State} (phase : t.phase = s.phase) (pairs : t.pairs = s.pairs)
    (frame : t.port.receiving = s.port.receiving) (undriven : Undriven s → Undriven t)
    (rest : ∀ c, atRest (s.chan c).state = true → atRest (t.chan c).state = true) (coupled : KeepsCoupled s t)
    (h : StationSound s) : StationSound t := by
  rw [stationSound_iff] at h ⊢
  obtain ⟨config, sound, paired⟩ := h
  refine ⟨fun hp => ?_, fun f hf => ?_, fun p => coupled.kept p (paired p)⟩
  · obtain ⟨drv, free⟩ := config (phase.symm.trans hp)
    exact ⟨undriven drv, by rw [pairs]; exact free⟩
  · obtain ⟨hp, taken⟩ := sound f (frame.symm.trans hf)
    rw [phase]
    exact ⟨hp, fun r hr => ⟨(taken r hr).1, fun hl c => rest c ((taken r hr).2 hl c)⟩⟩

theorem turn_atRest {a b : Channel × Gate} (turn : Turn a b) (h : atRest a.1.state = true) :
    atRest b.1.state = true := by
  cases turn with
  | walk w =>
    cases w with
    | sampled => rw [regulate_state, beforeReferences_state]; exact h
    | ramped r p ch g rOH => exact absurd h (by cases e : ch.state <;> simp_all [runOrHold, atRest])
    | faulted => rfl
    | later | pended => exact h
  | readied | calibrated | offsetRefused => rfl
  | banded => exact h

theorem Turned.atRest {s t : State} (h : Turned s t) (c : Chan) (hs : atRest (s.chan c).state = true) :
    atRest (t.chan c).state = true :=
  keeps_of_chain (p := fun x => Machine.atRest x.1.state = true) turn_atRest (h.turns c) hs

theorem Turned.station {s t : State} (h : Turned s t) (coupled : KeepsCoupled s t) (hs : StationSound s) :
    StationSound t :=
  station_of_keeps h.keeps.phase h.keeps.pairs (by rw [h.keeps.port]) h.undriven h.atRest coupled hs

theorem Received.station {s t : State} (h : Received s t) (hs : StationSound s) : StationSound t := by
  rw [stationSound_iff] at hs ⊢
  obtain ⟨config, sound, paired⟩ := hs
  refine ⟨?_, h.sound sound, ?_⟩
  · rw [h.only]; exact config
  · rw [h.only]; exact paired

/-! ## The commit of a frame -/

/-- What holds of phase, pairs and channels with no frame being received. -/
def Settled (s : State) : Prop := ConfigRests s ∧ (∀ p, Coupled p s) ∧ s.port.receiving = none

theorem Settled.station {s : State} (h : Settled s) : StationSound s := by
  obtain ⟨config, coupled, none⟩ := h
  exact (stationSound_iff s).2 ⟨config, fun f hf => absurd (none.symm.trans hf) nofun, coupled⟩

/-- A step of a commit that keeps phase and pairs and makes no channel drive in CONFIG. -/
theorem Settled.of_keeps {s t : State} (phase : t.phase = s.phase) (pairs : t.pairs = s.pairs)
    (frame : t.port = s.port) (undriven : s.phase = .config → Undriven s → Undriven t) (coupled : KeepsCoupled s t)
    (h : Settled s) : Settled t := by
  obtain ⟨config, paired, none⟩ := h
  refine ⟨fun hp => ?_, fun p => coupled.kept p (paired p), by rw [frame]; exact none⟩
  obtain ⟨drv, free⟩ := config (phase.symm.trans hp)
  exact ⟨undriven (phase.symm.trans hp) drv, by rw [pairs]; exact free⟩

/-- The same of a step that leaves the channels as they are. -/
theorem Settled.of_channels {s t : State} (phase : t.phase = s.phase) (pairs : t.pairs = s.pairs)
    (frame : t.port = s.port) (chans : t.channels = s.channels) (h : Settled s) : Settled t :=
  h.of_keeps phase pairs frame (fun _ drv c => by rw [State.chan, chans]; exact drv c)
    (keepsCoupled_of_channels pairs chans)

theorem takeArrival_only (s : State) :
    takeArrival s = { s with timer := (takeArrival s).timer, counters := (takeArrival s).counters } := by
  unfold takeArrival
  dsimp only
  split <;> rfl

theorem commitTimer_only (f : FrameCtx) (s : State) :
    commitTimer f s = { s with timer := (commitTimer f s).timer, counters := (commitTimer f s).counters } := by
  unfold commitTimer
  dsimp only
  split
  · split
    · rw [takeArrival_only]; rfl
    · rfl
  · rfl

theorem commitTimer_settled (f : FrameCtx) {s : State} (h : Settled s) : Settled (commitTimer f s) := by
  rw [commitTimer_only]
  exact h.of_channels rfl rfl rfl rfl

theorem applyLatch_only (s : State) (x : LatchWrite) :
    applyLatch s x = { s with latches := (applyLatch s x).latches } := by cases x <;> rfl

theorem applyLatches_only (xs : List LatchWrite) (s : State) :
    xs.foldl applyLatch s = { s with latches := (xs.foldl applyLatch s).latches } := by
  induction xs generalizing s with
  | nil => rfl
  | cons x xs ih => rw [List.foldl_cons, ih, applyLatch_only]

theorem commitSlots_keeps (xs : List LatchWrite) (s : State) :
    (commitSlots xs s).phase = s.phase ∧ (commitSlots xs s).pairs = s.pairs ∧
      (commitSlots xs s).port = s.port ∧ KeepsCoupled s (commitSlots xs s) := by
  unfold commitSlots
  dsimp only
  rw [applyLatches_only]
  generalize (xs.foldl applyLatch s).latches = l
  have latched : KeepsCoupled s { s with latches := l } := keepsCoupled_of_channels rfl rfl
  generalize hu : ({ s with latches := l } : State) = u at latched
  have keeps := commitSequence_keeps u.prevCtrl (fun c => (u.latch c).control) u
  have coupled := commitSequence_keepsCoupled u.prevCtrl (fun c => (u.latch c).control) u
  have phase : u.phase = s.phase := by rw [← hu]
  have pairs : u.pairs = s.pairs := by rw [← hu]
  have port : u.port = s.port := by rw [← hu]
  refine ⟨keeps.phase.trans phase, keeps.pairs.trans pairs, keeps.port.trans port, ?_⟩
  exact (latched.trans coupled).trans (keepsCoupled_of_channels rfl rfl)

/-- The Slot Engine's part runs in OPERATIONAL alone (R122). -/
theorem commitSlotEngine_settled {f : FrameCtx} {s : State} (hf : f.phase = s.phase) (h : Settled s) :
    Settled (commitSlotEngine f s) := by
  unfold commitSlotEngine
  split
  · next operational =>
    obtain ⟨phase, pairs, port, coupled⟩ := commitSlots_keeps f.latches s
    refine h.of_keeps phase pairs port (fun config => ?_) coupled
    rw [config] at hf
    simp [cycleOperational, hf] at operational
  · exact h

theorem commitCounters_settled (f : FrameCtx) {s : State} (h : Settled s) : Settled (commitCounters f s) :=
  h.of_channels rfl rfl rfl rfl

theorem modChan_undriven {s : State} {c : Chan} {f : Channel → Channel}
    (h : drives (f (s.chan c)).state = drives (s.chan c).state) (hs : Undriven s) : Undriven (s.modChan c f) := by
  intro d
  by_cases e : d = c
  · subst e; rw [State.modChan_chan_same, h]; exact hs d
  · rw [State.modChan_chan_other s f e]; exact hs d

theorem takeAction_undriven (a : GroupAction) (c : Chan) {s : State} (hs : Undriven s) :
    Undriven (takeAction a c s) := by
  cases a with
  | calibrate => exact modChan_undriven (calibrationRequest_drives _) hs
  | clearFault => exact modChan_undriven (clearRequest_drives _ _) hs
  | ackNotice => exact modChan_undriven rfl hs
  | rampdown =>
    unfold takeAction
    dsimp only
    split
    · next rOH => exact absurd (drives_of_runOrHold rOH) (by simp [hs c])
    · exact hs

theorem applyGroup_undriven (a : GroupAction) (first last : Chan) {s : State} (hs : Undriven s) :
    Undriven (applyGroup a first last s) := by
  unfold applyGroup
  generalize allChans = l
  induction l generalizing s with
  | nil => exact hs
  | cons c l ih =>
    rw [List.foldl_cons]
    refine ih ?_
    split
    · exact takeAction_undriven a c hs
    · exact hs

theorem applyGroup_settled (a : GroupAction) (first last : Chan) {s : State} (h : Settled s) :
    Settled (applyGroup a first last s) := by
  have keeps := applyGroup_keeps a first last s
  exact h.of_keeps keeps.phase keeps.pairs keeps.port (fun _ => applyGroup_undriven a first last)
    (applyGroup_keepsCoupled a first last s)

theorem modChan_settled {s : State} {c : Chan} {f : Channel → Channel} (e : (f (s.chan c)).state = (s.chan c).state)
    (h : Settled s) : Settled (s.modChan c f) :=
  Settled.of_keeps (s := s) rfl rfl rfl (fun _ => modChan_undriven (by rw [e])) (modChan_keepsCoupled (by rw [e])) h

theorem writeField_settled (tb : Table) {s : State} (x : WordWrite) (h : Settled s) :
    Settled (writeField s tb x) := by
  cases tb with
  | channel => exact modChan_settled (writeChannel_state _ _ _) h
  | station | slotMap | gainStaged | schedStaged | gainActive | schedActive | faults | traceData | counters
  | traceCfg => exact h.of_channels rfl rfl rfl rfl

theorem writeFields_settled (tb : Table) (xs : List WordWrite) {s : State} (h : Settled s) :
    Settled (xs.foldl (fun s x => writeField s tb x) s) := by
  induction xs generalizing s with
  | nil => exact h
  | cons x xs ih => exact ih (writeField_settled tb x h)

theorem writeWords_settled (tb : Table) (xs : List WordWrite) {s : State} (h : Settled s) :
    Settled (writeWords tb xs s) := by
  have written := writeFields_settled tb xs h
  unfold writeWords
  generalize xs.foldl (fun s x => writeField s tb x) s = u at written ⊢
  cases tb with
  | station | channel | counters | slotMap | gainStaged | schedStaged | gainActive | schedActive | faults
  | traceCfg | traceData => exact written.of_channels rfl rfl rfl rfl

/-- A station reset leaves every channel in OFF and no pair configured (R23, R106). -/
theorem commitResetStation_settled {s : State} (h : Settled s) : Settled (commitResetStation s) := by
  have chan (c : Chan) : (commitResetStation s).chan c = {} := by simp [State.chan, commitResetStation]
  have pairs (p : Fin 4) : (commitResetStation s).pairs[p] = false := by simp [commitResetStation]
  refine ⟨fun _ => ⟨fun c => by rw [chan]; rfl, pairs⟩, fun p configured => ?_, h.2.2⟩
  rw [pairs] at configured
  cases configured

/-- Where no channel drives, none is in RUN or HOLD. -/
theorem coupled_of_undriven {s : State} (h : Undriven s) (p : Fin 4) (follows : s.active_ (oddOf p) = true) :
    s.active_ (evenOf p) = true :=
  absurd (drives_of_runOrHold follows) (by rw [h]; nofun)

/-- A change of phase is committed only over channels that do not drive (R158, R159). -/
theorem executeCmd_settled {cmd : PendCmd} {s : State}
    (phase : cmd = .goOperational ∨ cmd = .leaveOperational → Undriven s) (h : Settled s) : Settled (executeCmd cmd s).state := by
  have service (u : ServiceUnit) : Settled (s.withService u) := h.of_channels rfl rfl rfl rfl
  have wrote (start xs q refused) : Settled (writeNow start xs q refused s).state := by
    unfold writeNow
    split
    · exact h
    · exact (writeWords_settled _ xs h).of_channels rfl rfl rfl rfl
  have read (n p) : Settled (readNow n p s).state := by
    unfold readNow
    split
    · exact h
    · exact service _
  cases cmd with
  | notExecuted | nop | getStatus | goRefused | stopStream => exact h
  | setCheck | setWindow | tagFirst | tagLast => exact service _
  | goOperational => exact ⟨nofun, fun p _ => coupled_of_undriven (phase (.inl rfl)) p, h.2.2⟩
  | leaveOperational =>
    have free (p : Fin 4) : (commitLeaveOperational s).pairs[p] = false := by simp [commitLeaveOperational]
    exact ⟨fun _ => ⟨phase (.inr rfl), free⟩, fun p configured => absurd ((free p).symm.trans configured) nofun, h.2.2⟩
  | resetStation => exact commitResetStation_settled h
  | commitBank | copyActiveToStaged | traceArm | traceStop | traceTrigger => exact h.of_channels rfl rfl rfl rfl
  | write start xs q refused =>
    show Settled (commitWrite start xs q refused s).state
    unfold commitWrite
    split
    · exact wrote ..
    · split
      · exact h
      · exact wrote ..
  | writeBusy start =>
    show Settled (commitWriteBusy start s).state
    unfold commitWriteBusy
    split
    · exact h
    · exact service _
  | read start n =>
    show Settled (commitRead start n s).state
    unfold commitRead
    split
    · exact read ..
    · split
      · exact h
      · exact read ..
  | groupAction a first last => exact applyGroup_settled a first last h

theorem commitRecord_settled {r : TakenRecord} {s : State}
    (phase : r.cmd = .goOperational ∨ r.cmd = .leaveOperational → Undriven s) (h : Settled s) :
    Settled (commitRecord r s) := by
  have cleared : Settled (if r.clearTags then clearTags s else s) ∧
      (r.cmd = .goOperational ∨ r.cmd = .leaveOperational → Undriven (if r.clearTags then clearTags s else s)) := by
    split
    · exact ⟨h.of_channels rfl rfl rfl rfl, phase⟩
    · exact ⟨h, phase⟩
  have executed := executeCmd_settled cleared.2 cleared.1
  unfold commitRecord keepResult
  split
  · exact executed.of_channels rfl rfl rfl rfl
  · exact executed

/-- Where a change of phase waits the Slot Engine's part is left out, so the channels still do not drive. -/
theorem commitFrame_settled {f : FrameCtx} {s : State} (hf : f.phase = s.phase)
    (go : ∀ r, f.taken = some r → r.cmd = .goOperational → s.phase = .config)
    (leave : ∀ r, f.taken = some r → r.cmd = .leaveOperational → Undriven s) (h : Settled s) :
    Settled (commitFrame f s) := by
  have timed := commitTimer_settled f h
  have timedPhase : f.phase = (commitTimer f s).phase := by rw [commitTimer_only]; exact hf
  have timedDrives : Undriven s → Undriven (commitTimer f s) := by rw [commitTimer_only]; exact id
  have counted := commitCounters_settled f (commitSlotEngine_settled timedPhase timed)
  unfold commitFrame commitService
  split
  · exact counted
  · next r taken =>
    refine commitRecord_settled (fun phase => ?_) counted
    have skipped : commitSlotEngine f (commitTimer f s) = commitTimer f s := by
      unfold commitSlotEngine
      rcases phase with e | e
      · simp [cycleOperational, hf, go r taken e]
      · simp [leaving, taken, e]
    show Undriven (commitSlotEngine f (commitTimer f s))
    rw [skipped]
    rcases phase with e | e
    · exact timedDrives (h.1 (go r taken e)).1
    · exact timedDrives (leave r taken e)

theorem drives_of_atRest {x : ChState} (h : atRest x = true) : drives x = false := by
  cases x <;> simp_all [atRest, drives]

theorem settleFrame_settled {f : FrameCtx} {s : State} (hf : s.port.receiving = some f) (h : StationSound s) :
    Settled (settleFrame f s) := by
  obtain ⟨config, sound, coupled⟩ := (stationSound_iff s).1 h
  obtain ⟨phase, taken⟩ := sound f hf
  have closed : Settled (closeReception f s) := ⟨config, coupled, rfl⟩
  unfold settleFrame
  dsimp only
  split
  · exact commitFrame_settled (s := closeReception f s) phase (fun r hr => (taken r hr).1)
      (fun r hr hl c => drives_of_atRest ((taken r hr).2 hl c)) closed
  · exact closed.of_channels rfl rfl rfl rfl

/-! ## Every command -/

theorem station_withNow {s : State} (n : Nat) (h : StationSound s) : StationSound (s.withNow n) := by
  obtain ⟨config, phase, go, leave, pairs⟩ := h
  exact ⟨config, phase, go, leave, pairs⟩

theorem settle_station {s : State} (h : StationSound s) : StationSound (settle s) :=
  (settle_turned s).station (settle_keepsCoupled s) h

theorem advanceTo_station (n : Nat) {s : State} (h : StationSound s) : StationSound (advanceTo n s) :=
  (advanceTo_turned n s).station
    ((keepsCoupled_of_channels (s := s.withNow (max s.now n)) (t := s) rfl rfl).trans (advanceTo_keepsCoupled n s))
    (station_withNow _ h)

theorem finishSample_station {s : State} (h : StationSound s) : StationSound (finishSample s) :=
  (finishSample_turned s).station (finishSample_keepsCoupled s) h

theorem resume_station {s : State} (h : StationSound s) : StationSound (resume s) :=
  (resume_turned s).turned.station (resume_keepsCoupled s) h

/-- A change of time, pins, carrier and gates alone. -/
theorem station_of_rest {s t : State} (phase : t.phase = s.phase) (pairs : t.pairs = s.pairs)
    (frame : t.port.receiving = s.port.receiving) (chans : t.channels = s.channels) (h : StationSound s) :
    StationSound t := by
  refine station_of_keeps phase pairs frame (fun drv c => ?_) (fun c rest => ?_)
    (keepsCoupled_of_channels pairs chans) h
  · rw [State.chan, chans]; exact drv c
  · rw [State.chan, chans]; exact rest

theorem completeComputation_station (c : Chan) {s : State} (h : StationSound s) :
    StationSound (completeComputation c s) := by
  have keeps := completeComputation_keeps c s
  have state (d : Chan) := completeComputation_state c d s
  exact station_of_keeps keeps.phase keeps.pairs (by rw [keeps.port]) (fun drv d => by rw [state]; exact drv d)
    (fun d rest => by rw [state]; exact rest)
    (keepsCoupled_of_same keeps.pairs fun d => by unfold State.active_; rw [state]) h

theorem completeAll_station {s : State} (h : StationSound s) : StationSound (completeAll s) := by
  unfold completeAll
  generalize allChans = l
  induction l generalizing s with
  | nil => exact h
  | cons c l ih => exact ih (completeComputation_station c h)

theorem announceMiss_station (atLimit : Bool) {s : State} (h : StationSound s) :
    StationSound (announceMiss atLimit s) := by
  have keeps := announceMiss_keeps atLimit s
  have chan (c : Chan) : (announceMiss atLimit s).chan c = missTaken atLimit (s.chan c) := by
    rw [announceMiss_eq, State.mapChans_chan]
  refine station_of_keeps keeps.phase keeps.pairs (by rw [keeps.port]) (fun drv c => ?_) (fun c rest => ?_)
    (announceMiss_keepsCoupled atLimit s) h
  · rw [chan, missTaken_drives]; exact drv c
  · rw [chan, missTaken_rest]
    · exact rest
    · cases e : (s.chan c).state <;> simp_all [atRest, runOrHold]

theorem periodWork_station (x : SampleInputs) (o : SampleOrder) {s : State} (h : StationSound s) :
    StationSound (periodWork x o s) := station_of_rest (s := s) rfl rfl rfl rfl h

theorem detectAll_station {k : Cause} (hk : k ≠ .refLoss) (o : PairOrders) {s : State} (h : StationSound s) :
    StationSound (detectAll o k s) := (detectAll_turned hk o s).station (detectAll_keepsCoupled o k s) h

theorem assertReset_station (n : Nat) (s : State) : StationSound (assertReset n s) := by
  have chan (c : Chan) : (assertReset n s).chan c = {} := by simp [State.chan, assertReset]
  have free (p : Fin 4) : (assertReset n s).pairs[p] = false := by simp [assertReset]
  refine Settled.station ⟨fun _ => ⟨fun c => by rw [chan]; rfl, free⟩, fun p configured => ?_, rfl⟩
  rw [free] at configured
  cases configured

theorem releaseReset_station (n : Nat) (straps : Byte) {s : State} (h : StationSound s) :
    StationSound (releaseReset n straps s) := by
  unfold releaseReset
  split
  · exact station_of_rest (s := s) rfl rfl rfl rfl h
  · exact h

theorem whenDue_station {f : State → State} (hf : ∀ {s}, StationSound s → StationSound (f s)) (due : Bool)
    {s : State} (h : StationSound s) : StationSound (whenDue due f s) := by
  unfold whenDue
  split
  · exact resume_station (hf h)
  · exact h

theorem assertInhibit_station (n : Nat) (o : PairOrders) {s : State} (h : StationSound s) :
    StationSound (assertInhibit n o s) := by
  have before := finishSample_station (advanceTo_station n h)
  unfold assertInhibit
  dsimp only
  split
  · exact h
  · exact resume_station (detectAll_station (k := .inhibit) nofun o
      (station_of_rest (s := finishSample (advanceTo n s)) rfl rfl rfl rfl before))

theorem releaseInhibit_station (n : Nat) {s : State} (h : StationSound s) : StationSound (releaseInhibit n s) := by
  unfold releaseInhibit
  dsimp only
  split
  · exact station_of_rest (s := advanceTo n s) rfl rfl rfl rfl (advanceTo_station n h)
  · exact h

theorem changeLevel_station (c : Chan) (l : Leg) {s : State} (h : StationSound s) :
    StationSound (changeLevel c l s) := by
  unfold changeLevel
  split
  · exact h
  · dsimp only
    split
    · exact advanceTo_station _ h
    · exact station_of_rest (s := advanceTo _ s) rfl rfl rfl rfl (advanceTo_station _ h)

theorem endDeadTime_station (c : Chan) (l : Leg) {s : State} (h : StationSound s) :
    StationSound (endDeadTime c l s) := by
  unfold endDeadTime
  split
  · exact h
  · exact station_of_rest (s := advanceTo _ s) rfl rfl rfl rfl (advanceTo_station _ h)

theorem expireDeadline_station {s : State} (h : StationSound s) : StationSound (expireDeadline s) := by
  unfold expireDeadline
  split
  · next d _ _ =>
    exact announceMiss_station _ (station_of_rest (s := finishSample (advanceTo d s)) rfl rfl rfl rfl
      (finishSample_station (advanceTo_station d h)))
  · exact h

theorem takeTimeout_station {s : State} (h : StationSound s) : StationSound (takeTimeout s) :=
  (takeTimeout_turned s).station (takeTimeout_keepsCoupled s) h

theorem endReception_station (n : Nat) (rest : List Byte) {s : State} (h : StationSound s) :
    StationSound (endReception n rest s) := by
  unfold endReception
  split
  · exact h
  · dsimp only
    have received := (receiveRest_received rest.length rest _).station
      (takeTimeout_station (finishSample_station (advanceTo_station n h)))
    split
    · exact received
    · next f hf => exact resume_station (settleFrame_settled hf received).station

theorem withTrace_station (u : TraceUnit) {s : State} (h : StationSound s) : StationSound (s.withTrace u) :=
  station_of_rest (s := s) rfl rfl rfl rfl h

/-- Every command keeps the station sound. -/
theorem exec_station (i : Instr) {s : State} (h : StationSound s) :
    ∃ t, exec i s = .next t ∧ StationSound t := by
  cases i with
  | resetnAsserted n => exact ⟨_, rfl, assertReset_station n s⟩
  | resetnReleased n straps => exact ⟨_, rfl, releaseReset_station n straps h⟩
  | inhnAsserted n o => exact ⟨_, rfl, assertInhibit_station n o h⟩
  | inhnReleased n => exact ⟨_, rfl, releaseInhibit_station n h⟩
  | periodStart x o =>
    refine ⟨_, rfl, ?_⟩
    split
    · exact h
    · exact resume_station (periodWork_station x o (completeAll_station (settle_station h)))
  | angleLost c =>
    exact ⟨_, rfl, whenDue_station (fun {s} => (takeAngle_turned s).turned.station (takeAngle_keepsCoupled s)) _ h⟩
  | calibrationComplete c =>
    exact ⟨_, rfl, whenDue_station
      (fun {s} => (completeCalibration_turned c s).station (completeCalibration_keepsCoupled c s)) _ h⟩
  | computationComplete c => exact ⟨_, rfl, completeComputation_station c (settle_station h)⟩
  | legLevelChange c l => exact ⟨_, rfl, changeLevel_station c l h⟩
  | deadTimeEnd c l => exact ⟨_, rfl, endDeadTime_station c l h⟩
  | busStateChange o =>
    exact ⟨_, rfl, whenDue_station (fun {s} => (changeBus_turned o s).station (changeBus_keepsCoupled o s)) _ h⟩
  | rampdownEnd c =>
    exact ⟨_, rfl, whenDue_station (fun {s} => (takeRampEnd_turned c s).station (takeRampEnd_keepsCoupled c s)) _ h⟩
  | bankValidationComplete =>
    exact ⟨_, rfl, whenDue_station (fun {s} => (takeValidation_turned s).station (takeValidation_keepsCoupled s)) _ h⟩
  | bankSwitch =>
    exact ⟨_, rfl, whenDue_station (fun {s} => (takeSwitch_turned s).station (takeSwitch_keepsCoupled s)) _ h⟩
  | streamDiscardTimeout => exact ⟨_, rfl, whenDue_station takeTimeout_station _ h⟩
  | deadlineExpiry => exact ⟨_, rfl, expireDeadline_station h⟩
  | traceArmedEntry =>
    exact ⟨_, rfl, whenDue_station (fun {s} => withTrace_station (enterArmed s.trace)) _ h⟩
  | segmentComplete =>
    exact ⟨_, rfl, whenDue_station (fun {s} => withTrace_station (completeSegment s.trace)) _ h⟩
  | frameStart kind => exact ⟨_, rfl, (startFrame_received kind s).station h⟩
  | header x => exact ⟨_, rfl, (receiveHeader_received x s).station h⟩
  | summary => exact ⟨_, rfl, (atTxl_received (sendSummary_sentOnly s) s).station h⟩
  | consumeWord x => exact ⟨_, rfl, (receiveSlotWord_received x s).station h⟩
  | produceWord => exact ⟨_, rfl, (atTxl_received (sendNextWord_sentOnly s) s).station h⟩
  | endOfReception n rest => exact ⟨_, rfl, endReception_station n rest h⟩
  | trailerSent => exact ⟨_, rfl, (sendTrailer_received s).station h⟩
  | lineIdleAfterReset => exact ⟨_, rfl, (lineIdle_received s).station h⟩
  | unknown | nop | getStatus | setCheck | goOperational | leaveOperational | resetStation | setWindow | writeStart
  | writeContinue | readStart | readContinue | stopStream | commitBank | copyActiveToStaged | tagFirst | tagLast
  | groupActionCalibrate | groupActionClearFault | groupActionAckNotice | groupActionRampdown | traceArm
  | traceStop | traceTrigger => exact ⟨_, rfl, (receiveRecord_received _ _ s).station h⟩

/-- Settles O60: a commit takes leaders before followers and changes the phase over channels that do not drive
alone; everything else keeps phase and pairs. -/
theorem everyStepKeepsTheStationSound : Obligations.EveryStepKeepsTheStationSound := by
  unfold Obligations.EveryStepKeepsTheStationSound
  intro s t hs h
  unfold step at h
  split at h
  · cases h; exact hs
  · next i rest _ =>
    obtain ⟨u, hu, sound⟩ := exec_station i (s := s.withPending rest) (station_of_rest (s := s) rfl rfl rfl rfl hs)
    obtain rfl : u = t := by rw [hu] at h; cases h; rfl
    exact sound

end Sys2Proof.Machine
end

section
/-! The queue, the resets and their release (R23, R50, R124, R160): the commands with one closed next state. -/

namespace Sys2Proof.Machine

open Sys2Proof

/-- Settles O1: by the two branches of `step`. -/
theorem frontCommandRunsWithTheRest : Obligations.FrontCommandRunsWithTheRest := by
  unfold Obligations.FrontCommandRunsWithTheRest
  refine ⟨fun s c rest h => ?_, fun s h => ?_⟩
  · unfold step; rw [h]; rfl
  · unfold step; rw [h]

theorem assertReset_gate (n : Nat) (s : State) (c : Chan) :
    (assertReset n s).gate c = gateSwitchOff (max s.now n) (s.gate c) := by
  simp [State.gate, assertReset]

/-- Settles O3: the state after it is written out in `assertReset`, and its gates are switched off. -/
theorem pinResetLeavesResetValues : Obligations.PinResetLeavesResetValues := by
  unfold Obligations.PinResetLeavesResetValues
  refine fun n s => ⟨assertReset n s, rfl, fun c => ?_, rfl⟩
  rw [assertReset_gate]
  exact gateSwitchOff_switchedOff _ _

/-- Settles O4: field by field. -/
theorem resetHoldsTheValuesOfTheSpec : Obligations.ResetHoldsTheValuesOfTheSpec := by
  unfold Obligations.ResetHoldsTheValuesOfTheSpec
  have chans (c : Chan) : State.reset.chan c = {} := by simp [State.chan, State.reset]
  have gates (c : Chan) : SwitchedOff (State.reset.gate c) := by
    have gate : State.reset.gate c = {} := by simp [State.gate, State.reset]
    rw [gate]
    exact ⟨rfl, rfl, rfl, fun l => by cases l <;> exact ⟨rfl, rfl, rfl⟩⟩
  refine ⟨fun c => ⟨chans c, gates c⟩, rfl, rfl, rfl, fun g => ⟨?_, rfl⟩, fun c => ⟨?_, rfl⟩, rfl, rfl, rfl,
    fun p => ?_, rfl, rfl, rfl, rfl, rfl, rfl, fun n => ?_, fun c => ⟨?_, ?_⟩, rfl, rfl, rfl, rfl, rfl, rfl, rfl,
    rfl, rfl, rfl, rfl, rfl, rfl, rfl, fun k => ?_, rfl, rfl⟩ <;>
    simp [State.reset, State.latch, State.prevCtrl]

/-- Settles O5: by the branches of the three commands. -/
theorem releaseSamplesStrapsAndWaitsForIdleLine : Obligations.ReleaseSamplesStrapsAndWaitsForIdleLine := by
  unfold Obligations.ReleaseSamplesStrapsAndWaitsForIdleLine
  refine ⟨fun n straps s low => ?_, fun kind s waits => ?_, fun s high => ?_⟩
  · show Host.Outcome.next (releaseReset n straps s) = _
    unfold releaseReset; rw [if_pos low]
  · show Host.Outcome.next (startFrame kind s) = _
    unfold startFrame; rw [waits]; simp
  · show Host.Outcome.next (lineIdle s) = _
    unfold lineIdle; rw [if_neg (by simp [high])]; rfl

/-- Settles O56: on the reset state every part is a closed value. -/
theorem invariantsHoldAtReset : Obligations.InvariantsHoldAtReset := by
  unfold Obligations.InvariantsHoldAtReset
  refine ⟨by decide, by decide, by decide, rfl, ?_⟩
  refine Settled.station ⟨fun _ => ⟨fun c => by revert c; decide, by decide⟩, fun p configured => absurd configured ?_, rfl⟩
  revert p; decide

end Sys2Proof.Machine
end

section
/-! A station-wide detection (R75, R77, R80, R114): what its events make of each channel of a pair position,
whatever their order. -/

namespace Sys2Proof.Machine

open Sys2Proof Relation

/-! ## Sets of causes -/

theorem causeIn_causeBit_self (k : Cause) : causeIn k (causeBit k) = true := by cases k <;> decide

theorem mem_allCauses (k : Cause) : k ∈ allCauses := by cases k <;> decide

theorem causeIn_causeBit_other {k c : Cause} (h : k ≠ c) : causeIn k (causeBit c) = false :=
  (by decide : ∀ k ∈ allCauses, ∀ c ∈ allCauses, k ≠ c → causeIn k (causeBit c) = false) k (mem_allCauses k) c
    (mem_allCauses c) h

theorem causeIn_or (k : Cause) (x y : Word) : causeIn k (x ||| y) = (causeIn k x || causeIn k y) := by
  simp [causeIn]

theorem causeIn_zero (k : Cause) : causeIn k 0 = false := by simp [causeIn]

theorem causeIn_causeIf (b : Bool) (k : Cause) : causeIn k (causeIf b k) = b := by
  cases b
  · exact causeIn_zero k
  · exact causeIn_causeBit_self k

theorem causeIn_causeIf_other (b : Bool) {k c : Cause} (h : k ≠ c) : causeIn k (causeIf b c) = false := by
  cases b
  · exact causeIn_zero k
  · exact causeIn_causeBit_other h

theorem causeIn_pendingOthers_refLoss (k : Cause) (ch : Channel) :
    causeIn .refLoss (pendingOthers k ch) = (ch.pendRefLoss && k != .refLoss) := by
  rw [pendingOthers, causeIn_or, causeIn_causeIf, causeIn_causeIf_other _ (by decide), Bool.or_false]

theorem causeIn_pendingOthers_partner (k : Cause) (ch : Channel) :
    causeIn .partner (pendingOthers k ch) = (ch.pendPartner && k != .partner) := by
  rw [pendingOthers, causeIn_or, causeIn_causeIf, causeIn_causeIf_other _ (by decide), Bool.false_or]

theorem causeIn_toFault (k c : Cause) (m : Word) (ia ib : Int) (v n : Nat) (ch : Channel) :
    causeIn c (toFault k m ia ib v n ch).fault.alsoSeen = (causeIn c (pendingOthers k ch) || causeIn c m) :=
  causeIn_or ..

theorem causeIn_laterFault (k c : Cause) (ch : Channel) :
    causeIn c (laterFault k ch).fault.alsoSeen = (causeIn c ch.fault.alsoSeen || causeIn c (causeBit k)) :=
  causeIn_or ..

/-! ## What becomes of one channel -/

/-- OFF, CALIBRATE or READY. -/
def Resting (x : ChState) : Prop := x = .off ∨ x = .calibrate ∨ x = .ready

theorem resting_not_drives {x : ChState} (h : Resting x) : drives x = false := by
  rcases h with rfl | rfl | rfl <;> rfl

theorem resting_not_fault {x : ChState} (h : Resting x) : x ≠ .fault := by
  rcases h with rfl | rfl | rfl <;> nofun

/-- A channel drives, stands in FAULT or rests. -/
theorem state_cases (x : ChState) : drives x = true ∨ x = .fault ∨ Resting x := by
  cases x <;> simp [drives, Resting]

/-- A fault record has taken later faults alone, none of them REF_LOSS, which no later fault is (R82). -/
structure LaterOnly (a b : Channel × Gate) : Prop where
  state : b.1.state = .fault
  first : b.1.fault.firstCause = a.1.fault.firstCause
  total : b.1.fault.totalCount = a.1.fault.totalCount
  trip : b.1.fault.tripState = a.1.fault.tripState
  refLoss : causeIn .refLoss b.1.fault.alsoSeen = causeIn .refLoss a.1.fault.alsoSeen
  seen : ∀ k, causeIn k a.1.fault.alsoSeen = true → causeIn k b.1.fault.alsoSeen = true
  gate : b.2 = a.2

theorem LaterOnly.refl {a : Channel × Gate} (h : a.1.state = .fault) : LaterOnly a a :=
  ⟨h, rfl, rfl, rfl, rfl, fun _ => id, rfl⟩

theorem LaterOnly.trans {a b c : Channel × Gate} (h : LaterOnly a b) (k : LaterOnly b c) : LaterOnly a c where
  state := k.state
  first := k.first.trans h.first
  total := k.total.trans h.total
  trip := k.trip.trans h.trip
  refLoss := k.refLoss.trans h.refLoss
  seen c hc := k.seen c (h.seen c hc)
  gate := k.gate.trans h.gate

theorem laterFault_laterOnly {k : Cause} (hk : k ≠ .refLoss) {ch : Channel} (g : Gate) (h : ch.state = .fault) :
    LaterOnly (ch, g) (laterFault k ch, g) where
  state := h
  first := rfl
  total := rfl
  trip := rfl
  refLoss := by rw [causeIn_laterFault, causeIn_causeBit_other hk.symm, Bool.or_false]
  seen c hc := by
    have hc : causeIn c ch.fault.alsoSeen = true := hc
    rw [causeIn_laterFault, hc, Bool.true_or]
  gate := rfl

/-- What reactions alone can have made of a channel and its gates. -/
structure Awaits (a b : Channel × Gate) : Prop where
  driven : drives a.1.state = true → drives b.1.state = true ∧ b.1.fault = a.1.fault ∧
    b.1.pendRefLoss = a.1.pendRefLoss ∧ (a.1.pendPartner = true → b.1.pendPartner = true) ∧
    (a.1.state = .rampdown → b.1.state = .rampdown)
  faulted : a.1.state = .fault → LaterOnly a b
  rested : Resting a.1.state → b = a

/-- What the detection of `k`, with reactions before and after it, makes of a channel and its gates (R16, R75,
R81, R82). -/
structure Detected (k : Cause) (a b : Channel × Gate) : Prop where
  driven : drives a.1.state = true → b.1.state = .fault ∧ b.1.fault.firstCause = some k ∧
    b.1.fault.totalCount = bump a.1.fault.totalCount ∧ SwitchedOff b.2 ∧
    causeIn .refLoss b.1.fault.alsoSeen = a.1.pendRefLoss ∧
    (a.1.pendPartner = true → causeIn .partner b.1.fault.alsoSeen = true) ∧
    (a.1.state = .rampdown → b.1.fault.tripState = .rampdown)
  faulted : a.1.state = .fault → LaterOnly a b ∧ causeIn k b.1.fault.alsoSeen = true
  rested : Resting a.1.state → b = a

theorem Awaits.refl (a : Channel × Gate) : Awaits a a :=
  ⟨fun h => ⟨h, rfl, rfl, id, id⟩, .refl, fun _ => rfl⟩

/-- One reaction reaching a channel (R10, R82, R110, R112). -/
inductive Reaction : Channel × Gate → Channel × Gate → Prop
  | ramped (partner : Bool) (ch : Channel) (g : Gate) (h : runOrHold ch.state = true) :
      Reaction (ch, g) (toRampdown false partner ch, g)
  | pended (ch : Channel) (g : Gate) (h : ch.state = .rampdown) :
      Reaction (ch, g) ({ ch with pendPartner := true }, g)
  | later (ch : Channel) (g : Gate) (h : ch.state = .fault) : Reaction (ch, g) (laterFault .partner ch, g)

theorem Reaction.laterOnly {a b : Channel × Gate} (h : Reaction a b) (fault : a.1.state = .fault) :
    LaterOnly a b := by
  cases h with
  | ramped q ch g rOH => rw [show ch.state = .fault from fault] at rOH; cases rOH
  | pended ch g ramp => rw [show ch.state = .fault from fault] at ramp; cases ramp
  | later ch g f => exact laterFault_laterOnly (k := .partner) nofun g f

theorem Reaction.not_resting {a b : Channel × Gate} (h : Reaction a b) : ¬ Resting a.1.state := by
  intro rest
  cases h with
  | ramped q ch g rOH => exact absurd (drives_of_runOrHold rOH) (by rw [resting_not_drives rest]; nofun)
  | pended ch g ramp => exact absurd (resting_not_drives rest) (by rw [show ch.state = _ from ramp]; nofun)
  | later ch g f => exact resting_not_fault rest f

theorem Awaits.react {a b c : Channel × Gate} (h : Awaits a b) (r : Reaction b c) : Awaits a c where
  driven drv := by
    obtain ⟨bDrv, fault, refLoss, partner, ramp⟩ := h.driven drv
    cases r with
    | ramped q ch g rOH =>
      refine ⟨rfl, fault, by simpa [toRampdown] using refLoss, fun p => ?_, fun _ => rfl⟩
      have : ch.pendPartner = true := partner p
      simp [toRampdown, this]
    | pended ch g state => exact ⟨bDrv, fault, refLoss, fun _ => rfl, ramp⟩
    | later ch g f => rw [show ch.state = .fault from f] at bDrv; cases bDrv
  faulted fault := (h.faulted fault).trans (r.laterOnly (h.faulted fault).state)
  rested rest := by
    have same := h.rested rest
    subst same
    exact absurd rest r.not_resting

theorem Detected.react {k : Cause} {a b c : Channel × Gate} (h : Detected k a b) (r : Reaction b c) :
    Detected k a c where
  driven drv := by
    obtain ⟨state, first, total, off, refLoss, partner, ramp⟩ := h.driven drv
    have later := r.laterOnly state
    exact ⟨later.state, later.first.trans first, later.total.trans total, by rw [later.gate]; exact off,
      later.refLoss.trans refLoss, fun p => later.seen _ (partner p), fun s => later.trip.trans (ramp s)⟩
  faulted fault := by
    obtain ⟨before, seen⟩ := h.faulted fault
    have later := r.laterOnly before.state
    exact ⟨before.trans later, later.seen _ seen⟩
  rested rest := by
    have same := h.rested rest
    subst same
    exact absurd rest r.not_resting

/-- The detection itself, after any reactions. -/
theorem Awaits.faulted_detected {k : Cause} (hr : k ≠ .refLoss) (hp : k ≠ .partner) {a : Channel × Gate}
    {ch : Channel} {g : Gate} (h : Awaits a (ch, g)) (drv : drives ch.state = true) (ia ib : Int) (v n t : Nat) :
    Detected k a (toFault k 0 ia ib v n ch, gateSwitchOff t g) where
  driven aDrv := by
    obtain ⟨-, fault, refLoss, partner, ramp⟩ := h.driven aDrv
    refine ⟨rfl, rfl, ?_, gateSwitchOff_switchedOff t g, ?_, fun p => ?_, fun s => ramp s⟩
    · show bump ch.fault.totalCount = _
      rw [show ch.fault = a.1.fault from fault]
    · rw [causeIn_toFault, causeIn_pendingOthers_refLoss, causeIn_zero, Bool.or_false,
        show ch.pendRefLoss = a.1.pendRefLoss from refLoss, bne_iff_ne.2 hr, Bool.and_true]
    · rw [causeIn_toFault, causeIn_pendingOthers_partner, show ch.pendPartner = true from partner p,
        bne_iff_ne.2 hp]
      rfl
  faulted fault := by
    have state : ch.state = .fault := (h.faulted fault).state
    rw [state] at drv; cases drv
  rested rest := by
    have same := h.rested rest
    subst same
    rw [resting_not_drives rest] at drv; cases drv

theorem Awaits.later_detected {k : Cause} (hr : k ≠ .refLoss) {a : Channel × Gate} {ch : Channel} {g : Gate}
    (h : Awaits a (ch, g)) (state : ch.state = .fault) : Detected k a (laterFault k ch, g) where
  driven aDrv := by
    have drv : drives ch.state = true := (h.driven aDrv).1
    rw [state] at drv; cases drv
  faulted fault := by
    refine ⟨(h.faulted fault).trans (laterFault_laterOnly hr g state), ?_⟩
    rw [causeIn_laterFault, causeIn_causeBit_self, Bool.or_true]
  rested rest := by
    have same := h.rested rest
    subst same
    exact absurd state (resting_not_fault rest)

theorem Awaits.rest_detected {k : Cause} {a : Channel × Gate} {ch : Channel} {g : Gate} (h : Awaits a (ch, g))
    (state : Resting ch.state) : Detected k a (ch, g) where
  driven aDrv := by
    have drv : drives ch.state = true := (h.driven aDrv).1
    rw [resting_not_drives state] at drv; cases drv
  faulted fault := absurd (h.faulted fault).state (resting_not_fault state)
  rested := h.rested

/-! ## Reactions within a pair position -/

theorem enterRampdown_reactions {s : State} {c : Chan} (h : runOrHold (s.chan c).state = true) (partner : Bool)
    (d : Chan) :
    ReflTransGen Reaction (s.chan d, s.gate d)
      ((enterRampdown c false partner s).chan d, (enterRampdown c false partner s).gate d) := by
  have ramp {s : State} {c : Chan} (h : runOrHold (s.chan c).state = true) (q : Bool) :
      ReflTransGen Reaction (s.chan d, s.gate d)
        ((s.modChan c (toRampdown false q)).chan d, (s.modChan c (toRampdown false q)).gate d) := by
    rw [State.modChan_gate]
    by_cases e : d = c
    · subst e; rw [State.modChan_chan_same]; exact .single (.ramped q _ _ h)
    · rw [State.modChan_chan_other s _ e]
  unfold enterRampdown
  dsimp only
  split
  · next along => exact (ramp h partner).trans (ramp (Bool.and_eq_true_iff.1 along).2 false)
  · exact ramp h partner

/-- The reaction to a partner's FAULT entry reaches channels by reactions alone. -/
theorem partnerReact_reactions (c : Chan) (s : State) (d : Chan) :
    ReflTransGen Reaction (s.chan d, s.gate d) ((partnerReact c s).chan d, (partnerReact c s).gate d) := by
  have one {f : Channel → Channel} (h : Reaction (s.chan c, s.gate c) (f (s.chan c), s.gate c)) :
      ReflTransGen Reaction (s.chan d, s.gate d) ((s.modChan c f).chan d, (s.modChan c f).gate d) := by
    rw [State.modChan_gate]
    by_cases e : d = c
    · subst e; rw [State.modChan_chan_same]; exact .single h
    · rw [State.modChan_chan_other s f e]
  unfold partnerReact
  cases e : (s.chan c).state with
  | run => exact enterRampdown_reactions (by rw [e]; rfl) true d
  | hold => exact enterRampdown_reactions (by rw [e]; rfl) true d
  | rampdown => exact one (.pended _ _ e)
  | fault => exact one (.later _ _ e)
  | off | calibrate | ready => exact .refl

theorem awaits_of_reactions {a b c : Channel × Gate} (h : Awaits a b) (r : ReflTransGen Reaction b c) :
    Awaits a c := keeps_of_chain (p := Awaits a) (fun r h => Awaits.react h r) r h

theorem detected_of_reactions {k : Cause} {a b c : Channel × Gate} (h : Detected k a b)
    (r : ReflTransGen Reaction b c) : Detected k a c :=
  keeps_of_chain (p := Detected k a) (fun r h => Detected.react h r) r h

/-- A cause that only the station as a whole detects. -/
def StationWide (k : Cause) : Prop := k = .busUnder ∨ k = .busOver ∨ k = .inhibit

theorem StationWide.ne {k : Cause} (h : StationWide k) : k ≠ .refLoss ∧ k ≠ .partner := by
  rcases h with rfl | rfl | rfl <;> exact ⟨nofun, nofun⟩

theorem detectAlone_same {k : Cause} (hk : StationWide k) {a : Channel × Gate} {s : State} {c : Chan}
    (h : Awaits a (s.chan c, s.gate c)) :
    Detected k a ((detectAlone c k s).chan c, (detectAlone c k s).gate c) := by
  rcases state_cases (s.chan c).state with drv | fault | rest
  · rw [detectAlone_drives drv, enterFaultAlone_chan_same, enterFaultAlone_gate_same]
    exact h.faulted_detected hk.ne.1 hk.ne.2 drv _ _ _ _ _
  · rw [detectAlone_fault fault, State.modChan_chan_same, State.modChan_gate]
    exact h.later_detected hk.ne.1 fault
  · rw [detectAlone_rests (resting_not_drives rest) (resting_not_fault rest)]
    exact h.rest_detected rest

theorem detectAlone_other (k : Cause) {s : State} {c d : Chan} (h : d ≠ c) :
    (detectAlone c k s).chan d = s.chan d ∧ (detectAlone c k s).gate d = s.gate d := by
  rcases state_cases (s.chan c).state with drv | fault | rest
  · rw [detectAlone_drives drv]
    exact ⟨enterFaultAlone_chan_other s h .., enterFaultAlone_gate_other s h ..⟩
  · rw [detectAlone_fault fault]
    exact ⟨State.modChan_chan_other s _ h, rfl⟩
  · rw [detectAlone_rests (resting_not_drives rest) (resting_not_fault rest)]
    exact ⟨rfl, rfl⟩

theorem endRampdownAlone_other {s : State} {c d : Chan} (h : d ≠ c) :
    (endRampdownAlone c s).chan d = s.chan d ∧ (endRampdownAlone c s).gate d = s.gate d := by
  unfold endRampdownAlone
  dsimp only
  split
  · have gate : (s.modGate c (gateSwitchOff s.now)).gate d = s.gate d := State.modGate_gate_other s _ h
    split
    · exact ⟨enterFaultAlone_chan_other _ h .., (enterFaultAlone_gate_other _ h ..).trans gate⟩
    · split
      · exact ⟨enterFaultAlone_chan_other _ h .., (enterFaultAlone_gate_other _ h ..).trans gate⟩
      · exact ⟨State.modChan_chan_other _ _ h, gate⟩
  · exact ⟨rfl, rfl⟩

/-! ## Rampdown ends on the way -/

/-- From `s` to `t` no rampdown end has become due. -/
structure NoNewEnds (s t : State) : Prop where
  less : ∀ c, rampEndDue t c = true → rampEndDue s c = true

theorem NoNewEnds.refl (s : State) : NoNewEnds s s := ⟨fun _ => id⟩

theorem NoNewEnds.trans {a b c : State} (h : NoNewEnds a b) (k : NoNewEnds b c) : NoNewEnds a c :=
  ⟨fun d hd => h.less d (k.less d hd)⟩

theorem NoNewEnds.not_due {s t : State} (h : NoNewEnds s t) {c : Chan} (hs : rampEndDue s c = false) :
    rampEndDue t c = false := by
  cases due : rampEndDue t c with
  | false => rfl
  | true => rw [h.less c due] at hs; cases hs

theorem rampEndDue_iff {s : State} {c : Chan} :
    rampEndDue s c = true ↔ ∃ w, s.moment = some w ∧ RampEndDue s w c := by
  unfold rampEndDue RampEndDue
  cases s.moment with
  | none => simp
  | some w => simp [rampOut_iff]

theorem noNewEnds_of_chans {s t : State} (moment : t.moment = s.moment)
    (out : ∀ c, rampOut (t.chan c) = true → rampOut (s.chan c) = true) : NoNewEnds s t := by
  refine ⟨fun c => ?_⟩
  unfold rampEndDue
  rw [moment]
  cases s.moment with
  | none => exact id
  | some w =>
    dsimp only
    rw [Bool.and_eq_true, Bool.and_eq_true]
    exact fun h => ⟨h.1, out c h.2⟩

theorem modChan_noNewEnds {s : State} {c : Chan} {f : Channel → Channel}
    (h : rampOut (f (s.chan c)) = true → rampOut (s.chan c) = true) : NoNewEnds s (s.modChan c f) := by
  refine noNewEnds_of_chans rfl fun d => ?_
  by_cases e : d = c
  · subst e; rw [State.modChan_chan_same]; exact h
  · rw [State.modChan_chan_other s f e]; exact id

theorem enterRampdown_noNewEnds (c : Chan) (r q : Bool) (s : State) : NoNewEnds s (enterRampdown c r q s) := by
  have ramp (s : State) (c : Chan) (r q : Bool) : NoNewEnds s (s.modChan c (toRampdown r q)) :=
    modChan_noNewEnds (by intro h; cases h)
  unfold enterRampdown
  dsimp only
  split
  · exact (ramp s c r q).trans (ramp _ _ _ _)
  · exact ramp s c r q

theorem partnerReact_noNewEnds (c : Chan) (s : State) : NoNewEnds s (partnerReact c s) := by
  unfold partnerReact
  cases (s.chan c).state with
  | run | hold => exact enterRampdown_noNewEnds c _ _ s
  | rampdown | fault => exact modChan_noNewEnds id
  | off | calibrate | ready => exact .refl s

theorem enterFaultAlone_noNewEnds (c : Chan) (k : Cause) (m : Word) (ia ib : Int) (v : Nat) (s : State) :
    NoNewEnds s (enterFaultAlone c k m ia ib v s) := by
  refine noNewEnds_of_chans rfl fun d => ?_
  by_cases e : d = c
  · subst e; rw [enterFaultAlone_chan_same]; intro h; cases h
  · rw [enterFaultAlone_chan_other s e]; exact id

theorem detectAlone_noNewEnds (c : Chan) (k : Cause) (s : State) : NoNewEnds s (detectAlone c k s) := by
  unfold detectAlone
  cases (s.chan c).state with
  | run | hold | rampdown => exact enterFaultAlone_noNewEnds ..
  | fault => exact modChan_noNewEnds id
  | off | calibrate | ready => exact .refl s

theorem dropRampEnd_noNewEnds (c : Chan) (s : State) : NoNewEnds s (dropRampEnd c s) := by
  refine ⟨fun d => ?_⟩
  unfold rampEndDue dropRampEnd
  cases h : s.moment with
  | none => simp
  | some w => simp; tauto

theorem modGate_noNewEnds (s : State) (c : Chan) (f : Gate → Gate) : NoNewEnds s (s.modGate c f) :=
  noNewEnds_of_chans rfl fun _ => id

theorem endRampdownAlone_noNewEnds (c : Chan) (s : State) : NoNewEnds s (endRampdownAlone c s) := by
  unfold endRampdownAlone
  dsimp only
  split
  · have off := modGate_noNewEnds s c (gateSwitchOff s.now)
    split
    · exact off.trans (enterFaultAlone_noNewEnds ..)
    · split
      · exact off.trans (enterFaultAlone_noNewEnds ..)
      · exact off.trans (modChan_noNewEnds (by intro h; cases h))
  · exact .refl s

theorem takePairEvent_noNewEnds (p : Fin 4) (k : Cause) (r : PairRun) (e : PairEvent) :
    NoNewEnds r.state (takePairEvent p k r e).state := by
  cases e with
  | detect odd =>
    unfold takePairEvent
    dsimp only
    split
    · exact detectAlone_noNewEnds ..
    · exact .refl _
  | react odd =>
    unfold takePairEvent
    dsimp only
    split
    · exact partnerReact_noNewEnds ..
    · exact .refl _
  | rampEnd odd =>
    unfold takePairEvent
    dsimp only
    split
    · exact (dropRampEnd_noNewEnds _ _).trans (endRampdownAlone_noNewEnds _ _)
    · exact .refl _

/-! ## The events of a pair position, seen from one of its channels -/

/-- Seen from the odd or even channel of pair position `p`, which stood as `a`: its detection of `k` is still on
the way and only reactions have reached it, or the detection has been taken. -/
def Tracks (k : Cause) (p : Fin 4) (odd : Bool) (a : Channel × Gate) (r : PairRun) : Prop :=
  (r.waiting.count (.detect odd) = 1 ∧ Awaits a (r.state.chan (sideOf p odd), r.state.gate (sideOf p odd))) ∨
    (r.waiting.count (.detect odd) = 0 ∧ Detected k a (r.state.chan (sideOf p odd), r.state.gate (sideOf p odd)))

theorem followUp_count (p : Fin 4) (odd side : Bool) (r : PairRun) (t : State) (l : List PairEvent) :
    (followUp p odd r t l).waiting.count (.detect side) = l.count (.detect side) := by
  unfold followUp
  dsimp only
  split
  · exact List.count_cons_of_ne (by simp)
  · rfl

theorem sideOf_ne (p : Fin 4) {a b : Bool} (h : a ≠ b) : sideOf p a ≠ sideOf p b := by
  revert p a b; decide

/-- A state in which the channel stands as before, with its detection on the way or not as before. -/
theorem Tracks.of_same {k : Cause} {p : Fin 4} {odd : Bool} {a : Channel × Gate} {r u : PairRun}
    (h : Tracks k p odd a r) (count : u.waiting.count (.detect odd) = r.waiting.count (.detect odd))
    (chan : u.state.chan (sideOf p odd) = r.state.chan (sideOf p odd))
    (gate : u.state.gate (sideOf p odd) = r.state.gate (sideOf p odd)) : Tracks k p odd a u := by
  unfold Tracks
  rw [count, chan, gate]
  exact h

/-- Every event but the end of the channel's own rampdown keeps the track. -/
theorem takePairEvent_tracks {k : Cause} (hk : StationWide k) {p : Fin 4} {odd : Bool} {a : Channel × Gate}
    {r : PairRun} (e : PairEvent) (notEnd : e = .rampEnd odd → rampEndDue r.state (sideOf p odd) = false)
    (h : Tracks k p odd a r) : Tracks k p odd a (takePairEvent p k r e) := by
  cases e with
  | detect side =>
    unfold takePairEvent
    dsimp only
    split
    swap
    · exact h
    next waits =>
    by_cases same : odd = side
    · subst same
      rcases h with ⟨one, awaits⟩ | ⟨zero, -⟩
      · refine .inr ⟨?_, detectAlone_same hk awaits⟩
        rw [followUp_count, List.count_erase_self, one]
      · exact absurd zero (List.count_pos_iff.2 (by simpa using waits)).ne'
    · obtain ⟨chan, gate⟩ := detectAlone_other k (s := r.state) (sideOf_ne p same)
      refine h.of_same ?_ chan gate
      rw [followUp_count, List.count_erase_of_ne (by simpa using same)]
  | react side =>
    unfold takePairEvent
    dsimp only
    split
    swap
    · exact h
    have reactions := partnerReact_reactions (sideOf p side) r.state (sideOf p odd)
    have count : (r.waiting.erase (.react side)).count (.detect odd) = r.waiting.count (.detect odd) :=
      List.count_erase_of_ne (by simp)
    unfold Tracks
    dsimp only
    rw [count]
    exact h.imp (fun x => ⟨x.1, awaits_of_reactions x.2 reactions⟩)
      (fun x => ⟨x.1, detected_of_reactions x.2 reactions⟩)
  | rampEnd side =>
    unfold takePairEvent
    dsimp only
    split
    swap
    · exact h
    next due =>
    have other : odd ≠ side := by
      rintro rfl
      rw [notEnd rfl] at due; cases due
    obtain ⟨chan, gate⟩ := endRampdownAlone_other (s := dropRampEnd (sideOf p side) r.state) (sideOf_ne p other)
    exact h.of_same (followUp_count ..) chan gate

theorem pairEvents_tracks {k : Cause} (hk : StationWide k) {p : Fin 4} {odd : Bool} {a : Channel × Gate}
    (l : List PairEvent) {r : PairRun} (notEnd : .rampEnd odd ∈ l → rampEndDue r.state (sideOf p odd) = false)
    (h : Tracks k p odd a r) : Tracks k p odd a (l.foldl (takePairEvent p k) r) := by
  induction l generalizing r with
  | nil => exact h
  | cons e l ih =>
    refine ih (fun later => (takePairEvent_noNewEnds p k r e).not_due (notEnd (List.mem_cons_of_mem _ later))) ?_
    exact takePairEvent_tracks hk e (by rintro rfl; exact notEnd List.mem_cons_self) h

/-- An event in which the channel's detection is taken leaves it taken. -/
theorem detect_count_zero (p : Fin 4) (k : Cause) (odd : Bool) {r : PairRun}
    (h : r.waiting.count (.detect odd) ≤ 1) :
    (takePairEvent p k r (.detect odd)).waiting.count (.detect odd) = 0 := by
  unfold takePairEvent
  dsimp only
  split
  · rw [followUp_count, List.count_erase_self]; omega
  · next absent => exact List.count_eq_zero.2 (by simpa using absent)

theorem Tracks.count_le {k : Cause} {p : Fin 4} {odd : Bool} {a : Channel × Gate} {r : PairRun}
    (h : Tracks k p odd a r) : r.waiting.count (.detect odd) ≤ 1 := by
  rcases h with ⟨one, -⟩ | ⟨zero, -⟩ <;> omega

theorem takePairEvent_count_le (p : Fin 4) (k : Cause) (odd : Bool) (r : PairRun) (e : PairEvent) :
    (takePairEvent p k r e).waiting.count (.detect odd) ≤ r.waiting.count (.detect odd) := by
  cases e with
  | detect side =>
    unfold takePairEvent
    dsimp only
    split
    · rw [followUp_count]; exact List.erase_sublist.count_le _
    · exact le_refl _
  | react side =>
    unfold takePairEvent
    dsimp only
    split
    · exact List.erase_sublist.count_le _
    · exact le_refl _
  | rampEnd side =>
    unfold takePairEvent
    dsimp only
    split
    · rw [followUp_count]
    · exact le_refl _

theorem pairEvents_count_le (p : Fin 4) (k : Cause) (odd : Bool) (l : List PairEvent) (r : PairRun) :
    (l.foldl (takePairEvent p k) r).waiting.count (.detect odd) ≤ r.waiting.count (.detect odd) := by
  induction l generalizing r with
  | nil => exact le_refl _
  | cons e l ih => exact (ih _).trans (takePairEvent_count_le p k odd r e)

/-- A list of events that holds the channel's detection takes it. -/
theorem pairEvents_detected {k : Cause} (hk : StationWide k) {p : Fin 4} {odd : Bool} {a : Channel × Gate}
    {l : List PairEvent} {r : PairRun} (detect : .detect odd ∈ l)
    (notEnd : .rampEnd odd ∈ l → rampEndDue r.state (sideOf p odd) = false) (h : Tracks k p odd a r) :
    Detected k a ((l.foldl (takePairEvent p k) r).state.chan (sideOf p odd),
      (l.foldl (takePairEvent p k) r).state.gate (sideOf p odd)) := by
  obtain ⟨before, after, rfl⟩ := List.append_of_mem detect
  have tracked := pairEvents_tracks hk (before ++ .detect odd :: after) notEnd h
  have reached := pairEvents_tracks hk before
    (fun m => notEnd (List.mem_append_left _ m)) h
  have taken : ((before ++ .detect odd :: after).foldl (takePairEvent p k) r).waiting.count (.detect odd) = 0 := by
    rw [List.foldl_append, List.foldl_cons]
    have zero := detect_count_zero p k odd reached.count_le
    have := pairEvents_count_le p k odd after (takePairEvent p k (before.foldl (takePairEvent p k) r) (.detect odd))
    omega
  rcases tracked with ⟨one, -⟩ | ⟨-, detected⟩
  · rw [taken] at one; cases one
  · exact detected

theorem detect_mem_pairRest (odd : Bool) : .detect odd ∈ pairRest := by revert odd; decide

theorem rampEnd_not_mem_pairRest (odd : Bool) : .rampEnd odd ∉ pairRest := by revert odd; decide

/-- A station-wide detection in a pair position, whatever the order of its events (R80, R114). -/
theorem detectPair_detected {k : Cause} (hk : StationWide k) (o : PairOrder) (p : Fin 4) (odd : Bool) {s : State}
    (notEnd : .rampEnd odd ∈ o → rampEndDue s (sideOf p odd) = false) :
    Detected k (s.chan (sideOf p odd), s.gate (sideOf p odd))
      ((detectPair o p k s).chan (sideOf p odd), (detectPair o p k s).gate (sideOf p odd)) := by
  refine pairEvents_detected (r := ⟨s, [.detect false, .detect true]⟩) hk
    (List.mem_append_right _ (detect_mem_pairRest odd)) (fun m => notEnd ?_) (.inl ⟨?_, .refl _⟩)
  · exact (List.mem_append.1 m).resolve_right (rampEnd_not_mem_pairRest odd)
  · cases odd <;> rfl

theorem pairEvents_noNewEnds (p : Fin 4) (k : Cause) (l : List PairEvent) (r : PairRun) :
    NoNewEnds r.state (l.foldl (takePairEvent p k) r).state := by
  induction l generalizing r with
  | nil => exact .refl _
  | cons e l ih => exact (takePairEvent_noNewEnds p k r e).trans (ih _)

theorem detectPair_noNewEnds (o : PairOrder) (p : Fin 4) (k : Cause) (s : State) :
    NoNewEnds s (detectPair o p k s) := pairEvents_noNewEnds p k (o ++ pairRest) ⟨s, [.detect false, .detect true]⟩

/-! ## The instant's work and the Trace Unit -/

theorem enterRampdown_moment (c : Chan) (r q : Bool) (s : State) :
    (enterRampdown c r q s).moment = s.moment ∧ (enterRampdown c r q s).trace = s.trace := by
  unfold enterRampdown
  dsimp only
  split <;> exact ⟨rfl, rfl⟩

theorem partnerReact_moment (c : Chan) (s : State) :
    (partnerReact c s).moment = s.moment ∧ (partnerReact c s).trace = s.trace := by
  unfold partnerReact
  cases (s.chan c).state with
  | run | hold => exact enterRampdown_moment c _ _ s
  | rampdown | fault | off | calibrate | ready => exact ⟨rfl, rfl⟩

/-- A trigger is lost where the capture is not ARMED (R174). -/
theorem faultTrigger_unarmed {u : TraceUnit} (h : u.capture ≠ .armed) (c : Chan) : faultTrigger c u = u := by
  unfold faultTrigger takeTrigger
  split
  · cases e : u.capture with
    | armed => exact absurd e h
    | idle | pre | post | done => rfl
  · rfl

theorem detectAlone_moment (c : Chan) (k : Cause) (s : State) : (detectAlone c k s).moment = s.moment := by
  unfold detectAlone
  cases (s.chan c).state with
  | run | hold | rampdown | fault | off | calibrate | ready => rfl

theorem detectAlone_trace (c : Chan) (k : Cause) {s : State} (h : s.trace.capture ≠ .armed) :
    (detectAlone c k s).trace = s.trace := by
  unfold detectAlone
  cases (s.chan c).state with
  | run | hold | rampdown => exact faultTrigger_unarmed h c
  | fault | off | calibrate | ready => rfl

theorem endRampdownAlone_trace (c : Chan) {s : State} (h : s.trace.capture ≠ .armed) :
    (endRampdownAlone c s).trace = s.trace := by
  unfold endRampdownAlone
  dsimp only
  split
  · split
    · exact faultTrigger_unarmed h c
    · split
      · exact faultTrigger_unarmed h c
      · rfl
  · rfl

/-- An event that is no due rampdown end leaves the instant's work. -/
theorem takePairEvent_moment (p : Fin 4) (k : Cause) {r : PairRun} (e : PairEvent)
    (notEnd : ∀ odd, e = .rampEnd odd → rampEndDue r.state (sideOf p odd) = false) :
    (takePairEvent p k r e).state.moment = r.state.moment := by
  cases e with
  | detect odd =>
    unfold takePairEvent
    dsimp only
    split
    · exact detectAlone_moment ..
    · rfl
  | react odd =>
    unfold takePairEvent
    dsimp only
    split
    · exact (partnerReact_moment _ _).1
    · rfl
  | rampEnd odd =>
    unfold takePairEvent
    dsimp only
    rw [notEnd odd rfl]
    rfl

theorem takePairEvent_trace (p : Fin 4) (k : Cause) {r : PairRun} (e : PairEvent)
    (h : r.state.trace.capture ≠ .armed) : (takePairEvent p k r e).state.trace = r.state.trace := by
  cases e with
  | detect odd =>
    unfold takePairEvent
    dsimp only
    split
    · exact detectAlone_trace _ k h
    · rfl
  | react odd =>
    unfold takePairEvent
    dsimp only
    split
    · exact (partnerReact_moment _ _).2
    · rfl
  | rampEnd odd =>
    unfold takePairEvent
    dsimp only
    split
    · exact endRampdownAlone_trace _ (s := dropRampEnd (sideOf p odd) r.state) h
    · rfl

theorem pairEvents_moment (p : Fin 4) (k : Cause) (l : List PairEvent) {r : PairRun}
    (notEnd : ∀ odd, .rampEnd odd ∈ l → rampEndDue r.state (sideOf p odd) = false) :
    (l.foldl (takePairEvent p k) r).state.moment = r.state.moment := by
  induction l generalizing r with
  | nil => rfl
  | cons e l ih =>
    have first := takePairEvent_moment p k (r := r) e
      (by rintro odd rfl; exact notEnd odd List.mem_cons_self)
    refine (ih fun odd m => ?_).trans first
    exact (takePairEvent_noNewEnds p k r e).not_due (notEnd odd (List.mem_cons_of_mem _ m))

theorem pairEvents_trace (p : Fin 4) (k : Cause) (l : List PairEvent) {r : PairRun}
    (h : r.state.trace.capture ≠ .armed) : (l.foldl (takePairEvent p k) r).state.trace = r.state.trace := by
  induction l generalizing r with
  | nil => rfl
  | cons e l ih =>
    have first := takePairEvent_trace p k e h
    exact (ih (by rw [first]; exact h)).trans first

theorem detectPair_moment (o : PairOrder) (p : Fin 4) (k : Cause) {s : State}
    (notEnd : ∀ odd, .rampEnd odd ∈ o → rampEndDue s (sideOf p odd) = false) :
    (detectPair o p k s).moment = s.moment :=
  pairEvents_moment p k (o ++ pairRest) (r := ⟨s, [.detect false, .detect true]⟩) fun odd m =>
    notEnd odd ((List.mem_append.1 m).resolve_right (rampEnd_not_mem_pairRest odd))

theorem detectPair_trace (o : PairOrder) (p : Fin 4) (k : Cause) {s : State} (h : s.trace.capture ≠ .armed) :
    (detectPair o p k s).trace = s.trace :=
  pairEvents_trace p k (o ++ pairRest) (r := ⟨s, [.detect false, .detect true]⟩) h

/-! ## The station-wide detection in every pair position -/

/-- From `s` to `t` the channels of pair position `p` stand as before, with their rampdown ends. -/
structure Away (p : Fin 4) (s t : State) : Prop where
  chan : ∀ d, pairOf d = p → t.chan d = s.chan d
  gate : ∀ d, pairOf d = p → t.gate d = s.gate d
  ends : ∀ d, pairOf d = p → rampEndDue t d = rampEndDue s d

theorem Away.refl (p : Fin 4) (s : State) : Away p s s := ⟨fun _ _ => rfl, fun _ _ => rfl, fun _ _ => rfl⟩

theorem Away.trans {p : Fin 4} {a b c : State} (h : Away p a b) (k : Away p b c) : Away p a c :=
  ⟨fun d hd => (k.chan d hd).trans (h.chan d hd), fun d hd => (k.gate d hd).trans (h.gate d hd),
    fun d hd => (k.ends d hd).trans (h.ends d hd)⟩

/-- An event within another pair position that leaves the instant's work. -/
theorem PairOnly.away {p q : Fin 4} {s t : State} (h : PairOnly q s t) (ne : p ≠ q) (moment : t.moment = s.moment) :
    Away p s t := by
  have other (d : Chan) (hd : pairOf d = p) : pairOf d ≠ q := by rw [hd]; exact ne
  refine ⟨fun d hd => h.chan d (other d hd), fun d hd => h.gate d (other d hd), fun d hd => ?_⟩
  unfold rampEndDue
  rw [moment, h.chan d (other d hd)]

theorem dropRampEnd_away {p : Fin 4} {c : Chan} (h : pairOf c ≠ p) (s : State) : Away p s (dropRampEnd c s) := by
  refine ⟨fun _ _ => rfl, fun _ _ => rfl, fun d hd => ?_⟩
  have ne : d ≠ c := by rintro rfl; exact h hd
  have chan : (dropRampEnd c s).chan d = s.chan d := rfl
  unfold rampEndDue
  rw [chan]
  unfold dropRampEnd
  cases s.moment with
  | none => rfl
  | some w => simp [ne]

theorem endRampdownAlone_moment (c : Chan) (s : State) : (endRampdownAlone c s).moment = s.moment := by
  unfold endRampdownAlone
  dsimp only
  split
  · split
    · rfl
    · split <;> rfl
  · rfl

theorem takePairEvent_away {p q : Fin 4} (ne : p ≠ q) (k : Cause) (r : PairRun) (e : PairEvent) :
    Away p r.state (takePairEvent q k r e).state := by
  cases e with
  | detect odd =>
    unfold takePairEvent
    dsimp only
    split
    · exact (detectAlone_pairOnly (pairOf_sideOf q odd) k _).away ne (detectAlone_moment ..)
    · exact .refl p _
  | react odd =>
    unfold takePairEvent
    dsimp only
    split
    · exact (partnerReact_pairOnly (pairOf_sideOf q odd) _).away ne (partnerReact_moment _ _).1
    · exact .refl p _
  | rampEnd odd =>
    unfold takePairEvent
    dsimp only
    split
    · exact (dropRampEnd_away (by rw [pairOf_sideOf]; exact ne.symm) _).trans
        ((endRampdownAlone_pairOnly (pairOf_sideOf q odd) _).away ne (endRampdownAlone_moment _ _))
    · exact .refl p _

theorem detectPair_away {p q : Fin 4} (ne : p ≠ q) (o : PairOrder) (k : Cause) (s : State) :
    Away p s (detectPair o q k s) := by
  have events (l : List PairEvent) (r : PairRun) : Away p r.state (l.foldl (takePairEvent q k) r).state := by
    induction l generalizing r with
    | nil => exact .refl p _
    | cons e l ih => exact (takePairEvent_away ne k r e).trans (ih _)
  exact events (o ++ pairRest) ⟨s, [.detect false, .detect true]⟩

/-- Pair positions that are not named leave the channels of another one. -/
theorem detectPairs_away (o : PairOrders) (k : Cause) (l : List (Fin 4)) {p : Fin 4} (hp : p ∉ l) (s : State) :
    Away p s (l.foldl (fun s p => detectPair o[p] p k s) s) := by
  induction l generalizing s with
  | nil => exact .refl p s
  | cons q l ih =>
    obtain ⟨ne, rest⟩ := not_or.1 (mt List.mem_cons.2 hp)
    exact (detectPair_away ne o[q] k s).trans (ih rest _)

theorem allPairs_split (p : Fin 4) : ∃ before after, allPairs = before ++ p :: after ∧ p ∉ before ∧ p ∉ after := by
  have mem : p ∈ allPairs := by revert p; decide
  have nodup : allPairs.Nodup := by decide
  obtain ⟨before, after, e⟩ := List.append_of_mem mem
  rw [e, List.nodup_middle, List.nodup_cons] at nodup
  exact ⟨before, after, e, fun h => nodup.1 (List.mem_append_left _ h), fun h => nodup.1 (List.mem_append_right _ h)⟩

/-- The detection in every pair position, seen from one of them: its events run on a state in which its own
channels stand as before, and what follows leaves them. -/
theorem detectAll_at (o : PairOrders) (k : Cause) (s : State) (p : Fin 4) :
    ∃ u, Away p s u ∧ SampleKeeps s u ∧ ∀ d, pairOf d = p →
      (detectAll o k s).chan d = (detectPair o[p] p k u).chan d ∧
        (detectAll o k s).gate d = (detectPair o[p] p k u).gate d := by
  obtain ⟨before, after, split, notBefore, notAfter⟩ := allPairs_split p
  refine ⟨before.foldl (fun s p => detectPair o[p] p k s) s, detectPairs_away o k before notBefore s,
    foldl_keeps _ (fun s p => detectPair_keeps o[p] p k s) _ s, fun d hd => ?_⟩
  unfold detectAll
  rw [split, List.foldl_append, List.foldl_cons]
  have rest := detectPairs_away o k after notAfter
    (detectPair o[p] p k (before.foldl (fun s p => detectPair o[p] p k s) s))
  exact ⟨rest.chan d hd, rest.gate d hd⟩

theorem exists_sideOf (c : Chan) : ∃ odd, c = sideOf (pairOf c) odd := by
  rcases even_or_odd c with e | e
  · exact ⟨false, e⟩
  · exact ⟨true, e⟩

/-- Every channel takes a station-wide detection by its state (R75, R77). -/
theorem detectAll_detected {k : Cause} (hk : StationWide k) (o : PairOrders) {s : State}
    (notEnd : ∀ p odd, .rampEnd odd ∈ o[p] → rampEndDue s (sideOf p odd) = false) (c : Chan) :
    Detected k (s.chan c, s.gate c) ((detectAll o k s).chan c, (detectAll o k s).gate c) := by
  obtain ⟨u, away, -, result⟩ := detectAll_at o k s (pairOf c)
  obtain ⟨odd, side⟩ := exists_sideOf c
  have detected := detectPair_detected hk o[pairOf c] (pairOf c) odd (s := u)
    fun m => (away.ends _ (pairOf_sideOf _ odd)).trans (notEnd _ odd m)
  rw [← side, away.chan c rfl, away.gate c rfl] at detected
  rw [(result c rfl).1, (result c rfl).2]
  exact detected

theorem detectAll_moment (o : PairOrders) (k : Cause) {s : State}
    (notEnd : ∀ p odd, .rampEnd odd ∈ o[p] → rampEndDue s (sideOf p odd) = false) :
    (detectAll o k s).moment = s.moment := by
  unfold detectAll
  generalize allPairs = l
  induction l generalizing s with
  | nil => rfl
  | cons p l ih =>
    refine (ih fun q odd m => ?_).trans (detectPair_moment o[p] p k (notEnd p))
    exact (detectPair_noNewEnds o[p] p k s).not_due (notEnd q odd m)

theorem detectAll_trace (o : PairOrders) (k : Cause) {s : State} (h : s.trace.capture ≠ .armed) :
    (detectAll o k s).trace = s.trace := by
  unfold detectAll
  generalize allPairs = l
  induction l generalizing s with
  | nil => rfl
  | cons p l ih =>
    have first := detectPair_trace o[p] p k h
    exact (ih (by rw [first]; exact h)).trans first

theorem not_rampEndDue_of_none {s : State} (h : s.moment = none) (c : Chan) : rampEndDue s c = false := by
  unfold rampEndDue; rw [h]

/-- A state that keeps these fields is the other one but for its channels, gates, trace and instant. -/
theorem SampleKeeps.eq_with {s t : State} (h : SampleKeeps s t) :
    t = { s with channels := t.channels, gates := t.gates, trace := t.trace, moment := t.moment } := by
  cases s
  cases t
  cases h
  simp_all

/-! ## The inhibit input -/

/-- What a detection of `k` leaves of a channel, for the statements. -/
theorem Detected.took {k : Cause} {a b : Channel × Gate} (h : Detected k a b) :
    TookDetection k a.1 b.1 b.2 := by
  refine ⟨fun drv => ?_, fun fault => ?_, fun rest => congrArg Prod.fst (h.rested rest)⟩
  · obtain ⟨state, first, -, off, -⟩ := h.driven drv
    exact ⟨state, first, off⟩
  · obtain ⟨later, seen⟩ := h.faulted fault
    exact ⟨later.state, later.first, seen⟩

/-- No detection turns a switch on. -/
theorem Detected.switches_off {k : Cause} {a b : Channel × Gate} (h : Detected k a b) (l : Leg)
    (off : (gateLeg a.2 l).highOn = false ∧ (gateLeg a.2 l).lowOn = false) :
    (gateLeg b.2 l).highOn = false ∧ (gateLeg b.2 l).lowOn = false := by
  rcases state_cases a.1.state with drv | fault | rest
  · obtain ⟨-, -, -, ⟨-, -, -, legs⟩, -⟩ := h.driven drv
    exact (legs l).2
  · rw [(h.faulted fault).1.gate]; exact off
  · rw [h.rested rest]; exact off

/-- The inhibit with no work of an instant open. -/
theorem assertInhibit_of_none (n : Nat) (o : PairOrders) {s : State} (low : s.inhnLow = false)
    (none : s.moment = none) :
    assertInhibit n o s = detectAll o .inhibit
      ({ s with now := max s.now n, inhnLow := true }.mapGates (gateInhibit (max s.now n))) := by
  unfold assertInhibit
  rw [low, if_neg (by simp), advanceTo_of_none n none, finishSample_of_none (by exact none)]
  refine resume_of_none ?_
  exact (detectAll_moment o .inhibit fun p odd _ => not_rampEndDue_of_none (by exact none) _).trans none

/-- Settles O6: INHIBIT is a station-wide detection on gates that the pin has switched off before. -/
theorem inhibitFaultsEveryDrivingChannel : Obligations.InhibitFaultsEveryDrivingChannel := by
  unfold Obligations.InhibitFaultsEveryDrivingChannel
  refine ⟨fun n o s low none => ?_, fun n o s low => ?_, fun n s low none => ?_⟩
  · have eq := assertInhibit_of_none n o low none
    generalize hu : ({ s with now := max s.now n, inhnLow := true }.mapGates (gateInhibit (max s.now n)) : State) = u
      at eq
    have noEnd : ∀ p odd, .rampEnd odd ∈ o[p] → rampEndDue u (sideOf p odd) = false :=
      fun p odd _ => not_rampEndDue_of_none (by rw [← hu]; exact none) _
    have detected := detectAll_detected (k := .inhibit) (.inr (.inr rfl)) o noEnd
    have chan (c : Chan) : u.chan c = s.chan c := by rw [← hu]; rfl
    have gate (c : Chan) : u.gate c = gateInhibit (max s.now n) (s.gate c) := by rw [← hu, State.mapGates_gate]; rfl
    refine ⟨assertInhibit n o s, rfl, ?_, fun c l => ?_, fun c => ?_⟩
    · have keeps := detectAll_keeps o .inhibit u
      have moment := detectAll_moment o .inhibit noEnd
      rw [eq]
      refine keeps.eq_with.trans ?_
      rw [moment, ← hu]
      rfl
    · rw [eq]
      refine (detected c).switches_off l ?_
      rw [gate, gateInhibit_legs]
      exact ⟨rfl, rfl⟩
    · rw [eq, ← chan]
      exact (detected c).took
  · show Host.Outcome.next (assertInhibit n o s) = _
    unfold assertInhibit; rw [if_pos low]
  · refine ⟨releaseInhibit n s, rfl, ?_⟩
    unfold releaseInhibit
    rw [if_pos low, advanceTo_of_none n none]
    rfl

end Sys2Proof.Machine
end

section
/-! What the sample event leaves of channels that rest or stand in FAULT, and BUS_STATE_CHANGE (R74, R75, R80,
R114). -/

namespace Sys2Proof.Machine

open Sys2Proof Relation

/-! ## The sample event and channels that do not drive -/

theorem accumulate_fault (x : SenseIn) (ch : Channel) : (accumulate x ch).fault = ch.fault := by
  unfold accumulate; split <;> rfl

theorem angleStep_fault (x : SenseIn) (ch : Channel) : (angleStep x ch).fault = ch.fault := by
  unfold angleStep; split <;> rfl

theorem rampStep_fault (ch : Channel) : (rampStep ch).fault = ch.fault := by
  unfold rampStep; split <;> rfl

theorem beforeReferences_fault (x : SenseIn) (ch : Channel) : (beforeReferences x ch).fault = ch.fault := by
  unfold beforeReferences; rw [rampStep_fault, angleStep_fault, accumulate_fault]

theorem regulate_fault (e : LoopEnv) (x : SenseIn) (ch : Channel) : (regulate e x ch).fault = ch.fault := rfl

theorem sampled_fault (e : LoopEnv) (x : SenseIn) (ch : Channel) :
    (regulate e x (beforeReferences x ch)).fault = ch.fault := by rw [regulate_fault, beforeReferences_fault]

theorem sampled_state (e : LoopEnv) (x : SenseIn) (ch : Channel) :
    (regulate e x (beforeReferences x ch)).state = ch.state := by rw [regulate_state, beforeReferences_state]

/-- FAULT is left by no event of a sample event, which adds later faults alone (R82). -/
theorem walkTurn_laterOnly {a b : Channel × Gate} (turn : WalkTurn a b) (h : a.1.state = .fault) :
    LaterOnly a b := by
  cases turn with
  | sampled e x ch g =>
    have same := sampled_fault e x ch
    exact ⟨(sampled_state e x ch).trans h, by rw [same], by rw [same], by rw [same], by rw [same],
      fun k => by rw [same]; exact id, rfl⟩
  | faulted k m ia ib v n t ch g drv => rw [show ch.state = .fault from h] at drv; cases drv
  | later k ch g f hk => exact laterFault_laterOnly hk g h
  | ramped r q ch g rOH => rw [show ch.state = .fault from h] at rOH; cases rOH
  | pended ch g ramp => rw [show ch.state = .fault from h] at ramp; cases ramp

theorem walk_laterOnly {a b : Channel × Gate} (chain : ReflTransGen WalkTurn a b) (h : a.1.state = .fault) :
    LaterOnly a b :=
  keeps_of_chain (p := LaterOnly a) (fun turn k => k.trans (walkTurn_laterOnly turn k.state)) chain (.refl h)

/-- A channel at rest has kept its state, its fault record and its gates. -/
structure RestKept (a b : Channel × Gate) : Prop where
  state : b.1.state = a.1.state
  fault : b.1.fault = a.1.fault
  gate : b.2 = a.2

theorem walkTurn_restKept {a b : Channel × Gate} (turn : WalkTurn a b) (h : Resting a.1.state) : RestKept a b := by
  cases turn with
  | sampled e x ch g => exact ⟨sampled_state e x ch, sampled_fault e x ch, rfl⟩
  | faulted k m ia ib v n t ch g drv => rw [resting_not_drives h] at drv; cases drv
  | later k ch g f hk => exact absurd f (resting_not_fault h)
  | ramped r q ch g rOH => exact absurd (drives_of_runOrHold rOH) (by rw [resting_not_drives h]; nofun)
  | pended ch g ramp => exact absurd (resting_not_drives h) (by rw [show ch.state = _ from ramp]; nofun)

theorem walk_restKept {a b : Channel × Gate} (chain : ReflTransGen WalkTurn a b) (h : Resting a.1.state) :
    RestKept a b :=
  keeps_of_chain (p := RestKept a)
    (fun turn k => by
      have next := walkTurn_restKept turn (by rw [k.state]; exact h)
      exact ⟨next.state.trans k.state, next.fault.trans k.fault, next.gate.trans k.gate⟩)
    chain ⟨rfl, rfl, rfl⟩

/-- Within a sample event gates change only by a FAULT entry (R58), and no event leaves FAULT. -/
theorem walk_gate {a b : Channel × Gate} (chain : ReflTransGen WalkTurn a b) :
    b.1.state = .fault ∨ b.2 = a.2 := by
  refine keeps_of_chain (p := fun x : Channel × Gate => x.1.state = .fault ∨ x.2 = a.2) (fun turn k => ?_) chain
    (.inr rfl)
  rcases k with fault | same
  · exact .inl (walkTurn_laterOnly turn fault).state
  · cases turn with
    | faulted => exact .inl rfl
    | sampled | later | ramped | pended => exact .inr same

/-! ## Computations that complete before a period start (R25) -/

/-- What the completion of computations leaves of the station: last results and computations have moved on, and
pending triples may have come. -/
structure Completed (s t : State) : Prop where
  keeps : SampleKeeps s t
  moment : t.moment = s.moment
  trace : t.trace = s.trace
  chan : ∀ d, t.chan d = { s.chan d with last := (t.chan d).last, comp := (t.chan d).comp }
  gate : ∀ d, t.gate d = { s.gate d with pendingTriple := (t.gate d).pendingTriple }
  idle : ∀ d, (s.chan d).comp = none → t.chan d = s.chan d ∧ t.gate d = s.gate d

theorem Completed.refl (s : State) : Completed s s :=
  ⟨.refl s, rfl, rfl, fun _ => rfl, fun _ => rfl, fun _ _ => ⟨rfl, rfl⟩⟩

theorem Completed.trans {a b c : State} (h : Completed a b) (k : Completed b c) : Completed a c where
  keeps := h.keeps.trans k.keeps
  moment := k.moment.trans h.moment
  trace := k.trace.trans h.trace
  chan d := by rw [k.chan d, h.chan d]
  gate d := by rw [k.gate d, h.gate d]
  idle d hd := by
    obtain ⟨chan, gate⟩ := h.idle d hd
    obtain ⟨chan', gate'⟩ := k.idle d (by rw [chan]; exact hd)
    exact ⟨chan'.trans chan, gate'.trans gate⟩

theorem completeComputation_completed (c : Chan) (s : State) : Completed s (completeComputation c s) := by
  cases hc : (s.chan c).comp with
  | none =>
    have same : completeComputation c s = s := by unfold completeComputation; dsimp only; rw [hc]
    rw [same]; exact .refl s
  | some k =>
    have idle (d : Chan) (hd : (s.chan d).comp = none) : d ≠ c := by rintro rfl; rw [hc] at hd; cases hd
    have keeps := completeComputation_keeps c s
    unfold completeComputation at keeps ⊢
    dsimp only at keeps ⊢
    rw [hc] at keeps ⊢
    dsimp only at keeps ⊢
    generalize hl : publish (s.chan c) k (partnerNotReady s c) = last at keeps ⊢
    have chan (d : Chan) : (s.setChan c { s.chan c with last := last, comp := none }).chan d =
        if d = c then { s.chan c with last := last, comp := none } else s.chan d := by
      by_cases e : d = c
      · subst e; rw [State.setChan_chan_same, if_pos rfl]
      · rw [State.setChan_chan_other _ _ e, if_neg e]
    split at keeps
    · next hands =>
      rw [if_pos hands]
      refine ⟨keeps, rfl, rfl, fun d => ?_, fun d => ?_, fun d hd => ⟨?_, ?_⟩⟩
      · rw [State.modGate_chan, chan]
        split
        · next e => subst e; rfl
        · rfl
      · by_cases e : d = c
        · subst e; rw [State.modGate_gate_same]; rfl
        · rw [State.modGate_gate_other _ _ e]; rfl
      · rw [State.modGate_chan, chan, if_neg (idle d hd)]
      · rw [State.modGate_gate_other _ _ (idle d hd)]; rfl
    · next hands =>
      rw [if_neg hands]
      refine ⟨keeps, rfl, rfl, fun d => ?_, fun d => rfl, fun d hd => ⟨?_, rfl⟩⟩
      · rw [chan]
        split
        · next e => subst e; rfl
        · rfl
      · rw [chan, if_neg (idle d hd)]

theorem completeAll_completed (s : State) : Completed s (completeAll s) := by
  unfold completeAll
  generalize allChans = l
  induction l generalizing s with
  | nil => exact .refl s
  | cons c l ih => exact (completeComputation_completed c s).trans (ih _)

/-- A period start outside pin reset, with no work of an instant open. -/
theorem exec_periodStart {s : State} (released : s.resetLow = false) (settled : s.moment = none) (x : SampleInputs)
    (o : SampleOrder) : exec (.periodStart x o) s = .next (resume (periodWork x o (completeAll s))) := by
  have unfolded : exec (.periodStart x o) s = .next (if s.resetLow then s else startPeriod x o s) := rfl
  rw [unfolded, released, if_neg (by simp)]
  unfold startPeriod
  rw [settle_of_none settled]

/-! ## The compare values of a period (R55, R56) -/

theorem legCommand_level (dt t : Nat) (lv : Level) (x : LegState) : (legCommand dt t lv x).level = some lv := by
  unfold legCommand
  split
  · assumption
  · cases lv <;> rfl

theorem gateApply_pending {g : Gate} {tr : Triple} (on : g.enable = true) (h : g.pendingTriple = some tr) :
    gateApply g = { g with activeTriple := some tr, pendingTriple := none } := by
  unfold gateApply; rw [if_pos on, h]

theorem gateLevels_active {k : Carrier} {t tau : Nat} {g : Gate} {tr : Triple} (on : g.enable = true)
    (h : g.activeTriple = some tr) :
    (gateLevels false k t tau g).activeTriple = some tr ∧
      (gateLevels false k t tau g).pendingTriple = g.pendingTriple ∧
      ∀ l, (gateLeg (gateLevels false k t tau g) l).level = some (levelAt k.h (tripleLeg tr l) tau) := by
  unfold gateLevels
  rw [on, h]
  exact ⟨rfl, rfl, fun l => by cases l <;> exact legCommand_level ..⟩

/-- Settles O9: the triple is taken by the period-start work, and the sample event changes gates by a FAULT entry
alone. -/
theorem pendingTripleBecomesActive : Obligations.PendingTripleBecomesActive := by
  unfold Obligations.PendingTripleBecomesActive
  intro x o s c tr released settled inhn reached idle enable pending
  refine ⟨_, exec_periodStart released settled x o, ?_⟩
  have completed := completeAll_completed s
  have gateBefore := (completed.idle c idle).2
  generalize completeAll s = u at *
  refine (walk_gate ((resume_turned (periodWork x o u)).turns c)).imp_right fun same => ?_
  have same : (resume (periodWork x o u)).gate c = (periodWork x o u).gate c := same
  have due : max u.now u.carrier.nextPeriod = s.carrier.nextPeriod := by
    rw [completed.keeps.now, completed.keeps.carrier, Nat.max_eq_right reached]
  have applied : (periodWork x o u).gate c =
      gateLevels false (carrierStart s.carrier s.station) s.carrier.nextPeriod 0
        { s.gate c with activeTriple := some tr, pendingTriple := none } := by
    rw [periodWork_gate, due, completed.keeps.inhnLow, inhn, completed.keeps.carrier, completed.keeps.station,
      gateBefore, gateApply_pending enable pending, Nat.sub_self]
  obtain ⟨active, none, levels⟩ := gateLevels_active (k := carrierStart s.carrier s.station)
    (t := s.carrier.nextPeriod) (tau := 0) (g := { s.gate c with activeTriple := some tr, pendingTriple := none })
    enable rfl
  rw [same, applied]
  refine ⟨active, none, by rw [gateLevels_enable]; exact enable, fun l => ?_⟩
  rw [levels, levelAt, Nat.zero_add]
  rfl

/-! ## BUS_STATE_CHANGE -/

/-- The bus state has taken the candidate class (R74). -/
def busMoved (s : State) : State := { s with bus := { s.bus with state := s.bus.candidate, count := 0 } }

/-- The cause that a candidate class is detected with (R75). -/
def BusCause (s : State) (k : Cause) : Prop :=
  s.bus.candidate = .under ∧ k = .busUnder ∨ s.bus.candidate = .over ∧ k = .busOver

theorem BusCause.stationWide {s : State} {k : Cause} (h : BusCause s k) : StationWide k := by
  rcases h with ⟨-, rfl⟩ | ⟨-, rfl⟩
  · exact .inl rfl
  · exact .inr (.inl rfl)

theorem bus_cases (s : State) : s.bus.candidate = .normal ∨ ∃ k, BusCause s k := by
  match h : s.bus.candidate with
  | .normal => exact .inl rfl
  | .under => exact .inr ⟨_, .inl ⟨h, rfl⟩⟩
  | .over => exact .inr ⟨_, .inr ⟨h, rfl⟩⟩

theorem busChangeDue_iff (s : State) : busChangeDue s = true ↔ 4 ≤ s.bus.count := decide_eq_true_iff

/-- A due change of the bus state, by the candidate class. -/
theorem changeBus_due {s : State} (due : 4 ≤ s.bus.count) (o : PairOrders) :
    (s.bus.candidate = .normal → changeBus o s = busMoved s) ∧
      ∀ k, BusCause s k → changeBus o s = detectAll o k (busMoved s) := by
  have taken : changeBus o s = match s.bus.candidate with
      | .normal => busMoved s
      | .under => detectAll o .busUnder (busMoved s)
      | .over => detectAll o .busOver (busMoved s) := by
    unfold changeBus
    rw [if_pos ((busChangeDue_iff s).2 due)]
    rfl
  refine ⟨fun normal => by rw [taken, normal], fun k h => ?_⟩
  rcases h with ⟨candidate, rfl⟩ | ⟨candidate, rfl⟩ <;> rw [taken, candidate]

theorem exec_busStateChange {s : State} (due : 4 ≤ s.bus.count) (o : PairOrders) :
    exec (.busStateChange o) s = .next (resume (changeBus o s)) := by
  have unfolded : exec (.busStateChange o) s = .next (whenDue (busChangeDue s) (changeBus o) s) := rfl
  rw [unfolded, (busChangeDue_iff s).2 due]
  rfl

/-- What a station-wide detection and the sample event after it make of a channel that drives, stands in FAULT or
rests. -/
theorem Detected.walk {k : Cause} {a b c : Channel × Gate} (h : Detected k a b)
    (chain : ReflTransGen WalkTurn b c) :
    (drives a.1.state = true → c.1.state = .fault ∧ c.1.fault.firstCause = some k ∧
      c.1.fault.totalCount = bump a.1.fault.totalCount ∧ SwitchedOff c.2 ∧
      causeIn .refLoss c.1.fault.alsoSeen = a.1.pendRefLoss ∧
      (a.1.pendPartner = true → causeIn .partner c.1.fault.alsoSeen = true) ∧
      (a.1.state = .rampdown → c.1.fault.tripState = .rampdown)) ∧
    (a.1.state = .fault → LaterOnly a c ∧ causeIn k c.1.fault.alsoSeen = true) ∧
    (Resting a.1.state → RestKept a c) := by
  refine ⟨fun drv => ?_, fun fault => ?_, fun rest => ?_⟩
  · obtain ⟨state, first, total, off, refLoss, partner, ramp⟩ := h.driven drv
    have later := walk_laterOnly chain state
    exact ⟨later.state, later.first.trans first, later.total.trans total, by rw [later.gate]; exact off,
      later.refLoss.trans refLoss, fun p => later.seen _ (partner p), fun s => later.trip.trans (ramp s)⟩
  · obtain ⟨before, seen⟩ := h.faulted fault
    have later := walk_laterOnly chain before.state
    exact ⟨before.trans later, later.seen _ seen⟩
  · have same := h.rested rest
    subst same
    exact walk_restKept chain rest

/-! ## The work of the instant during the sample event -/

theorem tellPartner_moment (c : Chan) (s : State) : (tellPartner c s).moment = s.moment := by
  unfold tellPartner
  split
  · exact (partnerReact_moment _ s).1
  · rfl

theorem enterFault_moment (c : Chan) (k : Cause) (m : Word) (ia ib : Int) (v : Nat) (s : State) :
    (enterFault c k m ia ib v s).moment = s.moment := tellPartner_moment c (enterFaultAlone c k m ia ib v s)

/-- A sample makes at most an ANGLE_LOST due. -/
theorem takeItem_moment (v : Nat) (i : WalkItem) (s : State) : (takeItem v i s).moment = s.moment ∨
    ∃ c, (takeItem v i s).moment = s.moment.map fun w => { w with angleDue := some c } := by
  cases i with
  | record => exact .inl rfl
  | sample c =>
    show (sampleChannel v c s).moment = _ ∨ ∃ c', (sampleChannel v c s).moment = _
    unfold sampleChannel
    dsimp only
    split
    · exact .inl (enterFault_moment ..)
    · split
      · exact .inl (enterFault_moment ..)
      · split
        · exact .inr ⟨c, rfl⟩
        · exact .inl rfl

/-- The sample event, once it goes on, is over or has begun. -/
theorem runWalk_begun (v : Nat) (l : List WalkItem) (s : State) {w : InstantWork} (h : s.moment = some w) :
    (runWalk v l s).moment = none ∨ ∃ u, (runWalk v l s).moment = some u ∧ u.begun = true := by
  induction l generalizing s w with
  | nil => exact .inl rfl
  | cons i l ih =>
    unfold runWalk
    dsimp only
    have item : ∃ u, (takeItem v i (s.withMoment (s.moment.map (beginWalk l)))).moment = some u ∧
        u.begun = true := by
      rcases takeItem_moment v i (s.withMoment (s.moment.map (beginWalk l))) with same | ⟨c, same⟩
      · exact ⟨beginWalk l w, by rw [same, h]; rfl, rfl⟩
      · exact ⟨{ beginWalk l w with angleDue := some c }, by rw [same, h]; rfl, rfl⟩
    generalize takeItem v i (s.withMoment (s.moment.map (beginWalk l))) = t at item ⊢
    obtain ⟨u, moment, begun⟩ := item
    rw [moment]
    dsimp only
    split
    · exact .inr ⟨u, moment, begun⟩
    · exact ih t moment

theorem resume_blocked {s : State} {w : InstantWork} (h : s.moment = some w) (b : blocked s w = true) :
    resume s = s := by
  unfold resume; rw [h]; dsimp only; rw [if_pos b]

theorem resume_runs {s : State} {w : InstantWork} (h : s.moment = some w) (b : blocked s w = false) :
    resume s = runWalk w.vbus w.walk s := by
  unfold resume; rw [h]; dsimp only; rw [if_neg (by simp [b])]

theorem any_allChans {p : Chan → Bool} : allChans.any p = true ↔ ∃ c, p c = true := by
  rw [List.any_eq_true]
  exact ⟨fun ⟨c, _, h⟩ => ⟨c, h⟩, fun ⟨c, h⟩ => ⟨c, mem_allChans c, h⟩⟩

/-- What holds the sample event up. -/
theorem blocked_iff (s : State) (w : InstantWork) : blocked s w = true ↔
    w.timeoutDue = true ∨ w.validationDue = true ∨ w.switchDue = true ∨ 4 ≤ s.bus.count ∨
      (∃ c, rampEndDue s c = true) ∨ w.angleDue ≠ none ∨ (∃ c, calibrationDue (s.chan c) = true) ∨
      armedEntryDue s.trace = true ∨ segmentDue s.trace = true := by
  unfold blocked
  simp only [Bool.or_eq_true, any_allChans, busChangeDue_iff, Option.isSome_iff_ne_none, or_assoc]

/-- A side of a pair position, as the statements name it. -/
theorem sideOf_eq (p : Fin 4) (odd : Bool) : (if odd then oddOf p else evenOf p) = sideOf p odd := rfl

theorem not_rampEndDue {s : State} {w : InstantWork} (h : s.moment = some w) {c : Chan}
    (n : ¬ RampEndDue s w c) : rampEndDue s c = false := by
  by_contra due
  obtain ⟨w', h', due⟩ := rampEndDue_iff.1 (by simpa using due)
  rw [h] at h'
  cases h'
  exact n due

/-- A change of the bus state before any rampdown end of its instant. -/
theorem changeBus_first {o : PairOrders} {s : State} {w : InstantWork} (open_ : s.moment = some w)
    (due : 4 ≤ s.bus.count)
    (notEnd : ∀ (p : Fin 4) (odd : Bool), PairEvent.rampEnd odd ∈ o[p] →
      ¬ RampEndDue s w (if odd then oddOf p else evenOf p))
    (capture : s.trace.capture ≠ .armed) :
    SampleKeeps (busMoved s) (changeBus o s) ∧ (changeBus o s).moment = s.moment ∧
      (changeBus o s).trace = s.trace ∧
      (s.bus.candidate = .normal → changeBus o s = busMoved s) ∧
      ∀ k, BusCause s k → ∀ c,
        Detected k (s.chan c, s.gate c) ((changeBus o s).chan c, (changeBus o s).gate c) := by
  obtain ⟨normal, detects⟩ := changeBus_due due o
  have noEnd : ∀ p odd, .rampEnd odd ∈ o[p] → rampEndDue (busMoved s) (sideOf p odd) = false :=
    fun p odd m => not_rampEndDue (s := busMoved s) open_ (notEnd p odd m)
  have detected (k : Cause) (hk : BusCause s k) (c : Chan) :=
    detectAll_detected hk.stationWide o noEnd c
  refine ⟨?_, ?_, ?_, normal, fun k hk c => by rw [detects k hk]; exact detected k hk c⟩ <;>
    rcases bus_cases s with e | ⟨k, hk⟩
  · rw [normal e]; exact .refl _
  · rw [detects k hk]; exact detectAll_keeps o k _
  · rw [normal e]; rfl
  · rw [detects k hk]; exact detectAll_moment o k noEnd
  · rw [normal e]; rfl
  · rw [detects k hk]; exact detectAll_trace o k capture

/-- With no other work due the sample event goes on after the change of the bus state. -/
theorem changeBus_unblocked {o : PairOrders} {s : State} {w : InstantWork} (open_ : s.moment = some w)
    (due : 4 ≤ s.bus.count)
    (notEnd : ∀ (p : Fin 4) (odd : Bool), PairEvent.rampEnd odd ∈ o[p] →
      ¬ RampEndDue s w (if odd then oddOf p else evenOf p))
    (capture : s.trace.capture = .idle ∨ s.trace.capture = .done) (timeout : w.timeoutDue = false)
    (validation : w.validationDue = false) (switch : w.switchDue = false) (angle : w.angleDue = none)
    (ends : s.bus.candidate = .normal → ∀ c, ¬ RampEndDue s w c)
    (calibrations : ∀ c, ¬ ((s.chan c).state = .calibrate ∧ (s.chan c).calCount = 64)) :
    blocked (changeBus o s) w = false := by
  have unarmed : s.trace.capture ≠ .armed := by rcases capture with e | e <;> rw [e] <;> nofun
  obtain ⟨keeps, moment, trace, normal, detected⟩ := changeBus_first open_ due notEnd unarmed
  have chans (c : Chan) : rampEndDue (changeBus o s) c = false ∧
      calibrationDue ((changeBus o s).chan c) = false := by
    rcases bus_cases s with e | ⟨k, hk⟩
    · rw [normal e]
      refine ⟨not_rampEndDue (s := busMoved s) open_ (ends e c), Bool.eq_false_iff.2 fun h => ?_⟩
      exact calibrations c ((calibrationDue_iff _).1 h)
    · have took := detected k hk c
      have state : (changeBus o s).chan c = s.chan c ∧ Resting (s.chan c).state ∨
          ((changeBus o s).chan c).state = .fault := by
        rcases state_cases (s.chan c).state with drv | fault | rest
        · exact .inr (took.driven drv).1
        · exact .inr (took.faulted fault).1.state
        · exact .inl ⟨congrArg Prod.fst (took.rested rest), rest⟩
      rcases state with ⟨same, rest⟩ | fault
      · constructor
        · by_contra h
          obtain ⟨w', -, -, ramp, -⟩ := rampEndDue_iff.1 (by simpa using h)
          rw [same] at ramp
          have := resting_not_drives rest
          rw [ramp] at this; cases this
        · rw [same]
          exact Bool.eq_false_iff.2 fun h => calibrations c ((calibrationDue_iff _).1 h)
      · constructor
        · by_contra h
          obtain ⟨w', -, -, ramp, -⟩ := rampEndDue_iff.1 (by simpa using h)
          rw [fault] at ramp; cases ramp
        · exact Bool.eq_false_iff.2 fun h => by
            have := ((calibrationDue_iff _).1 h).1
            rw [fault] at this; cases this
  refine Bool.eq_false_iff.2 fun h => ?_
  rcases (blocked_iff _ _).1 h with e | e | e | e | ⟨c, e⟩ | e | ⟨c, e⟩ | e | e
  · rw [timeout] at e; cases e
  · rw [validation] at e; cases e
  · rw [switch] at e; cases e
  · rw [keeps.bus] at e; exact absurd e (by show ¬ 4 ≤ 0; omega)
  · rw [(chans c).1] at e; cases e
  · exact e angle
  · rw [(chans c).2] at e; cases e
  · rw [trace] at e
    rcases capture with c | c <;> simp [armedEntryDue, c] at e
  · rw [trace] at e
    rcases capture with c | c <;> simp [segmentDue, c] at e

/-! ## A rampdown end before the change of the bus state -/

/-- The end of a due rampdown, by the pending causes (R11, R59). -/
theorem endRampdownAlone_same {s : State} {c : Chan} (out : rampOut (s.chan c) = true) :
    ((endRampdownAlone c s).gate c = gateSwitchOff s.now (s.gate c)) ∧
      ((s.chan c).pendRefLoss = true → (endRampdownAlone c s).chan c =
        toFault .refLoss 0 (s.chan c).last.ia (s.chan c).last.ib s.bus.last s.timer.stamp (s.chan c)) ∧
      ((s.chan c).pendRefLoss = false → (s.chan c).pendPartner = true → (endRampdownAlone c s).chan c =
        toFault .partner 0 (s.chan c).last.ia (s.chan c).last.ib s.bus.last s.timer.stamp (s.chan c)) ∧
      ((s.chan c).pendRefLoss = false → (s.chan c).pendPartner = false →
        (endRampdownAlone c s).chan c = toReady (s.chan c)) := by
  unfold endRampdownAlone
  dsimp only
  rw [if_pos out]
  cases r : (s.chan c).pendRefLoss with
  | true =>
    refine ⟨?_, fun _ => ?_, nofun, nofun⟩
    · rw [if_pos rfl, enterFaultAlone_switchedOff, enterFaultAlone_gate_same]
    · rw [if_pos rfl, enterFaultAlone_switchedOff, enterFaultAlone_chan_same]
  | false =>
    rw [if_neg (by simp)]
    cases q : (s.chan c).pendPartner with
    | true =>
      refine ⟨?_, nofun, fun _ _ => ?_, fun _ => nofun⟩
      · rw [if_pos rfl, enterFaultAlone_switchedOff, enterFaultAlone_gate_same]
      · rw [if_pos rfl, enterFaultAlone_switchedOff, enterFaultAlone_chan_same]
    | false =>
      refine ⟨?_, nofun, fun _ => nofun, fun _ _ => ?_⟩
      · rw [if_neg (by simp), State.modChan_gate, State.modGate_gate_same]
      · rw [if_neg (by simp), State.modChan_chan_same, State.modGate_chan]

/-- A channel in FAULT takes later faults alone from every event of its pair position. -/
theorem takePairEvent_laterOnly {k : Cause} (hk : k ≠ .refLoss) (p : Fin 4) (odd : Bool) (e : PairEvent) {r : PairRun}
    (h : (r.state.chan (sideOf p odd)).state = .fault) :
    LaterOnly (r.state.chan (sideOf p odd), r.state.gate (sideOf p odd))
      ((takePairEvent p k r e).state.chan (sideOf p odd), (takePairEvent p k r e).state.gate (sideOf p odd)) := by
  have same {t : State} (chan : t.chan (sideOf p odd) = r.state.chan (sideOf p odd))
      (gate : t.gate (sideOf p odd) = r.state.gate (sideOf p odd)) :
      LaterOnly (r.state.chan (sideOf p odd), r.state.gate (sideOf p odd))
        (t.chan (sideOf p odd), t.gate (sideOf p odd)) := by
    rw [chan, gate]; exact .refl h
  cases e with
  | detect side =>
    unfold takePairEvent
    dsimp only
    split
    · by_cases e : odd = side
      · subst e
        show LaterOnly _ ((detectAlone _ k r.state).chan _, (detectAlone _ k r.state).gate _)
        rw [detectAlone_fault h, State.modChan_chan_same, State.modChan_gate]
        exact laterFault_laterOnly hk _ h
      · obtain ⟨chan, gate⟩ := detectAlone_other k (s := r.state) (sideOf_ne p e)
        exact same chan gate
    · exact .refl h
  | react side =>
    unfold takePairEvent
    dsimp only
    split
    · exact keeps_of_chain (p := LaterOnly _) (fun r k => k.trans (r.laterOnly k.state))
        (partnerReact_reactions (sideOf p side) r.state (sideOf p odd)) (.refl h)
    · exact .refl h
  | rampEnd side =>
    unfold takePairEvent
    dsimp only
    split
    · next due =>
      have ne : odd ≠ side := by
        rintro rfl
        obtain ⟨w, -, -, ramp, -⟩ := rampEndDue_iff.1 due
        rw [h] at ramp; cases ramp
      obtain ⟨chan, gate⟩ := endRampdownAlone_other (s := dropRampEnd (sideOf p side) r.state) (sideOf_ne p ne)
      exact same chan gate
    · exact .refl h

theorem pairEvents_laterOnly {k : Cause} (hk : k ≠ .refLoss) (p : Fin 4) (odd : Bool) (l : List PairEvent)
    {r : PairRun} (h : (r.state.chan (sideOf p odd)).state = .fault) :
    LaterOnly (r.state.chan (sideOf p odd), r.state.gate (sideOf p odd))
      ((l.foldl (takePairEvent p k) r).state.chan (sideOf p odd),
        (l.foldl (takePairEvent p k) r).state.gate (sideOf p odd)) := by
  induction l generalizing r with
  | nil => exact .refl h
  | cons e l ih =>
    have first := takePairEvent_laterOnly hk p odd e h
    exact first.trans (ih first.state)

/-- A reaction on its way to a channel in FAULT is seen by it as PARTNER (R82, R112). -/
theorem pairEvents_partner_seen {k : Cause} (hk : k ≠ .refLoss) (p : Fin 4) (odd : Bool) {l : List PairEvent}
    {r : PairRun} (h : (r.state.chan (sideOf p odd)).state = .fault) (sent : .react odd ∈ r.waiting)
    (taken : .react odd ∈ l) :
    causeIn .partner ((l.foldl (takePairEvent p k) r).state.chan (sideOf p odd)).fault.alsoSeen = true := by
  induction l generalizing r with
  | nil => cases taken
  | cons e l ih =>
    by_cases here : e = .react odd
    · subst here
      have reacted : takePairEvent p k r (.react odd) =
          ⟨r.state.modChan (sideOf p odd) (laterFault .partner), r.waiting.erase (.react odd)⟩ := by
        unfold takePairEvent partnerReact
        dsimp only
        rw [if_pos (by simpa using sent), h]
      have seen : causeIn .partner
          ((r.state.modChan (sideOf p odd) (laterFault .partner)).chan (sideOf p odd)).fault.alsoSeen = true := by
        rw [State.modChan_chan_same, causeIn_laterFault, causeIn_causeBit_self, Bool.or_true]
      rw [List.foldl_cons, reacted]
      exact (pairEvents_laterOnly hk p odd l (r := ⟨_, _⟩) (by rw [State.modChan_chan_same]; exact h)).seen _ seen
    · refine ih (takePairEvent_laterOnly hk p odd e h).state ?_ ((List.mem_cons.1 taken).resolve_left (Ne.symm here))
      cases e with
      | detect side =>
        unfold takePairEvent
        dsimp only
        split
        · exact followUp_waiting_mem (mem_of_mem_erase_ne nofun sent)
        · exact sent
      | react side =>
        unfold takePairEvent
        dsimp only
        split
        · exact mem_of_mem_erase_ne (fun e => here e.symm) sent
        · exact sent
      | rampEnd side =>
        unfold takePairEvent
        dsimp only
        split
        · exact followUp_waiting_mem sent
        · exact sent

/-- A due rampdown end is the first event of its pair position: what the position's other events then start
from. -/
theorem takePairEvent_rampEnd {p : Fin 4} {odd : Bool} {k : Cause} {r : PairRun}
    (due : rampEndDue r.state (sideOf p odd) = true) :
    takePairEvent p k r (.rampEnd odd) =
      followUp p odd r (endRampdownAlone (sideOf p odd) (dropRampEnd (sideOf p odd) r.state)) r.waiting := by
  unfold takePairEvent
  dsimp only
  rw [if_pos due]

theorem rampOut_of_due {s : State} {c : Chan} (due : rampEndDue s c = true) : rampOut (s.chan c) = true := by
  obtain ⟨w, -, -, ramp, complete⟩ := rampEndDue_iff.1 due
  exact (rampOut_iff _).2 ⟨ramp, complete⟩

/-- A rampdown that has ended is due no more. -/
theorem endRampdownAlone_not_due (c : Chan) (s : State) : rampEndDue (endRampdownAlone c (dropRampEnd c s)) c = false := by
  refine (endRampdownAlone_noNewEnds c _).not_due ?_
  unfold rampEndDue dropRampEnd
  cases s.moment with
  | none => rfl
  | some w => simp

/-- After its rampdown end the channel is in READY, where nothing is detected, or in
FAULT, where the detection is a later fault. -/
theorem changeBus_after_rampEnd {o : PairOrders} {s : State} {w : InstantWork} {p : Fin 4} {odd : Bool}
    {rest : PairOrder} {k : Cause} (open_ : s.moment = some w) (due : 4 ≤ s.bus.count) (hk : BusCause s k)
    (ends : RampEndDue s w (sideOf p odd)) (order : o[p] = .rampEnd odd :: rest) :
    ∃ a : Channel × Gate, SwitchedOff a.2 ∧
      ((s.chan (sideOf p odd)).pendRefLoss = false → (s.chan (sideOf p odd)).pendPartner = false →
        a.1.state = .ready ∧ a.1.fault = (s.chan (sideOf p odd)).fault) ∧
      ((s.chan (sideOf p odd)).pendRefLoss = true ∨ (s.chan (sideOf p odd)).pendPartner = true →
        a.1.state = .fault ∧
        a.1.fault.firstCause = some (if (s.chan (sideOf p odd)).pendRefLoss then .refLoss else .partner) ∧
        a.1.fault.totalCount = bump (s.chan (sideOf p odd)).fault.totalCount) ∧
      Detected k a ((changeBus o s).chan (sideOf p odd), (changeBus o s).gate (sideOf p odd)) := by
  obtain ⟨u, away, -, result⟩ := detectAll_at o k (busMoved s) p
  have side := pairOf_sideOf p odd
  have dueHere : rampEndDue u (sideOf p odd) = true := by
    rw [away.ends _ side]
    exact rampEndDue_iff.2 ⟨w, open_, ends⟩
  have chan : u.chan (sideOf p odd) = s.chan (sideOf p odd) := away.chan _ side
  have out : rampOut (u.chan (sideOf p odd)) = true := rampOut_of_due dueHere
  rw [(changeBus_due due o).2 k hk, (result _ side).1, (result _ side).2, order]
  obtain ⟨gate, refLoss, partner, ready⟩ :=
    endRampdownAlone_same (s := dropRampEnd (sideOf p odd) u) (c := sideOf p odd) out
  have dropped : (dropRampEnd (sideOf p odd) u).chan (sideOf p odd) = s.chan (sideOf p odd) := chan
  rw [dropped] at refLoss partner ready
  generalize hv : endRampdownAlone (sideOf p odd) (dropRampEnd (sideOf p odd) u) = v at *
  refine ⟨(v.chan (sideOf p odd), v.gate (sideOf p odd)), ?_, fun r q => ?_, fun pending => ?_, ?_⟩
  · rw [gate]; exact gateSwitchOff_switchedOff _ _
  · rw [ready r q]; exact ⟨rfl, rfl⟩
  · cases r : (s.chan (sideOf p odd)).pendRefLoss with
    | true => rw [refLoss r]; exact ⟨rfl, rfl, rfl⟩
    | false =>
      have q := pending.resolve_left (by simp [r])
      rw [partner r q]
      exact ⟨rfl, rfl, rfl⟩
  · have notDue : rampEndDue v (sideOf p odd) = false := by rw [← hv]; exact endRampdownAlone_not_due _ _
    have first : (PairEvent.rampEnd odd :: rest ++ pairRest).foldl (takePairEvent p k) ⟨u, [.detect false, .detect true]⟩ =
        (rest ++ pairRest).foldl (takePairEvent p k)
          (followUp p odd ⟨u, [.detect false, .detect true]⟩ v [.detect false, .detect true]) := by
      rw [List.cons_append, List.foldl_cons, takePairEvent_rampEnd (r := ⟨u, _⟩) dueHere, hv]
    unfold detectPair
    rw [first]
    refine pairEvents_detected hk.stationWide (List.mem_append_right _ (detect_mem_pairRest odd)) (fun _ => notDue)
      (.inl ⟨?_, .refl _⟩)
    rw [followUp_count]
    cases odd <;> rfl

/-- A FAULT entry of a channel of a configured pair sends its partner the reaction (R112). -/
theorem followUp_sends {p : Fin 4} {odd : Bool} {r : PairRun} {t : State} (l : List PairEvent)
    (before : (r.state.chan (sideOf p odd)).state ≠ .fault) (after : (t.chan (sideOf p odd)).state = .fault)
    (pairs : t.pairs[p] = true) : followUp p odd r t l = ⟨t, .react (!odd) :: l⟩ := by
  have pairedSide : paired t (sideOf p odd) = true := by simpa [paired, pairOf_sideOf] using pairs
  unfold followUp
  rw [if_pos]
  rw [pairedSide, Bool.and_true]
  simp [enteredFault, before, after]

theorem detectAlone_faults {s : State} {c : Chan} (h : drives (s.chan c).state = true) (k : Cause) :
    ((detectAlone c k s).chan c).state = .fault := by
  rw [detectAlone_drives h, enterFaultAlone_chan_same]; rfl

theorem not_fault_of_drives {x : ChState} (h : drives x = true) : x ≠ .fault := by
  rintro rfl; cases h

/-- With one channel's detection first and its reaction on the partner before the partner's due rampdown end, the
partner enters FAULT with PARTNER, and each channel also sees what the other does (R80, R81, R112, R114). -/
theorem changeBus_react_rampEnd {o : PairOrders} {s : State} {w : InstantWork} {p : Fin 4} {odd : Bool} {k : Cause}
    (open_ : s.moment = some w) (due : 4 ≤ s.bus.count) (pairs : s.pairs[p] = true) (hk : BusCause s k)
    (drv : drives (s.chan (sideOf p odd)).state = true) (ends : RampEndDue s w (sideOf p (!odd)))
    (noRefLoss : (s.chan (sideOf p (!odd))).pendRefLoss = false)
    (order : o[p] = [.detect odd, .react !odd, .rampEnd !odd, .detect !odd]) :
    causeIn .partner ((changeBus o s).chan (sideOf p odd)).fault.alsoSeen = true ∧
      ∃ a : Channel × Gate, a.1.state = .fault ∧ a.1.fault.firstCause = some .partner ∧ SwitchedOff a.2 ∧
        Detected k a ((changeBus o s).chan (sideOf p !odd), (changeBus o s).gate (sideOf p !odd)) := by
  obtain ⟨u, away, uKeeps, result⟩ := detectAll_at o k (busMoved s) p
  have side := pairOf_sideOf p
  have other : (!odd) ≠ odd := by cases odd <;> decide
  have dChan : u.chan (sideOf p odd) = s.chan (sideOf p odd) := away.chan _ (side odd)
  have eChan : u.chan (sideOf p !odd) = s.chan (sideOf p !odd) := away.chan _ (side _)
  have uPairs : u.pairs[p] = true := by rw [uKeeps.pairs]; exact pairs
  have dDrv : drives (u.chan (sideOf p odd)).state = true := by rw [dChan]; exact drv
  -- the detection of the first channel, which sends the partner its reaction
  obtain ⟨t1, ht1⟩ : ∃ t1, t1 = detectAlone (sideOf p odd) k u := ⟨_, rfl⟩
  obtain ⟨l1, hl1⟩ : ∃ l1, l1 = [PairEvent.detect false, PairEvent.detect true].erase (.detect odd) := ⟨_, rfl⟩
  have t1Keeps : SampleKeeps u t1 := by rw [ht1]; exact detectAlone_keeps ..
  have t1Fault : (t1.chan (sideOf p odd)).state = .fault := by rw [ht1]; exact detectAlone_faults dDrv k
  have t1Other : t1.chan (sideOf p !odd) = s.chan (sideOf p !odd) := by
    rw [ht1, (detectAlone_other k (sideOf_ne p other)).1, eChan]
  have first : takePairEvent p k ⟨u, [.detect false, .detect true]⟩ (.detect odd) =
      ⟨t1, .react (!odd) :: l1⟩ := by
    unfold takePairEvent
    dsimp only
    rw [if_pos (by simp), ← ht1, ← hl1]
    exact followUp_sends l1 (not_fault_of_drives dDrv) t1Fault (by rw [t1Keeps.pairs]; exact uPairs)
  -- the reaction of the partner, which is in RAMPDOWN
  obtain ⟨t2, ht2⟩ : ∃ t2, t2 = t1.modChan (sideOf p !odd) (fun ch => { ch with pendPartner := true }) := ⟨_, rfl⟩
  have second : takePairEvent p k ⟨t1, .react (!odd) :: l1⟩ (.react !odd) = ⟨t2, l1⟩ := by
    unfold takePairEvent partnerReact
    dsimp only
    rw [if_pos (by simp), t1Other, ends.2.1, List.erase_cons_head, ← ht2]
  have t2Chan : t2.chan (sideOf p !odd) = { s.chan (sideOf p !odd) with pendPartner := true } := by
    rw [ht2, State.modChan_chan_same, t1Other]
  have t2Other : t2.chan (sideOf p odd) = t1.chan (sideOf p odd) := by
    rw [ht2, State.modChan_chan_other _ _ (sideOf_ne p other.symm)]
  have t2Due : rampEndDue t2 (sideOf p !odd) = true := by
    have before : rampEndDue u (sideOf p !odd) = true := by
      rw [away.ends _ (side _)]; exact rampEndDue_iff.2 ⟨w, open_, ends⟩
    have moment : t2.moment = u.moment := by rw [ht2, ht1]; exact detectAlone_moment ..
    unfold rampEndDue at before ⊢
    rw [moment, t2Chan]
    rw [eChan] at before
    exact before
  -- the end of the partner's rampdown, which sends the first channel its reaction
  obtain ⟨t3, ht3⟩ : ∃ t3, t3 = endRampdownAlone (sideOf p !odd) (dropRampEnd (sideOf p !odd) t2) := ⟨_, rfl⟩
  have out : rampOut ((dropRampEnd (sideOf p !odd) t2).chan (sideOf p !odd)) = true :=
    rampOut_of_due (s := t2) t2Due
  obtain ⟨gate, -, faults, -⟩ := endRampdownAlone_same out
  have dropped : (dropRampEnd (sideOf p !odd) t2).chan (sideOf p !odd) =
      { s.chan (sideOf p !odd) with pendPartner := true } := t2Chan
  have t3Chan := faults (by rw [dropped]; exact noRefLoss) (by rw [dropped])
  rw [← ht3] at gate t3Chan
  have t3Fault : (t3.chan (sideOf p !odd)).state = .fault := by rw [t3Chan]; rfl
  have t3Keeps : SampleKeeps t2 t3 := by
    rw [ht3]; exact (dropRampEnd_keeps _ _).trans (endRampdownAlone_keeps _ _)
  have t2Pairs : t2.pairs = u.pairs := by rw [ht2]; exact t1Keeps.pairs
  have third : takePairEvent p k ⟨t2, l1⟩ (.rampEnd !odd) = ⟨t3, .react odd :: l1⟩ := by
    rw [takePairEvent_rampEnd (r := ⟨t2, l1⟩) t2Due]
    dsimp only
    rw [← ht3, followUp_sends l1 ?_ t3Fault (by rw [t3Keeps.pairs, t2Pairs]; exact uPairs), Bool.not_not]
    show (t2.chan (sideOf p !odd)).state ≠ .fault
    rw [t2Chan]
    show (s.chan (sideOf p !odd)).state ≠ .fault
    rw [ends.2.1]; nofun
  have t3Other : (t3.chan (sideOf p odd)).state = .fault := by
    rw [ht3, (endRampdownAlone_other (sideOf_ne p other.symm)).1]
    show (t2.chan (sideOf p odd)).state = .fault
    rw [t2Other]; exact t1Fault
  have events : detectPair o[p] p k u =
      ((PairEvent.detect (!odd) :: pairRest).foldl (takePairEvent p k) ⟨t3, .react odd :: l1⟩).state := by
    unfold detectPair
    rw [order, List.cons_append, List.cons_append, List.cons_append, List.cons_append, List.foldl_cons,
      List.foldl_cons, List.foldl_cons, first, second, third]
    rfl
  rw [(changeBus_due due o).2 k hk]
  refine ⟨?_, (t3.chan (sideOf p !odd), t3.gate (sideOf p !odd)), t3Fault, by rw [t3Chan]; rfl, ?_, ?_⟩
  · rw [(result _ (side odd)).1, events]
    exact pairEvents_partner_seen hk.stationWide.ne.1 p odd t3Other List.mem_cons_self
      (List.mem_cons_of_mem _ (by cases odd <;> decide))
  · rw [gate]; exact gateSwitchOff_switchedOff _ _
  · rw [(result _ (side _)).1, (result _ (side _)).2, events]
    refine pairEvents_detected hk.stationWide List.mem_cons_self (fun m => ?_) (.inl ⟨?_, .refl _⟩)
    · simp [pairRest] at m
    · rw [hl1, List.count_cons_of_ne (by simp)]
      cases odd <;> decide

theorem SwitchedOff.of_eq {g h : Gate} (off : SwitchedOff g) (e : h = g) : SwitchedOff h := by rw [e]; exact off

/-- Settles O8: the detection reaches every channel by its state, and the sample event after it keeps what FAULT
entries and later faults have recorded. -/
theorem busStateChangeIsDetectedInEveryChannel : Obligations.BusStateChangeIsDetectedInEveryChannel := by
  unfold Obligations.BusStateChangeIsDetectedInEveryChannel
  refine ⟨fun o s w open_ due notEnd capture => ?_, fun o s w p odd rest k e open_ due hk he ends order => ?_,
    fun o s w p odd k d e open_ due pairs hk hde drv ends noRefLoss _ order => ?_⟩
  · have unarmed : s.trace.capture ≠ .armed := by rcases capture with c | c <;> rw [c] <;> nofun
    obtain ⟨keeps, moment, trace, normal, detected⟩ := changeBus_first open_ due notEnd unarmed
    have walked := resume_turned (changeBus o s)
    refine ⟨_, exec_busStateChange due o, (keeps.trans walked.keeps).eq_with, fun k hk c => ?_, fun waits => ?_,
      fun timeout validation switch angle noEnds calibrations => ?_⟩
    · obtain ⟨driven, faulted, rested⟩ := (detected k hk c).walk (walked.turns c)
      refine ⟨driven, fun fault => ?_, fun rest => ?_⟩
      · obtain ⟨later, seen⟩ := faulted fault
        exact ⟨later.state, later.first, seen⟩
      · exact ⟨(rested rest).state, (rested rest).fault⟩
    · have stays : resume (changeBus o s) = changeBus o s := by
        refine resume_blocked (moment.trans open_) ((blocked_iff _ _).2 ?_)
        rcases waits with h | h | h | ⟨h, c, hc⟩
        · exact .inl h
        · exact .inr (.inl h)
        · exact .inr (.inr (.inl h))
        · refine .inr (.inr (.inr (.inr (.inl ⟨c, ?_⟩))))
          rw [normal h]
          exact rampEndDue_iff.2 ⟨w, open_, hc⟩
      rw [stays]
      refine ⟨moment, trace, fun c rest => ?_, fun h => by rw [normal h]; exact ⟨rfl, rfl⟩⟩
      rcases bus_cases s with h | ⟨k, hk⟩
      · rw [normal h]; rfl
      · exact congrArg Prod.fst ((detected k hk c).rested rest)
    · have free := changeBus_unblocked open_ due notEnd capture timeout validation switch angle noEnds calibrations
      rw [resume_runs (moment.trans open_) free]
      exact runWalk_begun _ _ _ (moment.trans open_)
  · rw [sideOf_eq] at he
    subst he
    obtain ⟨a, off, ready, faulted, detected⟩ := changeBus_after_rampEnd open_ due hk ends order
    obtain ⟨-, later, rested⟩ := detected.walk ((resume_turned (changeBus o s)).turns (sideOf p odd))
    have pendings : ((s.chan (sideOf p odd)).pendRefLoss = false ∧ (s.chan (sideOf p odd)).pendPartner = false) ∨
        ((s.chan (sideOf p odd)).pendRefLoss = true ∨ (s.chan (sideOf p odd)).pendPartner = true) := by
      cases (s.chan (sideOf p odd)).pendRefLoss <;> cases (s.chan (sideOf p odd)).pendPartner <;> simp
    refine ⟨_, exec_busStateChange due o, ?_, fun r q => ?_, fun pending => ?_⟩
    · rcases pendings with ⟨r, q⟩ | pending
      · exact off.of_eq (rested (.inr (.inr (ready r q).1))).gate
      · exact off.of_eq (later (faulted pending).1).1.gate
    · have kept := rested (.inr (.inr (ready r q).1))
      exact ⟨kept.state.trans (ready r q).1, kept.fault.trans (ready r q).2⟩
    · obtain ⟨state, first, total⟩ := faulted pending
      obtain ⟨only, seen⟩ := later state
      exact ⟨only.state, only.first.trans first, seen, only.total.trans total⟩
  · obtain ⟨hd, he⟩ : d = sideOf p odd ∧ e = sideOf p !odd := by
      cases odd <;> exact Prod.mk.inj hde
    subst hd he
    have walked := resume_turned (changeBus o s)
    obtain ⟨seen, a, aFault, aFirst, aOff, detected⟩ :=
      changeBus_react_rampEnd open_ due pairs hk drv ends noRefLoss order
    have own : Detected k (s.chan (sideOf p odd), s.gate (sideOf p odd))
        ((changeBus o s).chan (sideOf p odd), (changeBus o s).gate (sideOf p odd)) := by
      obtain ⟨u, away, -, result⟩ := detectAll_at o k (busMoved s) p
      have side := pairOf_sideOf p odd
      have took := detectPair_detected (BusCause.stationWide hk) o[p] p odd (s := u) fun m => by
        rw [order] at m; simp at m
      rw [away.chan _ side, away.gate _ side] at took
      rw [(changeBus_due due o).2 k hk, (result _ side).1, (result _ side).2]
      exact took
    obtain ⟨driven, -, -⟩ := own.walk (walked.turns _)
    obtain ⟨state, first, -, off, -⟩ := driven drv
    have stays := walk_laterOnly (walked.turns (sideOf p odd)) (own.driven drv).1
    obtain ⟨-, later, -⟩ := detected.walk (walked.turns _)
    obtain ⟨only, eSeen⟩ := later aFault
    exact ⟨_, exec_busStateChange due o, state, first, stays.seen _ seen, off, only.state, only.first.trans aFirst,
      eSeen, aOff.of_eq only.gate⟩

end Sys2Proof.Machine
end

section
/-! The edges of a leg's level and the end of its dead time, taken between two instants. -/

namespace Sys2Proof.Machine

open Sys2Proof Relation

/-! ## One gate changed -/

theorem exec_legLevelChange (c : Chan) (l : Leg) (s : State) :
    exec (.legLevelChange c l) s = .next (changeLevel c l s) := rfl

theorem exec_deadTimeEnd (c : Chan) (l : Leg) (s : State) :
    exec (.deadTimeEnd c l) s = .next (endDeadTime c l s) := rfl

/-- A leg changes to the other level at its edge. -/
theorem changeLevel_of_edge {s : State} {c : Chan} {l : Leg} {n : Nat} {lv : Level}
    (settled : s.moment = none) (edge : nextEdge s.carrier s.now (s.gate c) l = some n)
    (level : (gateLeg (s.gate c) l).level = some lv) :
    changeLevel c l s = (s.withNow (max s.now n)).modGate c fun g => setGateLeg g l
      (legCommand s.carrier.deadTime (max s.now n) (otherLevel lv) (gateLeg g l)) := by
  have gate : ((s.withNow (max s.now n)).gate c) = s.gate c := rfl
  simp only [changeLevel, edge, advanceTo_of_none n settled, gate, level]
  rfl

/-- The commanded switch goes on at the end of its dead time. -/
theorem endDeadTime_of_due {s : State} {c : Chan} {l : Leg} {n : Nat} (settled : s.moment = none)
    (due : deadTimeEndAt s.carrier s.now (s.gate c) l = some n) :
    endDeadTime c l s = (s.withNow (max s.now n)).modGate c fun g =>
      setGateLeg g l (legTurnOn (gateLeg g l)) := by
  simp only [endDeadTime, due, advanceTo_of_none n settled]

theorem endDeadTime_of_none {s : State} {c : Chan} {l : Leg}
    (early : deadTimeEndAt s.carrier s.now (s.gate c) l = none) : endDeadTime c l s = s := by
  simp only [endDeadTime, early]

/-! ## The edges of a leg -/

theorem nextEdge_low {k : Carrier} {now : Nat} {g : Gate} {l : Leg} {tr : Triple}
    (active : g.activeTriple = some tr) (pos : 0 < tripleLeg tr l) (less : tripleLeg tr l < k.h)
    (level : (gateLeg g l).level = some .low) :
    nextEdge k now g l = if now ≤ k.periodAt + (k.h - tripleLeg tr l) then
      some (k.periodAt + (k.h - tripleLeg tr l)) else none := by
  simp only [nextEdge, active, level, pos, less, and_self, if_true]

theorem nextEdge_high {k : Carrier} {now : Nat} {g : Gate} {l : Leg} {tr : Triple}
    (active : g.activeTriple = some tr) (pos : 0 < tripleLeg tr l) (less : tripleLeg tr l < k.h)
    (level : (gateLeg g l).level = some .high) :
    nextEdge k now g l = some (k.periodAt + (k.h + tripleLeg tr l)) := by
  simp only [nextEdge, active, level, pos, less, and_self, if_true]

/-- A leg with compare value 0 or H has no edge (R56). -/
theorem nextEdge_none {k : Carrier} {now : Nat} {g : Gate} {l : Leg} {tr : Triple}
    (active : g.activeTriple = some tr) (steady : ¬ (0 < tripleLeg tr l ∧ tripleLeg tr l < k.h)) :
    nextEdge k now g l = none := by
  simp only [nextEdge, active, steady, if_false]

/-- The tick at which a leg leaves its level: its next edge, or the next period start. -/
theorem nextEdge_getD {k : Carrier} {now : Nat} {g : Gate} {l : Leg} {tr : Triple} {lv : Level}
    (active : g.activeTriple = some tr) : (gateLeg g l).level = some lv →
    (nextEdge k now g l).getD k.nextPeriod =
      if 0 < tripleLeg tr l ∧ tripleLeg tr l < k.h then
        (match lv with
          | .high => k.periodAt + (k.h + tripleLeg tr l)
          | .low => if now ≤ k.periodAt + (k.h - tripleLeg tr l) then
              k.periodAt + (k.h - tripleLeg tr l) else k.nextPeriod)
      else k.nextPeriod := by
  intro level
  by_cases steady : 0 < tripleLeg tr l ∧ tripleLeg tr l < k.h
  · rw [if_pos steady]
    obtain ⟨pos, less⟩ := steady
    cases lv with
    | high => rw [nextEdge_high active pos less level]; rfl
    | low =>
      rw [nextEdge_low active pos less level]
      dsimp only
      split <;> rfl
  · rw [if_neg steady, nextEdge_none active steady]
    rfl

/-- Settles O16. -/
theorem legLevelChangesAtItsEdges : Obligations.LegLevelChangesAtItsEdges := by
  unfold Obligations.LegLevelChangesAtItsEdges
  intro s c l tr settled active pos less
  refine ⟨fun level early => ?_, fun level => ?_⟩
  · have edge := nextEdge_low (now := s.now) active pos less level
    rw [if_pos early] at edge
    have run := changeLevel_of_edge settled edge level
    rw [max_eq_right early] at run
    refine ⟨_, _, exec_legLevelChange c l s, ?_, rfl, ?_, fun d other => ?_⟩
    · rw [run]; rfl
    · rw [run, State.modGate_gate_same, State.withNow_gate]
      simp only [legCommand, level, otherLevel, legToHigh]
      rfl
    · rw [run, State.modGate_gate_other _ _ other]; rfl
  · have edge := nextEdge_high (now := s.now) active pos less level
    have run := changeLevel_of_edge settled edge level
    refine ⟨_, _, exec_legLevelChange c l s, ?_, rfl, ?_, fun d other => ?_⟩
    · rw [run]; rfl
    · rw [run, State.modGate_gate_same, State.withNow_gate]
      simp only [legCommand, level, otherLevel, legToLow]
      rfl
    · rw [run, State.modGate_gate_other _ _ other]; rfl

/-- The dead time of a commanded level ends where the level leaves its side later. -/
theorem deadTimeEndAt_of_level {k : Carrier} {now : Nat} {g : Gate} {l : Leg} {lv : Level} {off leaves : Nat}
    (high : (gateLeg g l).highOn = false) (low : (gateLeg g l).lowOn = false)
    (last : off = (match lv with
      | .high => (gateLeg g l).lowOffAt
      | .low => (gateLeg g l).highOffAt))
    (level : (gateLeg g l).level = some lv) (until_ : leaves = (nextEdge k now g l).getD k.nextPeriod) :
    deadTimeEndAt k now g l = if off + k.deadTime < leaves then some (off + k.deadTime) else none := by
  subst until_ last
  cases lv <;> simp only [deadTimeEndAt, high, low, level, Bool.or_self, Bool.false_eq_true, if_false]

/-- Settles O17. -/
theorem deadTimeEndTurnsTheCommandedSwitchOn : Obligations.DeadTimeEndTurnsTheCommandedSwitchOn := by
  unfold Obligations.DeadTimeEndTurnsTheCommandedSwitchOn
  intro s c l tr lv leaves off settled active high low level atLeaves atOff
  have ends := deadTimeEndAt_of_level high low atOff level
    (atLeaves.trans (nextEdge_getD (now := s.now) active level).symm)
  refine ⟨fun before => ?_, fun late => ?_⟩
  · rw [if_pos before] at ends
    have run := endDeadTime_of_due settled ends
    refine ⟨_, exec_deadTimeEnd c l s, ?_, ?_, fun d other => ?_⟩
    · rw [run]; rfl
    · rw [run, State.modGate_gate_same, State.withNow_gate]
      cases lv <;> simp only [legTurnOn, high, low, level, Bool.or_self, Bool.false_eq_true, if_false]
    · rw [run, State.modGate_gate_other _ _ other]; rfl
  · rw [if_neg (Nat.not_lt.mpr late)] at ends
    rw [exec_deadTimeEnd, endDeadTime_of_none ends]

end Sys2Proof.Machine
end

section
/-! What a sample event leaves of a channel at rest, of an unpaired one and of one its partner's FAULT entry reaches,
and the steps of an instant that are followed by it: CALIBRATION_COMPLETE, RAMPDOWN_END, BANK_SWITCH, the discard
timeout and the steps of the Trace Unit. -/

namespace Sys2Proof.Machine

open Sys2Proof Relation

/-! ## The sample of one channel -/

/-- A sample takes sums, angle, speed and ramp before its references are used, and nothing else. -/
theorem beforeReferences_frame (x : SenseIn) (ch : Channel) :
    beforeReferences x ch = { ch with
      sumA := (beforeReferences x ch).sumA, sumB := (beforeReferences x ch).sumB
      calCount := (beforeReferences x ch).calCount, speed := (beforeReferences x ch).speed
      prevAngle := (beforeReferences x ch).prevAngle, invalidCount := (beforeReferences x ch).invalidCount
      rampD := (beforeReferences x ch).rampD, rampQ := (beforeReferences x ch).rampQ
      rampComplete := (beforeReferences x ch).rampComplete } := by
  have summed : accumulate x ch = { ch with
      sumA := (accumulate x ch).sumA, sumB := (accumulate x ch).sumB, calCount := (accumulate x ch).calCount } := by
    unfold accumulate; split <;> rfl
  have turned (ch : Channel) : angleStep x ch = { ch with
      speed := (angleStep x ch).speed, prevAngle := (angleStep x ch).prevAngle
      invalidCount := (angleStep x ch).invalidCount } := by
    unfold angleStep; split <;> rfl
  have ramped (ch : Channel) : rampStep ch = { ch with
      rampD := (rampStep ch).rampD, rampQ := (rampStep ch).rampQ, rampComplete := (rampStep ch).rampComplete } := by
    unfold rampStep; split <;> rfl
  unfold beforeReferences
  rw [ramped, turned, summed]

/-- What no event of a sample event changes in a channel that does not drive (R3, R15). -/
structure ContextKept (a b : Channel) : Prop where
  calibrated : b.calibrated = a.calibrated
  offA : b.offA = a.offA
  offB : b.offB = a.offB
  idle : drives a.state = false → drives b.state = false ∧ b.accD = a.accD ∧ b.accQ = a.accQ ∧
    b.lastRefD = a.lastRefD ∧ b.lastRefQ = a.lastRefQ

theorem ContextKept.refl (a : Channel) : ContextKept a a := ⟨rfl, rfl, rfl, fun h => ⟨h, rfl, rfl, rfl, rfl⟩⟩

theorem ContextKept.trans {a b c : Channel} (h : ContextKept a b) (k : ContextKept b c) : ContextKept a c where
  calibrated := k.calibrated.trans h.calibrated
  offA := k.offA.trans h.offA
  offB := k.offB.trans h.offB
  idle drv := by
    obtain ⟨bDrv, accD, accQ, refD, refQ⟩ := h.idle drv
    obtain ⟨cDrv, accD', accQ', refD', refQ'⟩ := k.idle bDrv
    exact ⟨cDrv, accD'.trans accD, accQ'.trans accQ, refD'.trans refD, refQ'.trans refQ⟩

theorem sampled_contextKept (e : LoopEnv) (x : SenseIn) (ch : Channel) :
    ContextKept ch (regulate e x (beforeReferences x ch)) := by
  have state := sampled_state e x ch
  have before := beforeReferences_state x ch
  rw [beforeReferences_frame] at state before ⊢
  refine ⟨rfl, rfl, rfl, fun drv => ⟨by rw [state]; exact drv, ?_, ?_, ?_, ?_⟩⟩ <;>
    simp [regulate, drv]

theorem walkTurn_contextKept {a b : Channel × Gate} (turn : WalkTurn a b) : ContextKept a.1 b.1 := by
  cases turn with
  | sampled e x ch g => exact sampled_contextKept e x ch
  | faulted k m ia ib v n t ch g drv => exact ⟨rfl, rfl, rfl, fun idle => by rw [drv] at idle; cases idle⟩
  | later k ch g f hk => exact ⟨rfl, rfl, rfl, fun idle => ⟨idle, rfl, rfl, rfl, rfl⟩⟩
  | ramped r q ch g rOH =>
    exact ⟨rfl, rfl, rfl, fun idle => by rw [show drives ch.state = true from drives_of_runOrHold rOH] at idle; cases idle⟩
  | pended ch g ramp => exact ⟨rfl, rfl, rfl, fun idle => ⟨idle, rfl, rfl, rfl, rfl⟩⟩

theorem walk_contextKept {a b : Channel × Gate} (chain : ReflTransGen WalkTurn a b) : ContextKept a.1 b.1 :=
  keeps_of_chain (p := fun x : Channel × Gate => ContextKept a.1 x.1)
    (fun turn h => h.trans (walkTurn_contextKept turn)) chain (.refl a.1)

/-! ## What holds through a sample event -/

/-- A predicate that every item of a sample event keeps holds after the sample event. -/
theorem resume_induct {P : State → Prop} (moment : ∀ s m, P s → P (s.withMoment m))
    (item : ∀ v i s, P s → P (takeItem v i s)) {s : State} (h : P s) : P (resume s) := by
  have walk (v : Nat) (l : List WalkItem) (s : State) (h : P s) : P (runWalk v l s) := by
    induction l generalizing s with
    | nil => exact moment s none h
    | cons i l ih =>
      have taken := item v i _ (moment s (s.moment.map (beginWalk l)) h)
      unfold runWalk
      dsimp only
      split
      · exact taken
      · split
        · exact taken
        · exact ih _ taken
  unfold resume
  split
  · exact h
  · split
    · exact h
    · exact walk _ _ s h

/-- With no item of the sample event left, only the instant's work can go. -/
theorem resume_of_walk_nil {s : State} (h : ∀ w, s.moment = some w → w.walk = []) :
    resume s = s.withMoment (resume s).moment := by
  unfold resume
  split
  · rfl
  · next w e =>
    split
    · rfl
    · rw [h w e]; rfl

theorem whenDue_of_due {b : Bool} {f : State → State} {s : State} (due : b = true) :
    whenDue b f s = resume (f s) := by rw [due]; rfl

/-! ## The reaction to a partner's FAULT entry (R112) -/

theorem partnerReact_gate (c d : Chan) (s : State) : (partnerReact c s).gate d = s.gate d := by
  unfold partnerReact
  cases (s.chan c).state with
  | run | hold =>
    show (enterRampdown c false true s).gate d = _
    unfold enterRampdown
    dsimp only
    split <;> rfl
  | rampdown | fault | off | calibrate | ready => rfl

theorem partnerOf_partnerOf (c : Chan) : partnerOf (partnerOf c) = c := by revert c; decide

/-- RAMPDOWN entry of a channel, which may take its follower along but no other channel. -/
theorem enterRampdown_chan (c : Chan) (r q : Bool) (s : State) :
    (enterRampdown c r q s).chan c = toRampdown r q (s.chan c) ∧
      ∀ d, d ≠ c → (d = partnerOf c → runOrHold (s.chan d).state = false) →
        (enterRampdown c r q s).chan d = s.chan d := by
  have away : c ≠ partnerOf c := (partnerOf_ne c).symm
  unfold enterRampdown
  dsimp only
  split
  · next along =>
    refine ⟨?_, fun d other calm => ?_⟩
    · rw [State.modChan_chan_other _ _ away, State.modChan_chan_same]
    · by_cases p : d = partnerOf c
      · rw [State.modChan_chan_other _ _ (partnerOf_ne c), ← p, calm p, Bool.and_false] at along
        cases along
      · rw [State.modChan_chan_other _ _ p, State.modChan_chan_other _ _ other]
  · exact ⟨State.modChan_chan_same .., fun d other _ => State.modChan_chan_other _ _ other⟩

theorem partnerReact_reacted (c : Chan) (s : State) : Reacted (s.chan c) ((partnerReact c s).chan c) := by
  unfold partnerReact
  cases state : (s.chan c).state with
  | run | hold =>
    refine ⟨fun _ => ?_, by simp [state], by simp [state], by simp [state]⟩
    refine (enterRampdown_chan c false true s).1.trans ?_
    simp [toRampdown]
  | rampdown =>
    exact ⟨by simp [state, runOrHold], fun _ => State.modChan_chan_same .., by simp [state], by simp [state]⟩
  | fault =>
    exact ⟨by simp [state, runOrHold], by simp [state], fun _ => State.modChan_chan_same .., by simp [state]⟩
  | off | calibrate | ready =>
    exact ⟨by simp [state, runOrHold], by simp [state], by simp [state], fun _ => rfl⟩

theorem partnerReact_chan_other {c d : Chan} {s : State} (other : d ≠ c)
    (calm : d = partnerOf c → runOrHold (s.chan d).state = false) : (partnerReact c s).chan d = s.chan d := by
  unfold partnerReact
  cases (s.chan c).state with
  | run | hold => exact (enterRampdown_chan c _ _ s).2 d other calm
  | rampdown | fault => exact State.modChan_chan_other s _ other
  | off | calibrate | ready => rfl

/-! ## A FAULT entry and its partner -/

theorem tellPartner_paired {c : Chan} {s : State} (h : paired s c = true) :
    tellPartner c s = partnerReact (partnerOf c) s := by
  unfold tellPartner; rw [h]; rfl

theorem paired_of_pairs {s t : State} (h : t.pairs = s.pairs) (c : Chan) : paired t c = paired s c := by
  unfold paired; rw [h]

/-- A channel that has entered FAULT tells its partner alone: it keeps its context and its gates, the partner reacts,
and no other channel changes. -/
theorem tellPartner_told {c : Chan} {s : State} (fault : (s.chan c).state = .fault) :
    (tellPartner c s).chan c = s.chan c ∧ (∀ d, (tellPartner c s).gate d = s.gate d) ∧
      (∀ d, d ≠ c → d ≠ partnerOf c → (tellPartner c s).chan d = s.chan d) ∧
      (paired s c = false → ∀ d, (tellPartner c s).chan d = s.chan d) ∧
      (paired s c = true → Reacted (s.chan (partnerOf c)) ((tellPartner c s).chan (partnerOf c))) := by
  cases p : paired s c with
  | false =>
    rw [tellPartner_unpaired p]
    exact ⟨rfl, fun _ => rfl, fun _ _ _ => rfl, fun _ _ => rfl, nofun⟩
  | true =>
    rw [tellPartner_paired p]
    have still (d : Chan) (other : d ≠ partnerOf c) (calm : d = c → (s.chan d).state = .fault) :
        (partnerReact (partnerOf c) s).chan d = s.chan d :=
      partnerReact_chan_other other fun e => by rw [calm (e.trans (partnerOf_partnerOf c))]; rfl
    exact ⟨still c (partnerOf_ne c).symm fun _ => fault, fun d => partnerReact_gate _ d s,
      fun d dc dp => still d dp fun e => absurd e dc, nofun, fun _ => partnerReact_reacted _ s⟩

/-- FAULT entry of a channel, seen channel by channel (R16, R58, R112). -/
theorem enterFault_chans (c : Chan) (k : Cause) (m : Word) (ia ib : Int) (v : Nat) (s : State) :
    (enterFault c k m ia ib v s).chan c = toFault k m ia ib v s.timer.stamp (s.chan c) ∧
      (enterFault c k m ia ib v s).gate c = gateSwitchOff s.now (s.gate c) ∧
      (∀ d, d ≠ c → (enterFault c k m ia ib v s).gate d = s.gate d) ∧
      (∀ d, d ≠ c → d ≠ partnerOf c → (enterFault c k m ia ib v s).chan d = s.chan d) ∧
      (paired s c = false → ∀ d, d ≠ c → (enterFault c k m ia ib v s).chan d = s.chan d) ∧
      (paired s c = true → Reacted (s.chan (partnerOf c)) ((enterFault c k m ia ib v s).chan (partnerOf c))) := by
  have same := enterFaultAlone_chan_same s c k m ia ib v
  have other {d : Chan} (h : d ≠ c) := enterFaultAlone_chan_other s h k m ia ib v
  obtain ⟨chan, gates, rest, unpaired, told⟩ :=
    tellPartner_told (c := c) (s := enterFaultAlone c k m ia ib v s) (by rw [same]; rfl)
  have pairs : paired (enterFaultAlone c k m ia ib v s) c = paired s c :=
    paired_of_pairs (enterFaultAlone_keeps c k m ia ib v s).pairs c
  rw [pairs, other (partnerOf_ne c)] at told
  rw [pairs] at unpaired
  exact ⟨chan.trans same, (gates c).trans (enterFaultAlone_gate_same s c k m ia ib v),
    fun d h => (gates d).trans (enterFaultAlone_gate_other s h k m ia ib v),
    fun d h hp => (rest d h hp).trans (other h), fun u d h => (unpaired u d).trans (other h), told⟩

/-! ## CALIBRATION_COMPLETE (R15, R31) -/

theorem exec_calibrationComplete {s : State} {c : Chan} (state : (s.chan c).state = .calibrate)
    (count : (s.chan c).calCount = 64) :
    exec (.calibrationComplete c) s = .next (resume (completeCalibration c s)) := by
  have unfolded : exec (.calibrationComplete c) s =
    .next (whenDue (calibrationDue (s.chan c)) (completeCalibration c) s) := rfl
  rw [unfolded, whenDue_of_due (by simp [calibrationDue, state, count])]

theorem completeCalibration_accepted {s : State} {c : Chan} (due : calibrationDue (s.chan c) = true)
    (ok : offsetAccepted (offsetOf (s.chan c).sumA) = true ∧ offsetAccepted (offsetOf (s.chan c).sumB) = true) :
    completeCalibration c s = s.modChan c fun ch =>
      { ch with state := .ready, calibrated := true, offA := offsetOf ch.sumA, offB := offsetOf ch.sumB } := by
  unfold completeCalibration
  dsimp only
  rw [if_pos due, if_pos (by simp [ok])]

theorem completeCalibration_refused {s : State} {c : Chan} (due : calibrationDue (s.chan c) = true)
    (bad : ¬ (offsetAccepted (offsetOf (s.chan c).sumA) = true ∧ offsetAccepted (offsetOf (s.chan c).sumB) = true)) :
    ∃ ia ib v, completeCalibration c s = enterFault c .offsetRange 0 ia ib v
      (s.modChan c fun ch => { ch with offA := 0, offB := 0, calibrated := false }) := by
  unfold completeCalibration
  dsimp only
  rw [if_pos due, if_neg (by simpa using bad)]
  exact ⟨_, _, _, rfl⟩

/-- The range check of an offset, as the statements write it. -/
theorem offsetsAccepted_iff (ch : Channel) :
    offsetAccepted (offsetOf ch.sumA) = true ∧ offsetAccepted (offsetOf ch.sumB) = true ↔
      |(ch.sumA + 32) / 64| ≤ 2048 ∧ |(ch.sumB + 32) / 64| ≤ 2048 := by
  have one (x : Int) : offsetAccepted (offsetOf x) = true ↔ |(x + 32) / 64| ≤ 2048 := by
    have form : offsetOf x = (x + 32) / 64 := rfl
    rw [form, offsetAccepted, decide_eq_true_iff, Int.abs_eq_natAbs]
    omega
  rw [one, one]

theorem completeCalibration_moment (c : Chan) (s : State) : (completeCalibration c s).moment = s.moment := by
  unfold completeCalibration
  dsimp only
  split
  · split
    · rfl
    · exact enterFault_moment ..
  · rfl

/-- Settles O14: the new context is read off the completion, and the sample event that goes on after it keeps it. -/
theorem calibrationEndsInReadyOrOffsetFault : Obligations.CalibrationEndsInReadyOrOffsetFault := by
  unfold Obligations.CalibrationEndsInReadyOrOffsetFault
  refine ⟨fun s c oa ob state count unpaired hoa hob => ?_, fun s c q oa ob w open_ last state count isPair hq hoa hob => ?_⟩
  all_goals
    have due : calibrationDue (s.chan c) = true := by simp [calibrationDue, state, count]
    have range := offsetsAccepted_iff (s.chan c)
    rw [← hoa, ← hob] at range
    refine ⟨_, exec_calibrationComplete state count, ?_⟩
  · have chain := (resume_turned (completeCalibration c s)).turns c
    refine ⟨fun ok => ?_, fun bad => ?_⟩
    · have now : (completeCalibration c s).chan c = { s.chan c with
          state := .ready, calibrated := true, offA := oa, offB := ob } := by
        rw [completeCalibration_accepted due (range.2 ok), State.modChan_chan_same, hoa, hob]; rfl
      rw [now] at chain
      have kept := walk_contextKept chain
      exact ⟨(walk_restKept chain (.inr (.inr rfl))).state, kept.calibrated, kept.offA, kept.offB⟩
    · obtain ⟨ia, ib, v, refused⟩ := completeCalibration_refused due (mt range.1 bad)
      obtain ⟨chan, gate, -⟩ := enterFault_chans c .offsetRange 0 ia ib v
        (s.modChan c fun ch => { ch with offA := 0, offB := 0, calibrated := false })
      rw [State.modChan_chan_same] at chan
      rw [refused, chan, gate] at chain
      have kept := walk_contextKept chain
      have later := walk_laterOnly chain rfl
      rw [refused]
      exact ⟨later.state, later.first, kept.calibrated, kept.offA, kept.offB,
        (gateSwitchOff_switchedOff _ _).of_eq later.gate⟩
  · have walked : resume (completeCalibration c s) =
        (completeCalibration c s).withMoment (resume (completeCalibration c s)).moment :=
      resume_of_walk_nil (by rw [completeCalibration_moment, open_]; rintro _ ⟨⟩; exact last)
    rw [walked]
    generalize (resume (completeCalibration c s)).moment = m
    have qc : q ≠ c := by rw [hq]; exact partnerOf_ne c
    by_cases ok : |oa| ≤ 2048 ∧ |ob| ≤ 2048
    · rw [completeCalibration_accepted due (range.2 ok)]
      refine ⟨fun d dc _ => (State.withMoment_chan ..).trans (State.modChan_chan_other s _ dc),
        fun _ => ⟨?_, (State.withMoment_chan ..).trans (State.modChan_chan_other s _ qc)⟩, fun bad => absurd ok bad⟩
      rw [State.withMoment_chan, State.modChan_chan_same, hoa, hob]
      rfl
    · obtain ⟨ia, ib, v, refused⟩ := completeCalibration_refused due (mt range.1 ok)
      obtain ⟨chan, gate, -, others, -, told⟩ := enterFault_chans c .offsetRange 0 ia ib v
        (s.modChan c fun ch => { ch with offA := 0, offB := 0, calibrated := false })
      rw [State.modChan_chan_same] at chan
      rw [← hq, State.modChan_chan_other s _ qc] at told
      rw [refused]
      refine ⟨fun d dc dq => ?_, fun good => absurd good ok, fun _ => ?_⟩
      · exact (others d dc (by rw [← hq]; exact dq)).trans (State.modChan_chan_other s _ dc)
      · rw [State.withMoment_chan, State.withMoment_chan, State.withMoment_gate, chan, gate]
        exact ⟨rfl, rfl, rfl, rfl, rfl, gateSwitchOff_switchedOff _ _, told isPair⟩

/-! ## An unpaired channel in a sample event -/

/-- The sample of one channel reaches no channel but it and its partner (R112). -/
theorem sampleChannel_apart (v : Nat) {c d : Chan} {s : State} (other : d ≠ c)
    (apart : paired s c = true → d ≠ partnerOf c) :
    (sampleChannel v c s).chan d = s.chan d ∧ (sampleChannel v c s).gate d = s.gate d := by
  have taken : (s.setChan c (sampledChannel s v c)).chan d = s.chan d := State.setChan_chan_other s _ other
  have faulted (k : Cause) (m : Word) (ia ib : Int) :
      (enterFault c k m ia ib v (s.setChan c (sampledChannel s v c))).chan d = s.chan d ∧
        (enterFault c k m ia ib v (s.setChan c (sampledChannel s v c))).gate d = s.gate d := by
    obtain ⟨-, -, gates, others, unpaired, -⟩ := enterFault_chans c k m ia ib v (s.setChan c (sampledChannel s v c))
    refine ⟨?_, gates d other⟩
    cases p : paired s c with
    | false => exact (unpaired p d other).trans taken
    | true => exact (others d other (apart p)).trans taken
  unfold sampleChannel
  dsimp only
  split
  · exact faulted ..
  · split
    · exact faulted ..
    · split <;> exact ⟨taken, rfl⟩

theorem unpaired_apart {s : State} {c : Chan} (unpaired : paired s c = false) (d : Chan) (h : paired s d = true) :
    c ≠ partnerOf d := by
  rintro rfl
  simp only [paired, pairOf_partnerOf] at unpaired h
  rw [h] at unpaired
  cases unpaired

/-- In FAULT a sample makes an ANGLE_LOST due at most (R70, R71). -/
theorem sampleChannel_fault (v : Nat) {c : Chan} {s : State} (fault : (s.chan c).state = .fault) :
    (sampleChannel v c s).chan c = sampledChannel s v c ∧ (sampleChannel v c s).gate c = s.gate c := by
  have taken : (s.setChan c (sampledChannel s v c)).chan c = sampledChannel s v c := State.setChan_chan_same ..
  have calm : drives (s.chan c).state = false := by rw [fault]; rfl
  unfold sampleChannel
  simp only [calm, Bool.false_and, Bool.false_eq_true, if_false]
  split <;> exact ⟨taken, rfl⟩

theorem sampledChannel_fault (s : State) (v : Nat) (c : Chan) : (sampledChannel s v c).fault = (s.chan c).fault :=
  sampled_fault _ _ _

/-- The fault record of an unpaired channel in FAULT stays through a sample event. -/
theorem resume_fault_unpaired {s : State} {c : Chan} (unpaired : paired s c = false)
    (fault : (s.chan c).state = .fault) :
    ((resume s).chan c).state = .fault ∧ ((resume s).chan c).fault = (s.chan c).fault ∧
      (resume s).gate c = s.gate c := by
  have kept := resume_induct (s := s)
    (P := fun u => u.pairs = s.pairs ∧ (u.chan c).state = .fault ∧ (u.chan c).fault = (s.chan c).fault ∧
      u.gate c = s.gate c)
    (fun _ _ h => h) (fun v i u h => ?_) ⟨rfl, fault, rfl, rfl⟩
  · exact kept.2
  · obtain ⟨pairs, state, record, gate⟩ := h
    refine ⟨(takeItem_keeps v i u).pairs.trans pairs, ?_⟩
    cases i with
    | record => exact ⟨state, record, gate⟩
    | sample d =>
      by_cases e : c = d
      · subst e
        obtain ⟨chan, gate'⟩ := sampleChannel_fault v state
        show ((sampleChannel v c u).chan c).state = _ ∧ ((sampleChannel v c u).chan c).fault = _ ∧
          (sampleChannel v c u).gate c = _
        rw [chan, gate']
        exact ⟨(sampledChannel_state u v c).trans state, (sampledChannel_fault u v c).trans record, gate⟩
      · obtain ⟨chan, gate'⟩ := sampleChannel_apart v e
          (unpaired_apart ((paired_of_pairs pairs c).trans unpaired) d)
        show ((sampleChannel v d u).chan c).state = _ ∧ ((sampleChannel v d u).chan c).fault = _ ∧
          (sampleChannel v d u).gate c = _
        rw [chan, gate']
        exact ⟨state, record, gate⟩

/-! ## RAMPDOWN_END (R11, R59) -/

theorem exec_rampdownEnd {s : State} {c : Chan} (due : rampEndDue s c = true) :
    exec (.rampdownEnd c) s = .next (resume (takeRampEnd c s)) := by
  have unfolded : exec (.rampdownEnd c) s = .next (whenDue (rampEndDue s c) (takeRampEnd c) s) := rfl
  rw [unfolded, whenDue_of_due due]

/-- A due rampdown end: the channel's outputs go off, and it enters READY or FAULT. -/
theorem takeRampEnd_due {s : State} {c : Chan} (due : rampEndDue s c = true) :
    (takeRampEnd c s).gate c = gateSwitchOff s.now (s.gate c) ∧
      (takeRampEnd c s).moment = (dropRampEnd c s).moment ∧
      (∀ d, d ≠ c → d ≠ partnerOf c → (takeRampEnd c s).chan d = s.chan d) ∧
      ((s.chan c).pendRefLoss = false → (s.chan c).pendPartner = false →
        (takeRampEnd c s).chan c = toReady (s.chan c) ∧ ∀ d, d ≠ c → (takeRampEnd c s).chan d = s.chan d) ∧
      ((s.chan c).pendRefLoss = true ∨ (s.chan c).pendPartner = true →
        (∃ ia ib v n, (takeRampEnd c s).chan c =
          toFault (if (s.chan c).pendRefLoss then .refLoss else .partner) 0 ia ib v n (s.chan c)) ∧
        (paired s c = true → Reacted (s.chan (partnerOf c)) ((takeRampEnd c s).chan (partnerOf c)))) := by
  have out : rampOut ((dropRampEnd c s).chan c) = true :=
    (rampOut_of_due due : rampOut (s.chan c) = true)
  have ramp : (s.chan c).state = .rampdown := ((rampOut_iff _).1 out).1
  obtain ⟨gate, refLoss, partner, ready⟩ := endRampdownAlone_same out
  have others (d : Chan) (h : d ≠ c) := (endRampdownAlone_other (s := dropRampEnd c s) h).1
  have moment := endRampdownAlone_moment c (dropRampEnd c s)
  have pairs : paired (endRampdownAlone c (dropRampEnd c s)) c = paired s c :=
    paired_of_pairs (endRampdownAlone_keeps c (dropRampEnd c s)).pairs c
  have taken : takeRampEnd c s = if enteredFault c s (endRampdownAlone c (dropRampEnd c s)) then
      tellPartner c (endRampdownAlone c (dropRampEnd c s)) else endRampdownAlone c (dropRampEnd c s) := by
    unfold takeRampEnd; dsimp only; rw [if_pos due]
  generalize endRampdownAlone c (dropRampEnd c s) = u at *
  have start : (dropRampEnd c s).chan c = s.chan c := rfl
  rw [start] at refLoss partner ready
  have entered : enteredFault c s u = ((u.chan c).state == .fault) := by simp [enteredFault, ramp]
  have faulted (k : Cause) (ia ib : Int) (v n : Nat) (h : u.chan c = toFault k 0 ia ib v n (s.chan c)) :
      takeRampEnd c s = tellPartner c u ∧ (u.chan c).state = .fault := by
    have state : (u.chan c).state = .fault := by rw [h]; rfl
    rw [taken, entered, state]
    exact ⟨rfl, rfl⟩
  have fault (k : Cause) (ia ib : Int) (v n : Nat) (h : u.chan c = toFault k 0 ia ib v n (s.chan c)) :
      (takeRampEnd c s).gate c = gateSwitchOff s.now (s.gate c) ∧
      (takeRampEnd c s).moment = (dropRampEnd c s).moment ∧
      (∀ d, d ≠ c → d ≠ partnerOf c → (takeRampEnd c s).chan d = s.chan d) ∧
      (takeRampEnd c s).chan c = toFault k 0 ia ib v n (s.chan c) ∧
      (paired s c = true → Reacted (s.chan (partnerOf c)) ((takeRampEnd c s).chan (partnerOf c))) := by
    obtain ⟨tell, state⟩ := faulted k ia ib v n h
    obtain ⟨chan, gates, rest, -, told⟩ := tellPartner_told state
    rw [tell]
    refine ⟨(gates c).trans gate, (tellPartner_moment c u).trans moment,
      fun d dc dp => (rest d dc dp).trans (others d dc), chan.trans h, fun p => ?_⟩
    have told := told (pairs.trans p)
    rw [others _ (partnerOf_ne c)] at told
    exact told
  cases r : (s.chan c).pendRefLoss with
  | true =>
    obtain ⟨gate, moment, rest, chan, told⟩ := fault .refLoss _ _ _ _ (refLoss r)
    exact ⟨gate, moment, rest, nofun, fun _ => ⟨⟨_, _, _, _, chan⟩, told⟩⟩
  | false =>
    cases q : (s.chan c).pendPartner with
    | true =>
      obtain ⟨gate, moment, rest, chan, told⟩ := fault .partner _ _ _ _ (partner r q)
      exact ⟨gate, moment, rest, nofun, fun _ => ⟨⟨_, _, _, _, chan⟩, told⟩⟩
    | false =>
      have chan := ready r q
      have stays : takeRampEnd c s = u := by rw [taken, entered, chan]; rfl
      rw [stays]
      exact ⟨gate, moment, fun d dc _ => others d dc, fun _ _ => ⟨chan, others⟩, by rintro (h | h) <;> cases h⟩

/-- Settles O19: the end is taken by its own step, and the sample event after it adds to no fault record of an
unpaired channel; with work of the instant left the sample event waits. -/
theorem rampdownEndsInReadyOrItsPendingFault : Obligations.RampdownEndsInReadyOrItsPendingFault := by
  unfold Obligations.RampdownEndsInReadyOrItsPendingFault
  refine ⟨fun s c w open_ ends ramp complete unpaired => ?_,
    fun s c q w open_ ends ramp complete isPair hq waits => ?_⟩
  all_goals
    have due : rampEndDue s c = true := rampEndDue_iff.2 ⟨w, open_, ends, ramp, complete⟩
    obtain ⟨gate, moment, rest, ready, faulted⟩ := takeRampEnd_due due
    have off : SwitchedOff ((takeRampEnd c s).gate c) := by rw [gate]; exact gateSwitchOff_switchedOff _ _
    refine ⟨_, exec_rampdownEnd due, ?_⟩
  · have chain := (resume_turned (takeRampEnd c s)).turns c
    have unpaired' : paired (takeRampEnd c s) c = false :=
      (paired_of_pairs (takeRampEnd_keeps c s).pairs c).trans unpaired
    have kept {k : Cause} {ia ib : Int} {v n : Nat}
        (chan : (takeRampEnd c s).chan c = toFault k 0 ia ib v n (s.chan c)) :=
      resume_fault_unpaired (c := c) unpaired' (by rw [chan]; rfl)
    refine ⟨?_, fun r q => ?_, fun r => ?_, fun r q => ?_⟩
    · cases pend : (s.chan c).pendRefLoss || (s.chan c).pendPartner with
      | true =>
        obtain ⟨⟨ia, ib, v, n, chan⟩, -⟩ := faulted (by simpa using pend)
        exact off.of_eq (kept chan).2.2
      | false =>
        obtain ⟨r, q⟩ : (s.chan c).pendRefLoss = false ∧ (s.chan c).pendPartner = false := by simpa using pend
        rw [(ready r q).1] at chain
        exact off.of_eq (walk_restKept chain (.inr (.inr rfl))).gate
    · rw [(ready r q).1] at chain
      have kept := walk_restKept chain (.inr (.inr rfl))
      exact ⟨kept.state, kept.fault, ((walk_contextKept chain).idle rfl).2⟩
    · obtain ⟨⟨ia, ib, v, n, chan⟩, -⟩ := faulted (.inl r)
      obtain ⟨state, record, -⟩ := kept chan
      rw [r, if_pos rfl] at chan
      rw [chan] at record
      refine ⟨state, by rw [record]; rfl, ?_⟩
      rw [record, causeIn_toFault, causeIn_pendingOthers_partner, causeIn_zero, Bool.or_false]
      exact Bool.and_true _
    · obtain ⟨⟨ia, ib, v, n, chan⟩, -⟩ := faulted (.inr q)
      obtain ⟨state, record, -⟩ := kept chan
      rw [r, if_neg (by simp)] at chan
      rw [chan] at record
      exact ⟨state, by rw [record]; rfl⟩
  · have held : resume (takeRampEnd c s) = takeRampEnd c s := by
      have bus : (takeRampEnd c s).bus = s.bus := (takeRampEnd_keeps c s).bus
      refine resume_blocked (w := { w with rampEnds := w.rampEnds.filter (· != c) })
        (moment.trans (by rw [dropRampEnd, open_]; rfl)) ((blocked_iff _ _).2 ?_)
      rw [bus]
      rcases waits with h | h | h | h
      · exact .inl h
      · exact .inr (.inl h)
      · exact .inr (.inr (.inl h))
      · exact .inr (.inr (.inr (.inl h)))
    rw [held, hq]
    refine ⟨off, rest, fun r q => ?_, fun pend => ?_⟩
    · obtain ⟨chan, others⟩ := ready r q
      exact ⟨by rw [chan]; rfl, by rw [chan]; rfl, others _ (partnerOf_ne c)⟩
    · obtain ⟨⟨ia, ib, v, n, chan⟩, told⟩ := faulted pend
      exact ⟨by rw [chan]; rfl, by rw [chan]; rfl, told isPair⟩

/-! ## Fields that no fault changes -/

/-- A field of a channel that no FAULT entry, no reaction and no later fault changes. -/
structure FaultFree {α : Type} (π : Channel → α) : Prop where
  fault : ∀ k m ia ib v n ch, π (toFault k m ia ib v n ch) = π ch
  later : ∀ k ch, π (laterFault k ch) = π ch
  ramp : ∀ r q ch, π (toRampdown r q ch) = π ch
  pend : ∀ ch : Channel, π { ch with pendPartner := true } = π ch

theorem FaultFree.enterFault {α : Type} {π : Channel → α} (free : FaultFree π) (c : Chan) (k : Cause) (m : Word)
    (ia ib : Int) (v : Nat) (s : State) (d : Chan) : π ((enterFault c k m ia ib v s).chan d) = π (s.chan d) := by
  have alone : π ((enterFaultAlone c k m ia ib v s).chan d) = π (s.chan d) := by
    by_cases e : d = c
    · subst e; rw [enterFaultAlone_chan_same, free.fault]
    · rw [enterFaultAlone_chan_other s e]
  have reacted (q : Chan) (u : State) : π ((partnerReact q u).chan d) = π (u.chan d) :=
    keeps_of_chain (p := fun x : Channel × Gate => π x.1 = π (u.chan d))
      (fun r h => by
        cases r with
        | ramped => exact (free.ramp ..).trans h
        | pended => exact (free.pend _).trans h
        | later => exact (free.later ..).trans h)
      (partnerReact_reactions q u d) rfl
  show π ((tellPartner c (enterFaultAlone c k m ia ib v s)).chan d) = _
  unfold tellPartner
  split
  · exact (reacted _ _).trans alone
  · exact alone

/-- Such a field takes from a sample event what the sample alone makes of it. -/
theorem FaultFree.sampleChannel {α : Type} {π : Channel → α} (free : FaultFree π) (v : Nat) (c : Chan) (s : State)
    (d : Chan) : π ((sampleChannel v c s).chan d) = π ((s.setChan c (sampledChannel s v c)).chan d) := by
  unfold Machine.sampleChannel
  dsimp only
  split
  · exact free.enterFault ..
  · split
    · exact free.enterFault ..
    · split <;> rfl

/-! ## BANK_SWITCH (R99) -/

theorem riseBand_le (sch : Schedule) (w n b : Nat) (h : b ≤ sch.used - 1) : riseBand sch w n b ≤ sch.used - 1 := by
  induction n generalizing b with
  | zero => exact h
  | succ n ih =>
    unfold riseBand
    split
    · next up => exact ih _ (by omega)
    · exact h

theorem fallBand_le (sch : Schedule) (w n b : Nat) : fallBand sch w n b ≤ b := by
  induction n generalizing b with
  | zero => exact le_rfl
  | succ n ih =>
    unfold fallBand
    split
    · exact (ih _).trans (by omega)
    · exact le_rfl

theorem selectBand_le (sch : Schedule) (speed : Int) {b : Nat} (h : b ≤ sch.used - 1) :
    selectBand sch speed b ≤ sch.used - 1 := (fallBand_le ..).trans (riseBand_le _ _ _ _ h)

theorem band_faultFree : FaultFree Channel.band := by constructor <;> intros <;> rfl

theorem sampledChannel_band (s : State) (v : Nat) (c : Chan) :
    (sampledChannel s v c).band =
      selectBand s.active.scheds[c] (beforeReferences s.sense[c] (s.chan c)).speed (s.chan c).band := by
  have before : (beforeReferences s.sense[c] (s.chan c)).band = (s.chan c).band := by rw [beforeReferences_frame]
  rw [← before]
  rfl

/-- No sample event takes a band above USED - 1 (R91). -/
theorem resume_band {s : State} (h : ∀ c, (s.chan c).band ≤ s.active.scheds[c].used - 1) (c : Chan) :
    ((resume s).chan c).band ≤ s.active.scheds[c].used - 1 := by
  refine (resume_induct (P := fun u => u.active = s.active ∧ ∀ c, (u.chan c).band ≤ s.active.scheds[c].used - 1)
    (fun _ _ h => h) (fun v i u hu => ?_) ⟨rfl, h⟩).2 c
  obtain ⟨active, bands⟩ := hu
  refine ⟨(takeItem_keeps v i u).active.trans active, fun d => ?_⟩
  cases i with
  | record => exact bands d
  | sample e =>
    refine (band_faultFree.sampleChannel v e u d).trans_le ?_
    by_cases same : d = e
    · subst same
      rw [State.setChan_chan_same, sampledChannel_band, active]
      exact selectBand_le _ _ (bands d)
    · rw [State.setChan_chan_other u _ same]
      exact bands d

theorem switchBanks_switched (s : State) :
    (switchBanks s).active = s.staged ∧ (switchBanks s).staged = s.staged ∧
      (switchBanks s).commit = ⟨.doneOk, 0, 0, 0⟩ ∧
      ∀ c, ((switchBanks s).chan c).band ≤ (switchBanks s).active.scheds[c].used - 1 := by
  refine ⟨rfl, rfl, rfl, fun c => ?_⟩
  have clamped : (switchBanks s).chan c = clampBand s.staged.scheds[c] (s.chan c) :=
    State.mapChans_chan { s with active := s.staged } _ c
  rw [clamped]
  exact Nat.min_le_right _ _

/-- Settles O21. -/
theorem switchMakesTheStagedBankActive : Obligations.SwitchMakesTheStagedBankActive := by
  unfold Obligations.SwitchMakesTheStagedBankActive
  intro s w open_ due pending
  have unfolded : exec .bankSwitch s = .next (whenDue (switchDue s) takeSwitch s) := rfl
  have isDue : switchDue s = true := by unfold switchDue; rw [open_]; exact due
  have taken : takeSwitch s = switchBanks (s.withMoment (some { w with switchDue := false })) := by
    unfold takeSwitch; rw [open_]; simp only [due, pending, if_true]
  rw [unfolded, whenDue_of_due isDue, taken]
  obtain ⟨active, staged, commit, bands⟩ := switchBanks_switched (s.withMoment (some { w with switchDue := false }))
  rw [State.withMoment_staged] at active staged
  generalize switchBanks (s.withMoment (some { w with switchDue := false })) = u at *
  have keeps := resume_keeps u
  refine ⟨_, rfl, keeps.active.trans active, keeps.staged.trans staged, ?_, ?_, ?_, fun c => ?_⟩
  · rw [keeps.commit, commit]
  · rw [keeps.commit, commit]
  · rw [keeps.commit, commit]
  · rw [← active]; exact resume_band bands c

/-! ## The Trace Unit's steps within an instant (R173, R176) -/

theorem next_val {k : Fin 4} (h : k.val < 3) : (k + 1).val = k.val + 1 := by revert k; decide

/-- Settles O55. -/
theorem armedEntryAndSegmentCompletionAreTaken : Obligations.ArmedEntryAndSegmentCompletionAreTaken := by
  unfold Obligations.ArmedEntryAndSegmentCompletionAreTaken
  intro s last
  have after (u : TraceUnit) : resume (s.withTrace u) = (s.withTrace u).withMoment (resume (s.withTrace u)).moment :=
    resume_of_walk_nil last
  refine ⟨fun capture valid => ?_, fun capture valid => ?_⟩
  · have unfolded : exec .traceArmedEntry s =
      .next (whenDue (armedEntryDue s.trace) (fun s => s.withTrace (enterArmed s.trace)) s) := rfl
    have due : armedEntryDue s.trace = true := by
      simp [armedEntryDue, capture, show (activeSegment s.trace).valid = traceP s.trace from valid]
    have entered : enterArmed s.trace = { s.trace with capture := .armed } := by unfold enterArmed; rw [if_pos due]
    refine ⟨_, unfolded.trans (congrArg _ (whenDue_of_due due)), ?_⟩
    rw [entered, after]
    rfl
  · have unfolded : exec .segmentComplete s =
      .next (whenDue (segmentDue s.trace) (fun s => s.withTrace (completeSegment s.trace)) s) := rfl
    have due : segmentDue s.trace = true := by
      simp [segmentDue, capture, show (activeSegment s.trace).valid = traceL s.trace from valid]
    have completed : completeSegment s.trace = if s.trace.armedCfg.segmented && s.trace.seg.val < 3 then
        { s.trace with seg := s.trace.seg + 1, pointer := 0, capture := startState s.trace.armedCfg }
      else { s.trace with capture := .done } := by unfold completeSegment; rw [if_pos due]
    refine ⟨_, unfolded.trans (congrArg _ (whenDue_of_due due)), ?_⟩
    rw [after]
    generalize (resume (s.withTrace (completeSegment s.trace))).moment = m
    refine ⟨rfl, fun more => ?_, fun done => ?_⟩
    · rw [if_pos (by simp [more])] at completed
      refine ⟨?_, ?_⟩
      · show completeSegment s.trace = _
        rw [completed]
        rfl
      · show (completeSegment s.trace).seg.val = _
        rw [completed]
        exact next_val more.2
    · rw [if_neg (by simpa using done)] at completed
      exact completed

/-! ## PERIOD_START: carrier, debounce and idle stream (R50, R51, R73, R74, R170) -/

theorem exec_periodStart_any {s : State} (released : s.resetLow = false) (x : SampleInputs) (o : SampleOrder) :
    exec (.periodStart x o) s = .next (resume (periodWork x o (completeAll (settle s)))) := by
  have unfolded : exec (.periodStart x o) s = .next (if s.resetLow then s else startPeriod x o s) := rfl
  rw [unfolded, released, if_neg (by simp)]
  rfl

theorem classifyBus_last (a b v : Nat) (m : BusMonitor) : (classifyBus a b v m).last = v := by
  unfold classifyBus
  dsimp only
  split
  · rfl
  · split <;> rfl

/-- Settles O7. -/
theorem periodStartMovesCarrierAndDebounce : Obligations.PeriodStartMovesCarrierAndDebounce := by
  unfold Obligations.PeriodStartMovesCarrierAndDebounce
  refine ⟨fun x o s released => ⟨_, exec_periodStart_any released x o, ?_⟩,
    fun x o s released settled => ⟨_, busClass s.station.underLim s.station.overLim x.vbus.toNat,
      exec_periodStart released settled x o, rfl, ?_⟩, fun x o s low => ?_⟩
  · have kept := ((settle_turned s).keeps).trans (completeAll_completed (settle s)).keeps.toInstantKeeps
    generalize completeAll (settle s) = u at *
    have after := resume_keeps (periodWork x o u)
    refine ⟨?_, ?_, after.sense, ?_, after.station.trans kept.station, after.port.trans kept.port,
      after.slotMap.trans kept.slotMap, after.timer.trans kept.timer, after.counters.trans kept.counters,
      after.staged.trans kept.staged⟩
    · refine after.carrier.trans (?_ : carrierStart u.carrier u.station = _)
      rw [kept.carrier, kept.station]
      rfl
    · refine after.now.trans (?_ : max u.now u.carrier.nextPeriod = _)
      rw [kept.now, kept.carrier]
    · exact (congrArg BusMonitor.last after.bus).trans (classifyBus_last ..)
  · have kept := (completeAll_completed s).keeps
    generalize completeAll s = u at *
    have bus : (resume (periodWork x o u)).bus =
        classifyBus s.station.underLim s.station.overLim x.vbus.toNat s.bus := by
      rw [(resume_keeps (periodWork x o u)).bus, ← kept.bus, ← kept.station]
      rfl
    rw [bus]
    unfold classifyBus
    show _ ∧ (busClass _ _ _ = _ → _) ∧ (busClass _ _ _ ≠ _ → busClass _ _ _ = _ → _) ∧
      (busClass _ _ _ ≠ _ → busClass _ _ _ ≠ _ → _)
    generalize busClass s.station.underLim s.station.overLim x.vbus.toNat = k
    dsimp only
    by_cases same : k = s.bus.state
    · rw [if_pos same]
      exact ⟨rfl, fun _ => ⟨rfl, rfl⟩, fun other => absurd same other, fun other => absurd same other⟩
    · rw [if_neg same]
      by_cases again : k = s.bus.candidate
      · rw [if_pos again]
        exact ⟨rfl, fun h => absurd h same, fun _ _ => ⟨rfl, again.symm⟩, fun _ other => absurd again other⟩
      · rw [if_neg again]
        exact ⟨rfl, fun h => absurd h same, fun _ h => absurd h again, fun _ _ => ⟨rfl, rfl⟩⟩
  · have unfolded : exec (.periodStart x o) s = .next (if s.resetLow then s else startPeriod x o s) := rfl
    rw [unfolded, low]
    rfl

theorem countIdle_open {u : ServiceUnit} {st : Stream} (h : u.stream = some st) :
    countIdle u = { u with idle := u.idle + 1 } := by unfold countIdle; rw [h]

/-- Settles O22. -/
theorem idleStreamsAreDiscarded : Obligations.IdleStreamsAreDiscarded := by
  unfold Obligations.IdleStreamsAreDiscarded
  refine ⟨fun x o s st released settled stream => ⟨_, exec_periodStart released settled x o, ?_, fun reached => ?_⟩,
    fun s w st open_ due stream => ?_⟩
  · have kept := (completeAll_completed s).keeps
    generalize completeAll s = u at *
    refine (resume_keeps (periodWork x o u)).service.trans (?_ : countIdle u.service = _)
    rw [kept.service, countIdle_open stream]
  · have kept := (completeAll_completed s).keeps
    generalize completeAll s = u at *
    have work : (periodWork x o u).moment = some (openMoment x.vbus.toNat o (u.commit.state == .switchPending)
        { periodWork x o u with moment := u.moment }) := rfl
    have service : (periodWork x o u).service = { s.service with idle := s.service.idle + 1 } := by
      show countIdle u.service = _
      rw [kept.service, countIdle_open stream]
    have station : (periodWork x o u).station = s.station := kept.station
    have timeout : timeoutReached { periodWork x o u with moment := u.moment } = true := by
      show (_ && decide ((if (periodWork x o u).station.discardShort then 64 else 1024) ≤
        (periodWork x o u).service.idle)) = true
      rw [service, station]
      simp [stream, reached]
    have blocked : blocked (periodWork x o u) (openMoment x.vbus.toNat o (u.commit.state == .switchPending)
        { periodWork x o u with moment := u.moment }) = true := (blocked_iff _ _).2 (.inl timeout)
    rw [resume_blocked work blocked]
    exact ⟨_, work, timeout⟩
  · have unfolded : exec .streamDiscardTimeout s = .next (whenDue (timeoutDue s) takeTimeout s) := rfl
    have isDue : timeoutDue s = true := by unfold timeoutDue; rw [open_]; exact due
    refine ⟨_, unfolded.trans (congrArg _ (whenDue_of_due isDue)), (resume_keeps _).service.trans ?_⟩
    unfold takeTimeout
    rw [open_]
    simp only [due, if_true, closeStream, stream]
    rfl

end Sys2Proof.Machine
end

section
/-! COMPUTATION_COMPLETE with its status word, and what a station-wide detection does to the computations in progress
and to a capture that waits for a FAULT entry. -/

namespace Sys2Proof.Machine

open Sys2Proof Relation

/-! ## The status word (R134) -/

theorem bitAt_eq (b : Bool) (n : Nat) : bitAt b n = b.toNat * 2 ^ n := by cases b <;> simp [bitAt]

/-- The sum of the fields of a status word, each at its place. -/
def statusSum (code band : Nat) (b3 b4 b5 b6 b7 b8 b9 b12 b13 b14 b15 : Bool) : Nat :=
  code + b3.toNat * 8 + b4.toNat * 16 + b5.toNat * 32 + b6.toNat * 64 + b7.toNat * 128 + b8.toNat * 256
    + b9.toNat * 512 + band * 1024 + b12.toNat * 4096 + b13.toNat * 8192 + b14.toNat * 16384 + b15.toNat * 32768

theorem statusWord_eq (ch : Channel) (k : Computation) (notReady : Bool) :
    statusWord ch k notReady = BitVec.ofNat 16 (statusSum (stateCode ch.state) k.band ch.calibrated ch.noticePending
      k.currentLimited k.voltageLimited k.foldback ch.enableRefused ch.clearRefused (ch.invalidCount != 0)
      k.busNotNormal notReady (holdField ch)) := by
  simp only [statusWord, statusSum, bitAt_eq, Nat.reducePow]

theorem getLsbD_of_digit {n i : Nat} {b : Bool} (less : n < 65536) (h : n / 2 ^ i % 2 = b.toNat) :
    (BitVec.ofNat 16 n).getLsbD i = b := by
  rw [BitVec.getLsbD, BitVec.toNat_ofNat, Nat.mod_eq_of_lt less, Nat.testBit_eq_decide_div_mod_eq, h]
  cases b <;> rfl

/-- Every field of a status word stands at its place. -/
theorem statusSum_fields {code band : Nat} (hc : code < 8) (hb : band ≤ 3)
    (b3 b4 b5 b6 b7 b8 b9 b12 b13 b14 b15 : Bool) {w : Word}
    (hw : w = BitVec.ofNat 16 (statusSum code band b3 b4 b5 b6 b7 b8 b9 b12 b13 b14 b15)) :
    w.toNat % 8 = code ∧ w.getLsbD 3 = b3 ∧ w.getLsbD 4 = b4 ∧ w.getLsbD 5 = b5 ∧ w.getLsbD 6 = b6 ∧
      w.getLsbD 7 = b7 ∧ w.getLsbD 8 = b8 ∧ w.getLsbD 9 = b9 ∧ w.toNat / 1024 % 4 = band ∧ w.getLsbD 12 = b12 ∧
      w.getLsbD 13 = b13 ∧ w.getLsbD 14 = b14 ∧ w.getLsbD 15 = b15 := by
  subst hw
  have l3 := Bool.toNat_le b3
  have l4 := Bool.toNat_le b4
  have l5 := Bool.toNat_le b5
  have l6 := Bool.toNat_le b6
  have l7 := Bool.toNat_le b7
  have l8 := Bool.toNat_le b8
  have l9 := Bool.toNat_le b9
  have l12 := Bool.toNat_le b12
  have l13 := Bool.toNat_le b13
  have l14 := Bool.toNat_le b14
  have l15 := Bool.toNat_le b15
  have less : statusSum code band b3 b4 b5 b6 b7 b8 b9 b12 b13 b14 b15 < 65536 := by unfold statusSum; omega
  have digit (i : Nat) (b : Bool)
      (h : statusSum code band b3 b4 b5 b6 b7 b8 b9 b12 b13 b14 b15 / 2 ^ i % 2 = b.toNat) :=
    getLsbD_of_digit less h
  refine ⟨?_, digit 3 b3 ?_, digit 4 b4 ?_, digit 5 b5 ?_, digit 6 b6 ?_, digit 7 b7 ?_, digit 8 b8 ?_,
    digit 9 b9 ?_, ?_, digit 12 b12 ?_, digit 13 b13 ?_, digit 14 b14 ?_, digit 15 b15 ?_⟩
  all_goals
    simp only [BitVec.toNat_ofNat, Nat.reducePow, Nat.mod_eq_of_lt less]
    unfold statusSum
    omega

theorem stateCode_lt (x : ChState) : stateCode x < 8 := by cases x <;> decide

theorem holdField_eq (ch : Channel) :
    holdField ch = decide (ch.state = .hold ∨ (ch.state = .rampdown ∧ ch.pendRefLoss = true)) := by
  unfold holdField
  cases ch.state <;> simp

theorem partnerNotReady_eq (s : State) (c : Chan) :
    partnerNotReady s c = decide (s.pairs[pairOf c] = true ∧ c.val % 2 = 0 ∧ (s.chan c).state = .ready ∧
      ¬ ((s.chan (partnerOf c)).state = .ready ∧ (s.chan (partnerOf c)).invalidCount = 0)) := by
  rw [Bool.eq_iff_iff]
  simp [partnerNotReady, pairedLeader, paired, and_assoc]

/-- The status word formed at a completion, field by field (R22, R48, R134). -/
theorem statusWord_fields (s : State) (c : Chan) {k : Computation} (band : k.band ≤ 3) {w : Word}
    (hw : w = statusWord (s.chan c) k (partnerNotReady s c)) :
    w.toNat % 8 = stateCode (s.chan c).state ∧ w.getLsbD 3 = (s.chan c).calibrated ∧
      w.getLsbD 4 = (s.chan c).noticePending ∧ w.getLsbD 5 = k.currentLimited ∧
      w.getLsbD 6 = k.voltageLimited ∧ w.getLsbD 7 = k.foldback ∧
      w.getLsbD 8 = (s.chan c).enableRefused ∧ w.getLsbD 9 = (s.chan c).clearRefused ∧
      w.toNat / 1024 % 4 = k.band ∧ w.getLsbD 12 = decide ((s.chan c).invalidCount ≠ 0) ∧
      w.getLsbD 13 = k.busNotNormal ∧
      w.getLsbD 14 = decide (s.pairs[pairOf c] = true ∧ c.val % 2 = 0 ∧ (s.chan c).state = .ready ∧
        ¬ ((s.chan (partnerOf c)).state = .ready ∧ (s.chan (partnerOf c)).invalidCount = 0)) ∧
      w.getLsbD 15 = decide ((s.chan c).state = .hold ∨
        ((s.chan c).state = .rampdown ∧ (s.chan c).pendRefLoss = true)) := by
  obtain ⟨code, f3, f4, f5, f6, f7, f8, f9, bands, f12, f13, f14, f15⟩ :=
    statusSum_fields (stateCode_lt _) band _ _ _ _ _ _ _ _ _ _ _ (hw.trans (statusWord_eq ..))
  have invalid : ((s.chan c).invalidCount != 0) = decide ((s.chan c).invalidCount ≠ 0) := by
    rw [Bool.eq_iff_iff]; simp
  exact ⟨code, f3, f4, f5, f6, f7, f8, f9, bands, f12.trans invalid, f13, f14.trans (partnerNotReady_eq s c),
    f15.trans (holdField_eq _)⟩

/-- The state in which a completed computation has replaced the last results. -/
def publishedAt (s : State) (c : Chan) (k : Computation) : State :=
  s.setChan c { s.chan c with last := publish (s.chan c) k (partnerNotReady s c), comp := none }

theorem completeComputation_of_comp {s : State} {c : Chan} {k : Computation} (comp : (s.chan c).comp = some k) :
    completeComputation c s = if k.handOn && drives (s.chan c).state then
      (publishedAt s c k).modGate c (gateHandOn k.triple) else publishedAt s c k := by
  unfold completeComputation; dsimp only; rw [comp]; rfl

theorem publishedAt_chan (s : State) (c : Chan) (k : Computation) :
    (publishedAt s c k).chan c =
        { s.chan c with last := publish (s.chan c) k (partnerNotReady s c), comp := none } ∧
      ∀ d, d ≠ c → (publishedAt s c k).chan d = s.chan d :=
  ⟨State.setChan_chan_same .., fun _ h => State.setChan_chan_other s _ h⟩

/-! ## What holds through a station-wide detection -/

/-- With no work of an instant open, a station-wide detection is made of the detections in each channel and of the
partners' reactions. -/
theorem detectAll_induct {P : State → Prop} {k : Cause} (detect : ∀ c u, P u → P (detectAlone c k u))
    (react : ∀ c u, P u → P (partnerReact c u)) {s : State} (settled : s.moment = none) (o : PairOrders) (h : P s) :
    P (detectAll o k s) := by
  have event (p : Fin 4) (e : PairEvent) (r : PairRun) (hr : r.state.moment = none ∧ P r.state) :
      (takePairEvent p k r e).state.moment = none ∧ P (takePairEvent p k r e).state := by
    obtain ⟨none, hr⟩ := hr
    refine ⟨(takePairEvent_moment p k e fun odd _ => not_rampEndDue_of_none none _).trans none, ?_⟩
    cases e with
    | detect odd =>
      unfold takePairEvent
      dsimp only
      split
      · exact detect _ _ hr
      · exact hr
    | react odd =>
      unfold takePairEvent
      dsimp only
      split
      · exact react _ _ hr
      · exact hr
    | rampEnd odd =>
      unfold takePairEvent
      dsimp only
      rw [not_rampEndDue_of_none none]
      exact hr
  have events (p : Fin 4) (l : List PairEvent) (r : PairRun) (hr : r.state.moment = none ∧ P r.state) :
      (l.foldl (takePairEvent p k) r).state.moment = none ∧ P (l.foldl (takePairEvent p k) r).state := by
    induction l generalizing r with
    | nil => exact hr
    | cons e l ih => exact ih _ (event p e r hr)
  have pairs (l : List (Fin 4)) (s : State) (hs : s.moment = none ∧ P s) :
      P (l.foldl (fun s p => detectPair o[p] p k s) s) := by
    induction l generalizing s with
    | nil => exact hs.2
    | cons p l ih => exact ih _ (events p _ ⟨s, _⟩ hs)
  exact pairs allPairs s ⟨settled, h⟩

/-- What a station-wide detection makes of a computation in progress: one of a channel that drives is withheld with
the channel's FAULT entry (R25). -/
structure Withholds (a b : Channel) : Prop where
  driven : drives a.state = true → (drives b.state = true ∧ b.comp = a.comp) ∨
    (b.state = .fault ∧ b.comp = a.comp.map withhold)
  idle : drives a.state = false → drives b.state = false ∧ b.comp = a.comp

theorem Withholds.refl (a : Channel) : Withholds a a := ⟨fun h => .inl ⟨h, rfl⟩, fun h => ⟨h, rfl⟩⟩

/-- A change that leaves the computation and whether the channel drives. -/
theorem Withholds.same {a b c : Channel} (h : Withholds a b) (drv : drives c.state = drives b.state)
    (fault : b.state = .fault → c.state = .fault) (comp : c.comp = b.comp) : Withholds a c := by
  refine ⟨fun ha => (h.driven ha).imp ?_ ?_, fun ha => ?_⟩
  · exact fun ⟨hb, hc⟩ => ⟨drv.trans hb, comp.trans hc⟩
  · exact fun ⟨hb, hc⟩ => ⟨fault hb, comp.trans hc⟩
  · obtain ⟨hb, hc⟩ := h.idle ha
    exact ⟨drv.trans hb, comp.trans hc⟩

theorem Withholds.fault {a b : Channel} (h : Withholds a b) (drv : drives b.state = true) (k : Cause) (m : Word)
    (ia ib : Int) (v n : Nat) : Withholds a (toFault k m ia ib v n b) := by
  refine ⟨fun ha => .inr ⟨rfl, ?_⟩, fun ha => ?_⟩
  · rcases h.driven ha with ⟨-, same⟩ | ⟨fault, -⟩
    · exact congrArg (Option.map withhold) same
    · rw [fault] at drv; cases drv
  · rw [(h.idle ha).1] at drv; cases drv

theorem Withholds.react {a : Channel} {x y : Channel × Gate} (r : Reaction x y) (h : Withholds a x.1) :
    Withholds a y.1 := by
  cases r with
  | ramped q ch g rOH =>
    have drv := drives_of_runOrHold rOH
    exact h.same drv.symm (fun f => by rw [show ch.state = _ from f] at drv; cases drv) rfl
  | pended ch g ramp => exact h.same rfl id rfl
  | later ch g f => exact h.same rfl id rfl

theorem detectAll_withholds {k : Cause} {s : State} (settled : s.moment = none) (o : PairOrders) (d : Chan) :
    Withholds (s.chan d) ((detectAll o k s).chan d) := by
  refine detectAll_induct (P := fun u => Withholds (s.chan d) (u.chan d)) (fun c u h => ?_) (fun c u h => ?_)
    settled o (.refl _)
  · by_cases e : d = c
    · subst e
      rcases state_cases (u.chan d).state with drv | fault | rest
      · rw [detectAlone_drives drv, enterFaultAlone_chan_same]
        exact h.fault drv ..
      · rw [detectAlone_fault fault, State.modChan_chan_same]
        exact h.same rfl id rfl
      · rw [detectAlone_rests (resting_not_drives rest) (resting_not_fault rest)]
        exact h
    · rw [(detectAlone_other k e).1]
      exact h
  · exact keeps_of_chain (p := fun x : Channel × Gate => Withholds (s.chan d) x.1) Withholds.react
      (partnerReact_reactions c u d) h

/-- Settles O15. -/
theorem computationPublishesAndHandsOn : Obligations.ComputationPublishesAndHandsOn := by
  unfold Obligations.ComputationPublishesAndHandsOn
  refine ⟨fun s c k settled comp band => ?_, fun n o s c k low settled comp => ?_⟩
  · have unfolded : exec (.computationComplete c) s = .next (completeComputation c (settle s)) := rfl
    rw [unfolded, settle_of_none settled, completeComputation_of_comp comp]
    obtain ⟨same, others⟩ := publishedAt_chan s c k
    have fields := statusWord_fields s c band rfl
    by_cases hand : (k.handOn && drives (s.chan c).state) = true
    · rw [if_pos hand]
      exact ⟨_, _, rfl, rfl, (State.modGate_chan ..).trans same,
        fun d h => ⟨(State.modGate_chan ..).trans (others d h), State.modGate_gate_other _ _ h⟩,
        fun _ => State.modGate_gate_same .., fun n => absurd (by simpa using hand) n, fields⟩
    · rw [if_neg hand]
      exact ⟨_, _, rfl, rfl, same, fun d h => ⟨others d h, rfl⟩, fun y => absurd (by simpa using y) hand,
        fun _ => rfl, fields⟩
  · have unfolded : exec (.inhnAsserted n o) s = .next (assertInhibit n o s) := rfl
    refine ⟨_, unfolded, ?_⟩
    rw [assertInhibit_of_none n o low settled]
    generalize hu : ({ s with now := max s.now n, inhnLow := true }.mapGates (gateInhibit (max s.now n)) : State) = u
    have chan : u.chan c = s.chan c := by rw [← hu]; rfl
    have none : u.moment = none := by rw [← hu]; exact settled
    have kept := detectAll_withholds (k := .inhibit) none o c
    have detected := detectAll_detected (k := .inhibit) (.inr (.inr rfl)) o
      (fun p odd _ => not_rampEndDue_of_none none _) (c := c)
    rw [chan] at kept detected
    refine ⟨fun drv => ?_, fun idle => (kept.idle idle).2.trans comp⟩
    rcases kept.driven drv with ⟨still, -⟩ | ⟨-, withheld⟩
    · rw [(detected.driven drv).1] at still; cases still
    · rw [withheld, comp]; rfl

end Sys2Proof.Machine
end

section
/-! How service records are taken (R133, R153, R154, R162, R169): one rule for every record row, by its command's
class, and the commands whose own tests are short. -/

namespace Sys2Proof.Machine

open Sys2Proof Relation

/-! ## Record rows -/

theorem groupRecord_own {n : Nat} {code : BitVec 32} {b : RecordBody} (own : code.toNat = n)
    (h : groupArgument n b = true) : groupRecord code b = b := by
  unfold groupRecord
  split
  · rfl
  · next low =>
    have same : argumentOf b = n := by
      rcases Bool.or_eq_true_iff.1 h with e | e
      · exact beq_iff_eq.1 e
      · exact absurd (decide_eq_true_iff.1 e) low
    have argument : b.argument = code := BitVec.eq_of_toNat_eq (by rw [own]; exact same)
    rw [← argument]

/-- Every record row receives its record under its code. -/
theorem exec_record {i : Instr} {code : Byte} {b : RecordBody} (row : rowRecord i = some (code, b))
    (wf : i.wf = true) (s : State) : exec i s = .next (receiveRecord code b s) := by
  have group {n : BitVec 32} {m : Nat} {b : RecordBody} (own : n.toNat = m) (h : groupArgument m b = true) :
      Host.Outcome.next (receiveRecord (codeOf .groupAction) (groupRecord n b) s) =
        (.next (receiveRecord 0x22 b s) : Result) := by rw [groupRecord_own own h]; rfl
  cases i with
  | groupActionCalibrate => cases row; exact group (n := 0) rfl wf
  | groupActionClearFault => cases row; exact group (n := 1) rfl wf
  | groupActionAckNotice => cases row; exact group (n := 2) rfl wf
  | groupActionRampdown => cases row; exact group (n := 3) rfl wf
  | unknown | nop | getStatus | setCheck | goOperational | leaveOperational | resetStation | setWindow | writeStart
  | writeContinue | readStart | readContinue | stopStream | commitBank | copyActiveToStaged | tagFirst | tagLast
  | traceArm | traceStop | traceTrigger => cases row; rfl
  | _ => cases row

/-! ## The command table (R133) -/

theorem commandOf_codeOf (c : Command) : commandOf (codeOf c) = some c := by cases c <;> rfl

theorem commandOf_eq_some_iff {code : Byte} {c : Command} : commandOf code = some c ↔ code = codeOf c := by
  refine ⟨fun h => ?_, fun h => by rw [h, commandOf_codeOf]⟩
  refine BitVec.eq_of_toNat_eq ?_
  unfold commandOf at h
  split at h <;> cases h <;> assumption

theorem commandOf_eq_none {code : Byte} (h : code ∉ [0x00, 0x01, 0x02, 0x03, 0x04, 0x05, 0x10, 0x11, 0x12, 0x13,
    0x14, 0x15, 0x18, 0x19, 0x20, 0x21, 0x22, 0x30, 0x31, (0x32 : Byte)]) : commandOf code = none := by
  cases e : commandOf code with
  | none => rfl
  | some c =>
    refine absurd ?_ h
    rw [commandOf_eq_some_iff.1 e]
    cases c <;> decide

/-! ## Streams and tags by the record taken (R162, R169) -/

/-- A command without a rule of its own for the open stream and the tags, or no command. -/
def plainCommand : Option Command → Bool
  | some .nop | some .getStatus | some .writeContinue | some .readContinue | some .tagFirst | some .tagLast
  | some .groupAction => false
  | some .setCheck | some .goOperational | some .leaveOperational | some .resetStation | some .setWindow
  | some .writeStart | some .readStart | some .stopStream | some .commitBank | some .copyActiveToStaged
  | some .traceArm | some .traceStop | some .traceTrigger | none => true

/-- Only a CONTINUE can be the open stream's own. -/
theorem ownContinue_other {s : State} {c : Option Command} (w : c ≠ some .writeContinue)
    (r : c ≠ some .readContinue) : ownContinue s c = false := by
  unfold ownContinue
  split
  · exact absurd rfl w
  · exact absurd rfl r
  · rfl

theorem closesStream_of_command {s : State} {code : Byte} {c : Option Command} (hc : commandOf code = c)
    (nop : c ≠ some .nop) (status : c ≠ some .getStatus) : closesStream s code = !ownContinue s c := by
  unfold closesStream
  rw [hc]
  split
  · exact absurd rfl nop
  · exact absurd rfl status
  · rfl

theorem closesStream_plain {s : State} {code : Byte} (plain : plainCommand (commandOf code) = true) :
    closesStream s code = true := by
  have ne {c : Command} (h : plainCommand (some c) = false) : commandOf code ≠ some c := by
    intro e; rw [e, h] at plain; cases plain
  rw [closesStream_of_command rfl (ne rfl) (ne rfl), ownContinue_other (ne rfl) (ne rfl)]
  rfl

theorem clearsSequence_plain {s : State} {code : Byte} (plain : plainCommand (commandOf code) = true) :
    clearsSequence s code = tagsPresent s := by
  have ne {c : Command} (h : plainCommand (some c) = false) : commandOf code ≠ some c := by
    intro e; rw [e, h] at plain; cases plain
  unfold clearsSequence
  split
  · next e => exact absurd e (ne rfl)
  · next e => exact absurd e (ne rfl)
  · next e => exact absurd e (ne rfl)
  · next e => exact absurd e (ne rfl)
  · next e => exact absurd e (ne rfl)
  · rfl

/-! ## The judgement (R154) -/

theorem judge_refused {s : State} {f : FrameCtx} {code : Byte} {b : RecordBody} (h : TakenHere s f code b)
    (bad : ∀ c, commandOf code = some c → allowedNow s f.phase c = false) :
    judge s f.phase false code b = refuse flagUnknown := by
  unfold judge
  rw [checkFails_eq_false h.check, if_neg (by simp), if_neg (Nat.not_lt.2 h.words)]
  split
  · rfl
  · next c e => simp [bad c e]

/-! ## Taking a record -/

/-- A record that passes steps 1 and 2 of R154 is taken with its judgement, and closes and clears by its command. -/
theorem takesRecord_of_judged {i : Instr} {s : State} {f : FrameCtx} {code : Byte} {b : RecordBody} {j : Judgement}
    (row : rowRecord i = some (code, b)) (wf : i.wf = true) (h : TakenHere s f code b)
    (judged : judge s f.phase false code b = j) {seq group closes : Bool} (hseq : clearsSequence s code = seq)
    (hgroup : (commandOf code == some .groupAction) = group) (hcloses : closesStream s code = closes) :
    TakesRecord i s f code b (j.flags ||| flagIf seq flagSeqCleared) (answeredWith j.cmd (seq || group)) closes := by
  have taken := answer_taken (exec_record row wf s) h.toForThisStation
  have entered : answerTaken s f.phase code b = answeredWith j.cmd (seq || group) := by
    unfold answerTaken answeredWith
    rw [checkFails_eq_false h.check, judged, hseq, hgroup]
    rfl
  rw [checkFails_eq_false h.check, judged, entered, hseq, hcloses] at taken
  simpa using taken

/-- Most records are taken plainly. -/
theorem takesPlainly_of_judged {i : Instr} {s : State} {f : FrameCtx} {code : Byte} {b : RecordBody} {j : Judgement}
    (row : rowRecord i = some (code, b)) (wf : i.wf = true) (h : TakenHere s f code b)
    (plain : plainCommand (commandOf code) = true) (judged : judge s f.phase false code b = j) :
    TakesPlainly i s f code b j.flags j.cmd := by
  have group : (commandOf code == some .groupAction) = false := by
    cases e : commandOf code == some .groupAction with
    | false => rfl
    | true => rw [beq_iff_eq.1 e] at plain; cases plain
  have taken := takesRecord_of_judged row wf h judged (clearsSequence_plain plain) group (closesStream_plain plain)
  rwa [Bool.or_false, flagIf_tagsPresent] at taken

/-- A plain command that is allowed is judged by its own tests. -/
theorem takesPlainly_of_command {i : Instr} {s : State} {f : FrameCtx} {code : Byte} {b : RecordBody} {c : Command}
    {j : Judgement} (row : rowRecord i = some (code, b)) (wf : i.wf = true) (hc : commandOf code = some c)
    (plain : plainCommand (some c) = true) (h : TakenHere s f code b) (allowed : allowedNow s f.phase c = true)
    (judged : judgeCommand s c b = j) : TakesPlainly i s f code b j.flags j.cmd :=
  takesPlainly_of_judged row wf h (by rw [hc]; exact plain) ((judge_of_takenHere h hc allowed).trans judged)

/-- A plain record that its phase or state does not allow, or without a command, is answered UNKNOWN. -/
theorem takesPlainly_unknown {i : Instr} {s : State} {f : FrameCtx} {code : Byte} {b : RecordBody}
    (row : rowRecord i = some (code, b)) (wf : i.wf = true) (h : TakenHere s f code b)
    (plain : plainCommand (commandOf code) = true)
    (bad : ∀ c, commandOf code = some c → allowedNow s f.phase c = false) :
    TakesPlainly i s f code b 0x04 .notExecuted :=
  takesPlainly_of_judged row wf h plain (judge_refused h bad)

/-! ## UNKNOWN (R133, R154, R157, R159, R172) -/

theorem anyChan_iff (s : State) (p : ChState → Bool) : anyChan s p = true ↔ ∃ c, p (s.chan c).state = true := by
  unfold anyChan
  exact any_allChans

theorem atRest_iff (x : ChState) : atRest x = true ↔ x = .off ∨ x = .ready ∨ x = .fault := by
  cases x <;> simp [atRest]

theorem capturing_iff (c : CaptureState) : capturing c = true ↔ c = .pre ∨ c = .armed ∨ c = .post := by
  cases c <;> simp [capturing]

theorem capturing_eq_false_iff (c : CaptureState) : capturing c = false ↔ c = .idle ∨ c = .done := by
  cases c <;> simp [capturing]

theorem leave_allowed {s : State} {f : FrameCtx} (phase : f.phase = .operational)
    (rest : ∀ c, atRest (s.chan c).state = true) : allowedNow s f.phase .leaveOperational = true := by
  have none : anyChan s (fun x => !atRest x) = false := by
    rw [Bool.eq_false_iff, ne_eq, anyChan_iff]
    rintro ⟨c, h⟩
    rw [rest c] at h
    cases h
  simp [allowedNow, phase, none]

theorem leave_forbidden {s : State} {f : FrameCtx}
    (h : f.phase = .config ∨ ∃ c, (s.chan c).state ≠ .off ∧ (s.chan c).state ≠ .ready ∧ (s.chan c).state ≠ .fault) :
    allowedNow s f.phase .leaveOperational = false := by
  rcases h with config | ⟨c, off, ready, fault⟩
  · simp [allowedNow, config]
  · have moving : anyChan s (fun x => !atRest x) = true := by
      refine (anyChan_iff s _).2 ⟨c, ?_⟩
      rw [Bool.not_eq_true', Bool.eq_false_iff, ne_eq, atRest_iff]
      rintro (e | e | e) <;> contradiction
    simp [allowedNow, moving]

theorem trace_forbidden {s : State} {f : FrameCtx}
    (h : s.trace.capture = .pre ∨ s.trace.capture = .armed ∨ s.trace.capture = .post) :
    allowedNow s f.phase .traceArm = false := by
  show (!capturing s.trace.capture) = false
  rw [(capturing_iff _).2 h]
  rfl

theorem trace_allowed {s : State} {f : FrameCtx} (h : s.trace.capture = .idle ∨ s.trace.capture = .done) :
    allowedNow s f.phase .traceArm = true := by
  show (!capturing s.trace.capture) = true
  rw [(capturing_eq_false_iff _).2 h]
  rfl

/-- Settles O38. -/
theorem unknownAndForbiddenCommandsAreRefused : Obligations.UnknownAndForbiddenCommandsAreRefused := by
  unfold Obligations.UnknownAndForbiddenCommandsAreRefused
  refine fun s f b => ⟨fun code here unknown => ?_, fun here phase => ?_, fun here bad => ?_, fun here bad => ?_⟩
  · have none := commandOf_eq_none unknown
    refine takesPlainly_unknown rfl ?_ here (by rw [none]; rfl) (by rw [none]; nofun)
    show (commandOf code).isNone = true
    rw [none]
    rfl
  · refine takesPlainly_unknown rfl rfl here rfl ?_
    rintro c ⟨⟩
    simp [allowedNow, phase]
  · refine takesPlainly_unknown rfl rfl here rfl ?_
    rintro c ⟨⟩
    exact leave_forbidden bad
  · refine takesPlainly_unknown rfl rfl here rfl ?_
    rintro c ⟨⟩
    exact trace_forbidden bad

/-! ## Read records (R168) -/

theorem takesContinue {i : Instr} {s : State} {f : FrameCtx} {code : Byte} {b : RecordBody} {c : Command}
    {j : Judgement} (row : rowRecord i = some (code, b)) (wf : i.wf = true) (hc : commandOf code = some c)
    (isContinue : c = .writeContinue ∨ c = .readContinue) (h : TakenHere s f code b)
    (judged : judgeCommand s c b = j) :
    TakesRecord i s f code b (j.flags ||| seqFlag s) (answeredWith j.cmd (tagsPresent s)) (!ownContinue s (some c)) := by
  have judged : judge s f.phase false code b = j :=
    (judge_of_takenHere h hc (by rcases isContinue with rfl | rfl <;> rfl)).trans judged
  have seq : clearsSequence s code = tagsPresent s := by
    unfold clearsSequence; rw [hc]; rcases isContinue with rfl | rfl <;> rfl
  have group : (commandOf code == some .groupAction) = false := by
    rw [hc]; rcases isContinue with rfl | rfl <;> rfl
  have closes : closesStream s code = !ownContinue s (some c) :=
    closesStream_of_command hc (by rcases isContinue with rfl | rfl <;> nofun)
      (by rcases isContinue with rfl | rfl <;> nofun)
  have taken := takesRecord_of_judged row wf h judged seq group closes
  rwa [Bool.or_false, flagIf_tagsPresent] at taken

theorem ownContinue_read {s : State} {p : Nat} (h : s.service.stream = some ⟨.read, p⟩) :
    ownContinue s (some .readContinue) = true := by unfold ownContinue; rw [h]

theorem ownContinue_not_read {s : State} (h : ∀ p, s.service.stream ≠ some ⟨.read, p⟩) :
    ownContinue s (some .readContinue) = false := by
  unfold ownContinue
  cases e : s.service.stream with
  | none => rfl
  | some st =>
    obtain ⟨dir, p⟩ := st
    cases dir with
    | read => exact absurd e (h p)
    | write => rfl

theorem ownContinue_write {s : State} {p : Nat} (h : s.service.stream = some ⟨.write, p⟩) :
    ownContinue s (some .writeContinue) = true := by unfold ownContinue; rw [h]

theorem ownContinue_not_write {s : State} (h : ∀ p, s.service.stream ≠ some ⟨.write, p⟩) :
    ownContinue s (some .writeContinue) = false := by
  unfold ownContinue
  cases e : s.service.stream with
  | none => rfl
  | some st =>
    obtain ⟨dir, p⟩ := st
    cases dir with
    | write => exact absurd e (h p)
    | read => rfl

theorem judgeReadStart_of_window {s : State} {w : Window} (hw : s.service.window = some w) (b : RecordBody) :
    judgeReadStart s b = if argumentOf b < 1 ∨ 8 < argumentOf b then refuse flagRange
      else if w.table = .traceData ∧ capturing s.trace.capture then refuse flagBusy
      else accept (.read true (argumentOf b)) := by unfold judgeReadStart; rw [hw]

theorem judgeReadContinue_of_stream {s : State} {p : Nat} (h : s.service.stream = some ⟨.read, p⟩) (b : RecordBody) :
    judgeReadContinue s b = if argumentOf b < 1 ∨ 8 < argumentOf b then refuse flagRange
      else accept (.read false (argumentOf b)) := by unfold judgeReadContinue; rw [h]

theorem judgeReadContinue_of_none {s : State} (h : ∀ p, s.service.stream ≠ some ⟨.read, p⟩) (b : RecordBody) :
    judgeReadContinue s b = refuse flagSeqFault := by
  unfold judgeReadContinue
  cases e : s.service.stream with
  | none => rfl
  | some st =>
    obtain ⟨dir, p⟩ := st
    cases dir with
    | read => exact absurd e (h p)
    | write => rfl

/-- Settles O46. -/
theorem readRecordsAreJudged : Obligations.ReadRecordsAreJudged := by
  unfold Obligations.ReadRecordsAreJudged
  rintro s f b n rfl
  have start {j : Judgement} (here : TakenHere s f 0x13 b) (judged : judgeReadStart s b = j) :
      TakesPlainly (.readStart b) s f 0x13 b j.flags j.cmd :=
    takesPlainly_of_command (c := .readStart) rfl rfl rfl rfl here rfl judged
  have next {j : Judgement} (here : TakenHere s f 0x14 b) (judged : judgeReadContinue s b = j) :=
    takesContinue (i := .readContinue b) (c := .readContinue) rfl rfl rfl (.inr rfl) here judged
  refine ⟨fun here => ⟨fun none => start here (j := refuse flagSeqFault) ?_, fun w hw => ?_⟩,
    fun here => ⟨fun none => ?_, fun p hp => ?_⟩⟩
  · unfold judgeReadStart; rw [none]
  · have judged := judgeReadStart_of_window hw b
    refine ⟨fun out => start here (judged.trans (if_pos out)), fun low high trace running => ?_, fun low high free => ?_⟩
    · rw [if_neg (by unfold argumentOf; omega), if_pos ⟨trace, (capturing_iff _).2 running⟩] at judged
      exact start here judged
    · rw [if_neg (by unfold argumentOf; omega), if_neg] at judged
      · exact start here judged
      · rintro ⟨trace, running⟩
        rcases free with other | still
        · exact other trace
        · rw [(capturing_eq_false_iff _).2 still] at running; cases running
  · have taken := next here (judgeReadContinue_of_none none b)
    rw [ownContinue_not_read none] at taken
    exact taken
  · have judged := judgeReadContinue_of_stream hp b
    refine ⟨fun out => ?_, fun low high => ?_⟩
    · have taken := next here (judged.trans (if_pos out))
      rw [ownContinue_read hp] at taken
      exact taken
    · rw [if_neg (by unfold argumentOf; omega)] at judged
      have taken := next here judged
      rw [ownContinue_read hp] at taken
      rw [show (accept (.read false (argumentOf b))).flags ||| seqFlag s = seqFlag s from BitVec.zero_or] at taken
      exact taken

/-! ## Banks, tags and group actions (R96, R101, R102, R162, R163) -/

theorem commitBusy_iff (s : State) :
    commitBusy s = true ↔ s.commit.state = .validating ∨ s.commit.state = .switchPending := by
  unfold commitBusy
  cases s.commit.state <;> simp

theorem commitBusy_eq_false {s : State}
    (h : s.commit.state = .idle ∨ s.commit.state = .doneOk ∨ s.commit.state = .doneRejected) :
    commitBusy s = false := by
  rw [Bool.eq_false_iff, ne_eq, commitBusy_iff]
  rcases h with e | e | e <;> rw [e] <;> rintro (h | h) <;> cases h

/-- Settles O48. -/
theorem bankCommandsWaitForAnIdleCommit : Obligations.BankCommandsWaitForAnIdleCommit := by
  unfold Obligations.BankCommandsWaitForAnIdleCommit
  refine ⟨fun s f b => ⟨fun here => ?_, fun here => ?_⟩, fun s => ⟨?_, ?_⟩⟩
  · have taken := takesPlainly_of_command (i := .commitBank b) (c := .commitBank) rfl rfl rfl rfl here rfl rfl
    refine ⟨fun busy => ?_, fun idle => ?_⟩
    · rw [show judgeCommand s .commitBank b = refuse flagBusy from if_pos ((commitBusy_iff s).2 busy)] at taken
      exact taken
    · rw [show judgeCommand s .commitBank b = accept .commitBank from
        if_neg (by simp [commitBusy_eq_false idle])] at taken
      exact taken
  · have taken := takesPlainly_of_command (i := .copyActiveToStaged b) (c := .copyActiveToStaged) rfl rfl rfl rfl
      here rfl rfl
    refine ⟨fun busy => ?_, fun idle => ?_⟩
    · rw [show judgeCommand s .copyActiveToStaged b = refuse flagBusy from
        if_pos ((commitBusy_iff s).2 busy)] at taken
      exact taken
    · rw [show judgeCommand s .copyActiveToStaged b = accept .copyActiveToStaged from
        if_neg (by simp [commitBusy_eq_false idle])] at taken
      exact taken
  · exact fun _ _ at_ _ g => commits_of_execute at_ g rfl g.settled
  · exact fun _ _ at_ _ g => commits_of_execute at_ g rfl g.settled

theorem chanOf_val (c : Chan) : chanOf c.val = c := by revert c; decide

theorem judgeTag_in {b : RecordBody} {c : Chan} (h : b.argument.toNat = c.val) (cmd : Chan → PendCmd) :
    judgeTag b cmd = accept (cmd c) := by
  unfold judgeTag argumentOf
  rw [h, if_pos c.isLt, chanOf_val]

theorem judgeTag_out {b : RecordBody} (h : 7 < b.argument.toNat) (cmd : Chan → PendCmd) :
    judgeTag b cmd = refuse flagRange := by
  unfold judgeTag argumentOf
  rw [if_neg (by omega)]

/-- TAG_FIRST and TAG_LAST close an open stream and keep the tags. -/
theorem takesTag {i : Instr} {s : State} {f : FrameCtx} {code : Byte} {b : RecordBody} {c : Command} {j : Judgement}
    (row : rowRecord i = some (code, b)) (wf : i.wf = true) (hc : commandOf code = some c)
    (tag : c = .tagFirst ∨ c = .tagLast) (h : TakenHere s f code b) (judged : judgeCommand s c b = j) :
    TakesRecord i s f code b j.flags (answeredWith j.cmd false) true := by
  have judged : judge s f.phase false code b = j :=
    (judge_of_takenHere h hc (by rcases tag with rfl | rfl <;> rfl)).trans judged
  have seq : clearsSequence s code = false := by unfold clearsSequence; rw [hc]; rcases tag with rfl | rfl <;> rfl
  have group : (commandOf code == some .groupAction) = false := by rw [hc]; rcases tag with rfl | rfl <;> rfl
  have closes : closesStream s code = true := by
    rw [closesStream_of_command hc (by rcases tag with rfl | rfl <;> nofun) (by rcases tag with rfl | rfl <;> nofun),
      ownContinue_other (by rcases tag with rfl | rfl <;> nofun) (by rcases tag with rfl | rfl <;> nofun)]
    rfl
  simpa [flagIf] using takesRecord_of_judged row wf h judged seq group closes

/-- Settles O49. -/
theorem tagCommandsSetTheirTag : Obligations.TagCommandsSetTheirTag := by
  unfold Obligations.TagCommandsSetTheirTag
  refine ⟨fun s f b c => ⟨fun here => ⟨fun inside => ?_, fun out => ?_⟩, fun here => ⟨fun inside => ?_, fun out => ?_⟩⟩,
    fun s c => ⟨?_, ?_⟩⟩
  · exact takesTag rfl rfl rfl (.inl rfl) here (judgeTag_in inside .tagFirst)
  · exact takesTag rfl rfl rfl (.inl rfl) here (judgeTag_out out .tagFirst)
  · exact takesTag rfl rfl rfl (.inr rfl) here (judgeTag_in inside .tagLast)
  · exact takesTag rfl rfl rfl (.inr rfl) here (judgeTag_out out .tagLast)
  · exact fun _ _ at_ _ g => commits_of_execute at_ g rfl g.settled
  · exact fun _ _ at_ _ g => commits_of_execute at_ g rfl g.settled

section
variable {s : State} {first last : Chan} (hf : s.service.tagFirst = some first)
  (hl : s.service.tagLast = some last) {b : RecordBody}
include hf hl

theorem judgeGroup_disordered (less : last < first) : judgeGroup s b = refuse flagSeqFault := by
  simp only [judgeGroup, hf, hl, if_pos less]

theorem judgeGroup_action (ordered : first ≤ last) {a : GroupAction} (ha : groupActionOf (argumentOf b) = some a) :
    judgeGroup s b = accept (.groupAction a first last) := by
  simp only [judgeGroup, hf, hl, if_neg (Fin.not_lt.2 ordered), ha]

theorem judgeGroup_no_action (ordered : first ≤ last) (ha : groupActionOf (argumentOf b) = none) :
    judgeGroup s b = refuse flagRange := by
  simp only [judgeGroup, hf, hl, if_neg (Fin.not_lt.2 ordered), ha]

end

theorem groupActionOf_high {n : Nat} (h : 3 < n) : groupActionOf n = none := by
  unfold groupActionOf
  split <;> first | omega | rfl

/-- Settles O50. -/
theorem groupActionsAreJudgedByTheTags : Obligations.GroupActionsAreJudgedByTheTags := by
  unfold Obligations.GroupActionsAreJudgedByTheTags
  intro i a s f b rows here
  have row : rowRecord i = some (0x22, b) ∧ i.wf = true ∧
      (b.argument.toNat ≤ 3 → groupActionOf (argumentOf b) = some a) := by
    rcases rows with ⟨rfl, rfl, own⟩ | ⟨rfl, rfl, own⟩ | ⟨rfl, rfl, own⟩ | ⟨rfl, rfl, own⟩ | ⟨rfl, high⟩
    · exact ⟨rfl, by simp [Instr.wf, groupArgument, argumentOf, own], fun _ => by simp [argumentOf, own, groupActionOf]⟩
    · exact ⟨rfl, by simp [Instr.wf, groupArgument, argumentOf, own], fun _ => by simp [argumentOf, own, groupActionOf]⟩
    · exact ⟨rfl, by simp [Instr.wf, groupArgument, argumentOf, own], fun _ => by simp [argumentOf, own, groupActionOf]⟩
    · exact ⟨rfl, by simp [Instr.wf, groupArgument, argumentOf, own], fun _ => by simp [argumentOf, own, groupActionOf]⟩
    · exact ⟨rfl, by simp [Instr.wf, groupArgument, argumentOf, high], fun low => absurd high (Nat.not_lt.2 low)⟩
  obtain ⟨row, wf, action⟩ := row
  have taken {j : Judgement} (judged : judgeGroup s b = j) :
      TakesRecord i s f 0x22 b j.flags (answeredWith j.cmd true) true := by
    have closes : closesStream s 0x22 = true := by
      rw [closesStream_of_command (c := some .groupAction) rfl (by simp) (by simp),
        ownContinue_other (by simp) (by simp)]
      rfl
    simpa [flagIf] using takesRecord_of_judged row wf here
      ((judge_of_takenHere (c := .groupAction) here rfl rfl).trans judged) (seq := false) (group := true) rfl rfl closes
  refine ⟨fun first last hf hl ordered => ?_, fun unsound => ?_⟩
  · exact ⟨fun low => taken (judgeGroup_action hf hl ordered (action low)),
      fun high => taken (judgeGroup_no_action hf hl ordered (groupActionOf_high high))⟩
  · refine taken (j := refuse flagSeqFault) ?_
    rcases unsound with none | none | ⟨first, last, hf, hl, less⟩
    · unfold judgeGroup; rw [none]
    · unfold judgeGroup; rw [none]; cases s.service.tagFirst <;> rfl
    · exact judgeGroup_disordered hf hl less

/-! ## Corrupt, overlong and foreign records (R153, R154) -/

/-- Settles O35. -/
theorem recordsOfOtherStationsPass : Obligations.RecordsOfOtherStationsPass := by
  unfold Obligations.RecordsOfOtherStationsPass
  intro i s f code b row wf receiving due noBroadcast foreign
  have pass : handling s b = .pass := by
    unfold handling
    rw [if_neg noBroadcast, if_neg]
    rintro ⟨station, straps, replier⟩
    rcases foreign with other | zero | answered
    · exact other station
    · rw [zero] at straps; cases straps
    · exact answered replier
  rw [exec_record row wf]
  unfold receiveRecord
  simp only [receiving, due, pass]
  rfl

theorem checkFails_of_bad {s : State} {code : Byte} {b : RecordBody} (on : s.service.checkMode = true)
    (bad : byteSum (recordBytes code b) ≠ 0) : checkFails s code b = true := by
  unfold checkFails recordSound
  rw [on, beq_eq_false_iff_ne.2 bad]
  rfl

/-- Which commands SEQ_CLEARED is not for (R162). -/
theorem clearsSequence_iff (s : State) (code : Byte) : clearsSequence s code = true ↔
    tagsPresent s = true ∧ code ∉ [0x00, 0x01, 0x20, 0x21, (0x22 : Byte)] := by
  by_cases listed : code ∈ [0x00, 0x01, 0x20, 0x21, (0x22 : Byte)]
  · have kept : clearsSequence s code = false := by
      simp only [List.mem_cons, List.not_mem_nil, or_false] at listed
      rcases listed with rfl | rfl | rfl | rfl | rfl <;> rfl
    rw [kept]
    exact iff_of_false nofun fun h => h.2 listed
  · have ne {c : Command} (h : codeOf c ∈ [0x00, 0x01, 0x20, 0x21, (0x22 : Byte)]) : commandOf code ≠ some c := by
      intro e; rw [commandOf_eq_some_iff] at e; exact listed (e ▸ h)
    have clears : clearsSequence s code = tagsPresent s := by
      unfold clearsSequence
      split
      · next e => exact absurd e (ne (by decide))
      · next e => exact absurd e (ne (by decide))
      · next e => exact absurd e (ne (by decide))
      · next e => exact absurd e (ne (by decide))
      · next e => exact absurd e (ne (by decide))
      · rfl
    rw [clears]
    exact (and_iff_left listed).symm

/-- Which commands leave an open stream (R169). -/
theorem closesStream_iff (s : State) (code : Byte) : closesStream s code = true ↔
    code ∉ [0x00, (0x01 : Byte)] ∧ ¬ (code = 0x12 ∧ ∃ p, s.service.stream = some ⟨.write, p⟩) ∧
      ¬ (code = 0x14 ∧ ∃ p, s.service.stream = some ⟨.read, p⟩) := by
  by_cases still : code ∈ [0x00, (0x01 : Byte)]
  · have kept : closesStream s code = false := by
      simp only [List.mem_cons, List.not_mem_nil, or_false] at still
      rcases still with rfl | rfl <;> rfl
    rw [kept]
    exact iff_of_false nofun fun h => h.1 still
  have ne {c : Command} (h : code ≠ codeOf c) : commandOf code ≠ some c := fun e => h (commandOf_eq_some_iff.1 e)
  have nop : code ≠ 0x00 := by rintro rfl; exact still (by decide)
  have status : code ≠ 0x01 := by rintro rfl; exact still (by decide)
  rw [closesStream_of_command rfl (ne nop) (ne status), and_iff_right still, Bool.not_eq_true']
  by_cases write : code = 0x12
  · subst write
    by_cases own : ∃ p, s.service.stream = some ⟨.write, p⟩
    · obtain ⟨p, hp⟩ := own
      rw [show ownContinue s (commandOf 0x12) = true from ownContinue_write hp]
      exact iff_of_false nofun fun h => h.1 ⟨rfl, p, hp⟩
    · rw [show ownContinue s (commandOf 0x12) = false from ownContinue_not_write (not_exists.1 own)]
      exact iff_of_true rfl ⟨fun h => own h.2, fun h => absurd h.1 (by decide)⟩
  by_cases read : code = 0x14
  · subst read
    by_cases own : ∃ p, s.service.stream = some ⟨.read, p⟩
    · obtain ⟨p, hp⟩ := own
      rw [show ownContinue s (commandOf 0x14) = true from ownContinue_read hp]
      exact iff_of_false nofun fun h => h.2 ⟨rfl, p, hp⟩
    · rw [show ownContinue s (commandOf 0x14) = false from ownContinue_not_read (not_exists.1 own)]
      exact iff_of_true rfl ⟨fun h => write h.1, fun h => own h.2⟩
  rw [ownContinue_other (ne write) (ne read)]
  exact iff_of_true rfl ⟨fun h => write h.1, fun h => read h.1⟩

/-! ## The commit of a record that came in a SERVICE frame (R122, R155) -/

/-- The state in which the command of a record is executed: frame and record are counted, the tags cleared. -/
def atCommit (s : State) (f : FrameCtx) (at_ : Nat) (r : TakenRecord) : State :=
  let t := afterService s f at_ r.clearTags s.service.result
  { t with counters := { t.counters with
      checkFails := if r.answered && r.checkFail then bump s.counters.checkFails else s.counters.checkFails } }

theorem endOfReception_record {s : State} {f : FrameCtx} {h : Header} {r : TakenRecord} (at_ : Nat)
    (g : GoodFrame s f h) (service : f.kind = .service) (taken : f.taken = some r) :
    exec (.endOfReception at_ []) s = .next (resume (keepResult r (executeCmd r.cmd (atCommit s f at_ r)))) := by
  rw [endOfReception_good at_ g]
  have timer (u : State) : commitTimer f u = u := if_neg (by rw [service]; decide)
  have operational : cycleOperational f = false := by unfold cycleOperational; rw [service]; rfl
  have slots (u : State) : commitSlotEngine f u = u := if_neg (by simp [operational])
  have short (u : State) : isShort u f = false := by unfold isShort; rw [g.header]; simp [operational]
  unfold commitFrame
  rw [timer, slots]
  unfold commitService commitCounters commitRecord
  rw [taken, short]
  congr 4
  unfold closeReception
  rw [verdictOf_good g]
  cases hc : r.clearTags <;>
    simp [atCommit, afterService, clearTags, countCommit, State.withService, State.withCounters, State.withPort,
      State.withNow, hc]

theorem commits_of_executeRecord {s : State} {f : FrameCtx} {h : Header} {r : TakenRecord} {at_ : Nat}
    (g : GoodFrame s f h) (service : f.kind = .service) (taken : f.taken = some r) {t : State} {ws : List Word}
    (executed : executeCmd r.cmd (atCommit s f at_ r) = ⟨t, ws⟩) (settled : t.moment = none) :
    exec (.endOfReception at_ []) s =
      .next (if r.answered then { t with service := { t.service with result := ws } } else t) := by
  rw [endOfReception_record at_ g service taken, executed]
  unfold keepResult
  split
  · exact congrArg _ (resume_of_none settled)
  · exact congrArg _ (resume_of_none settled)

/-- Settles O34. -/
theorem corruptAndOverlongRecordsAreRefused : Obligations.CorruptAndOverlongRecordsAreRefused := by
  unfold Obligations.CorruptAndOverlongRecordsAreRefused
  refine ⟨fun i s f code b row wf here => ⟨fun on bad => ?_, fun check long seq clears closes hseq hclears hcloses => ?_⟩,
    fun s f h at_ t g service taken ht => ?_⟩
  · have taken := answer_taken (exec_record row wf s) here
    have fails := checkFails_of_bad on bad
    have judged : judge s f.phase false code b = refuse flagCheckFail := by
      unfold judge; rw [if_pos fails]
    have entered : answerTaken s f.phase code b = ⟨true, true, .notExecuted, false⟩ := by
      unfold answerTaken; rw [fails, judged]; rfl
    rwa [fails, judged, entered, Bool.not_true, Bool.false_and, Bool.false_and,
      show (refuse flagCheckFail).flags ||| flagIf false flagSeqCleared = 0x08 from rfl] at taken
  · have taken := answer_taken (exec_record row wf s) here
    have sound : checkFails s code b = false := checkFails_eq_false check
    have judged : judge s f.phase false code b = refuse flagRange := by
      unfold judge; rw [if_neg (by simp [sound]), if_pos long]
    have seqIs : clearsSequence s code = seq := by rw [Bool.eq_iff_iff, hseq, clearsSequence_iff]
    have closesIs : closesStream s code = closes := by rw [Bool.eq_iff_iff, hcloses, closesStream_iff]
    have clearsIs : (seq || commandOf code == some .groupAction) = clears := by
      rw [Bool.eq_iff_iff, hclears, Bool.or_eq_true, beq_iff_eq, commandOf_eq_some_iff]
      rfl
    have entered : answerTaken s f.phase code b = answeredWith .notExecuted clears := by
      unfold answerTaken answeredWith
      rw [sound, judged, seqIs, ← clearsIs]
      rfl
    rwa [sound, judged, entered, closesIs, seqIs, Bool.not_false, Bool.true_and, Bool.true_and] at taken
  · subst ht
    rw [commits_of_executeRecord g service taken (t := atCommit s f at_ ⟨true, true, .notExecuted, false⟩) (ws := []) rfl
      g.settled]
    rfl

end Sys2Proof.Machine
end

section
/-! The commits of records whose command needs no rule of its own, the two checks of GO_OPERATIONAL, the phases, the
trace commands, and broadcasts (R105, R138, R155 to R163, R172, R177). -/

namespace Sys2Proof.Machine

open Sys2Proof Relation

/-! ## Records without a test of their own (R157, R161) -/

/-- NOP and GET_STATUS close no stream and clear no tag. -/
theorem takesQuietly {i : Instr} {s : State} {f : FrameCtx} {code : Byte} {b : RecordBody} {c : Command}
    (row : rowRecord i = some (code, b)) (wf : i.wf = true) (hc : commandOf code = some c)
    (quiet : c = .nop ∨ c = .getStatus) (h : TakenHere s f code b) :
    TakesRecord i s f code b (judgeCommand s c b).flags (answeredWith (judgeCommand s c b).cmd false) false := by
  have judged := judge_of_takenHere h hc (by rcases quiet with rfl | rfl <;> rfl)
  have seq : clearsSequence s code = false := by unfold clearsSequence; rw [hc]; rcases quiet with rfl | rfl <;> rfl
  have group : (commandOf code == some .groupAction) = false := by rw [hc]; rcases quiet with rfl | rfl <;> rfl
  have closes : closesStream s code = false := by unfold closesStream; rw [hc]; rcases quiet with rfl | rfl <;> rfl
  simpa [flagIf] using takesRecord_of_judged row wf h judged seq group closes

theorem judgeSetCheck_range {b : RecordBody} (h : 1 < b.argument.toNat) : judgeSetCheck b = refuse flagRange := by
  unfold judgeSetCheck argumentOf
  split
  · next e => omega
  · next e => omega
  · rfl

theorem judgeSetCheck_off {b : RecordBody} (h : b.argument = 0) : judgeSetCheck b = accept (.setCheck false) := by
  unfold judgeSetCheck argumentOf; rw [h]; rfl

theorem judgeSetCheck_on {b : RecordBody} (h : b.argument = 1) : judgeSetCheck b = accept (.setCheck true) := by
  unfold judgeSetCheck argumentOf; rw [h]; rfl

theorem word_ofNat (n : Nat) : word n = BitVec.ofNat 16 n := BitVec.ofInt_natCast 16 n

/-- Settles O37. -/
theorem plainRecordsAreTakenAndFormTheirResults : Obligations.PlainRecordsAreTakenAndFormTheirResults := by
  unfold Obligations.PlainRecordsAreTakenAndFormTheirResults
  refine ⟨fun s f b => ⟨takesQuietly (c := .nop) rfl rfl rfl (.inl rfl),
      takesQuietly (c := .getStatus) rfl rfl rfl (.inr rfl), fun here => ⟨fun off => ?_, fun on => ?_, fun high => ?_⟩,
      fun here => ?_, fun here => ?_, fun here => ?_, fun here => ?_⟩,
    fun s => ⟨fun _ _ at_ _ g => commits_of_execute at_ g rfl g.settled,
      fun _ _ at_ _ g => commits_of_execute at_ g rfl g.settled,
      fun _ _ at_ _ g => commits_of_execute at_ g rfl g.settled,
      fun _ _ _ at_ _ g => commits_of_execute at_ g rfl g.settled,
      statusResult s, fun _ _ at_ _ g => commits_of_execute at_ g rfl g.settled, rfl, ?_⟩⟩
  · exact takesPlainly_of_command (c := .setCheck) rfl rfl rfl rfl here rfl (judgeSetCheck_off off)
  · exact takesPlainly_of_command (c := .setCheck) rfl rfl rfl rfl here rfl (judgeSetCheck_on on)
  · exact takesPlainly_of_command (c := .setCheck) rfl rfl rfl rfl here rfl (judgeSetCheck_range high)
  · exact takesPlainly_of_command (c := .resetStation) rfl rfl rfl rfl here rfl rfl
  · exact takesPlainly_of_command (c := .stopStream) rfl rfl rfl rfl here rfl rfl
  · exact takesPlainly_of_command (c := .traceStop) rfl rfl rfl rfl here rfl rfl
  · exact takesPlainly_of_command (c := .traceTrigger) rfl rfl rfl rfl here rfl rfl
  · have stream : (statusResult s).getD 5 0 = word (streamCode s.service.stream) := rfl
    refine ⟨?_, ?_, ?_, word_ofNat _, word_ofNat _, fun h => ?_, fun p h => ?_, fun p h => ?_, ?_, word_ofNat _⟩
    · show word (phaseCode s.phase) = _
      cases s.phase <;> rfl
    · show wordOfBool s.service.checkMode = _
      cases s.service.checkMode <;> rfl
    · show word (commitCode s.commit.state) = _
      cases s.commit.state <;> rfl
    · rw [stream, h]; rfl
    · rw [stream, h]; rfl
    · rw [stream, h]; rfl
    · show word (closureCode s.service.closure) = _
      cases s.service.closure <;> rfl

/-! ## The slot map validation (R138) -/

/-- The first reason for which entry `i` fails. -/
def reasonAt (s : State) (i : Fin 48) : Option Nat :=
  entryReason s.station (s.slotMap.toList.take i.val).reverse s.slotMap[i]

theorem any_lower {s : State} {i : Fin 48} {p : SlotEntry → Bool} :
    (s.slotMap.toList.take i.val).reverse.any p = true ↔ ∃ j, j < i ∧ p s.slotMap[j] = true := by
  rw [List.any_reverse, List.any_eq_true]
  constructor
  · rintro ⟨e, mem, he⟩
    obtain ⟨k, hk, rfl⟩ := List.getElem_of_mem mem
    rw [List.length_take, Vector.length_toList] at hk
    rw [List.getElem_take, Vector.getElem_toList] at he
    exact ⟨⟨k, by omega⟩, Fin.mk_lt_of_lt_val (by omega), he⟩
  · rintro ⟨j, less, hj⟩
    refine ⟨s.slotMap[j], ?_, hj⟩
    have here : j.val < (s.slotMap.toList.take i.val).length := by
      rw [List.length_take, Vector.length_toList]
      have := Fin.lt_def.1 less
      omega
    have same : (s.slotMap.toList.take i.val)[j.val] = s.slotMap[j] := by
      rw [List.getElem_take, Vector.getElem_toList]; rfl
    rw [← same]
    exact List.getElem_mem here

theorem sharesWord_iff (s : State) (i : Fin 48) : (s.slotMap.toList.take i.val).reverse.any
    (fun o => o.valid && slotWord s.station o == slotWord s.station s.slotMap[i]) = true ↔ sharesWord s i := by
  rw [any_lower]
  simp only [Bool.and_eq_true, beq_iff_eq]
  rfl

theorem sharesItem_iff (s : State) (i : Fin 48) :
    (s.slotMap.toList.take i.val).reverse.any (sameConsume s.slotMap[i]) = true ↔
      s.slotMap[i].produce = false ∧ sharesItem s i := by
  rw [any_lower]
  unfold sharesItem sameConsume
  simp only [Bool.and_eq_true, Bool.not_eq_true', beq_iff_eq]
  constructor
  · rintro ⟨j, less, ⟨⟨⟨valid, consume⟩, own⟩, channel⟩, item⟩
    exact ⟨own, j, less, valid, consume, channel, item⟩
  · rintro ⟨own, j, less, valid, consume, channel, item⟩
    exact ⟨j, less, ⟨⟨⟨valid, consume⟩, own⟩, channel⟩, item⟩

/-- The first of four conditions that holds gives its number. -/
theorem firstReason_iff {V A B C D nv a b c d : Prop} [Decidable nv] [Decidable a] [Decidable b] [Decidable c]
    [Decidable d] (hv : nv ↔ ¬ V) (ha : a ↔ A) (hb : b ↔ B) (hc : c ↔ C) (hd : d ↔ D) (r : Nat) :
    (if nv then none else if a then some 1 else if b then some 2 else if c then some 3 else if d then some 4
      else none) = some r ↔
      V ∧ ((r = 1 ∧ A) ∨ (r = 2 ∧ ¬ A ∧ B) ∨ (r = 3 ∧ ¬ A ∧ ¬ B ∧ C) ∨ (r = 4 ∧ ¬ A ∧ ¬ B ∧ ¬ C ∧ D)) := by
  by_cases valid : nv
  · simp [valid, hv.1 valid]
  have holds : V := not_not.1 (mt hv.2 valid)
  rw [if_neg valid]
  by_cases h1 : a
  · simp [h1, ha.1 h1, holds, eq_comm]
  by_cases h2 : b
  · simp [h1, h2, mt ha.2 h1, hb.1 h2, holds, eq_comm]
  by_cases h3 : c
  · simp [h1, h2, h3, mt ha.2 h1, mt hb.2 h2, hc.1 h3, holds, eq_comm]
  by_cases h4 : d
  · simp [h1, h2, h3, h4, mt ha.2 h1, mt hb.2 h2, mt hc.2 h3, hd.1 h4, holds, eq_comm]
  · simp [h1, h2, h3, h4, mt ha.2 h1, mt hb.2 h2, mt hc.2 h3, mt hd.2 h4]

/-- The validation's reason is the one the statements name. -/
theorem reasonAt_eq_some_iff (s : State) (i : Fin 48) (r : Nat) : reasonAt s i = some r ↔ EntryFails s i r := by
  unfold reasonAt entryReason
  refine firstReason_iff ?_ ?_ Iff.rfl (sharesWord_iff s i) (sharesItem_iff s i) r
  · rw [Bool.not_eq_true', Bool.not_eq_true]
  · rw [Bool.and_eq_true, Bool.not_eq_true', decide_eq_true_iff]

/-- The search through the entries stops at the first that fails. -/
theorem validateEntries_spec (st : StationSettings) (l : List SlotEntry) (lower : List SlotEntry) (n : Nat) :
    (validateEntries st lower n l = none ∧
      ∀ k (h : k < l.length), entryReason st ((l.take k).reverse ++ lower) l[k] = none) ∨
    ∃ k r, ∃ h : k < l.length, validateEntries st lower n l = some (n + k, r) ∧
      entryReason st ((l.take k).reverse ++ lower) l[k] = some r ∧
      ∀ j (hj : j < k), entryReason st ((l.take j).reverse ++ lower) l[j] = none := by
  induction l generalizing lower n with
  | nil => exact .inl ⟨rfl, fun k h => absurd h (Nat.not_lt_zero k)⟩
  | cons e l ih =>
    cases first : entryReason st lower e with
    | some r =>
      refine .inr ⟨0, r, Nat.zero_lt_succ _, ?_, first, fun j hj => absurd hj (Nat.not_lt_zero j)⟩
      simp only [validateEntries, first, Nat.add_zero]
    | none =>
      have goes : validateEntries st lower n (e :: l) = validateEntries st (e :: lower) (n + 1) l := by
        simp only [validateEntries, first]
      have shift (j : Nat) : ((e :: l).take (j + 1)).reverse ++ lower = (l.take j).reverse ++ (e :: lower) := by
        rw [List.take_succ_cons, List.reverse_cons, List.append_assoc]; rfl
      rw [goes]
      rcases ih (e :: lower) (n + 1) with ⟨all, each⟩ | ⟨k, r, h, found, here, before⟩
      · refine .inl ⟨all, fun k h => ?_⟩
        cases k with
        | zero => exact first
        | succ k => rw [shift]; exact each k (Nat.lt_of_succ_lt_succ h)
      · refine .inr ⟨k + 1, r, Nat.succ_lt_succ h, ?_, by rw [shift]; exact here, fun j hj => ?_⟩
        · rw [found, Nat.add_assoc, Nat.add_comm 1 k]
        · cases j with
          | zero => exact first
          | succ j => rw [shift]; exact before j (Nat.lt_of_succ_lt_succ hj)

theorem validateSlotMap_spec (s : State) :
    (validateSlotMap s = none ∧ ∀ i, reasonAt s i = none) ∨
      ∃ (i : Fin 48) (r : Nat), validateSlotMap s = some (i.val, r) ∧ reasonAt s i = some r ∧
        ∀ j, j < i → reasonAt s j = none := by
  have length : s.slotMap.toList.length = 48 := Vector.length_toList
  have at_ (k : Nat) (h : k < s.slotMap.toList.length) :
      entryReason s.station ((s.slotMap.toList.take k).reverse ++ []) s.slotMap.toList[k] =
        reasonAt s ⟨k, by omega⟩ := by
    rw [List.append_nil, Vector.getElem_toList]; rfl
  rcases validateEntries_spec s.station s.slotMap.toList [] 0 with ⟨all, each⟩ | ⟨k, r, h, found, here, before⟩
  · refine .inl ⟨all, fun i => ?_⟩
    rw [← each i.val (by omega), at_]
  · refine .inr ⟨⟨k, by omega⟩, r, by rwa [Nat.zero_add] at found, (at_ k h).symm.trans here, fun j hj => ?_⟩
    have less : j.val < k := hj
    rw [← before j.val less, at_]

/-- The slot map passes the validation, or the lowest entry that fails is named with its reason. -/
theorem validateSlotMap_sound {s : State} (h : SlotMapSound s) : validateSlotMap s = none := by
  rcases validateSlotMap_spec s with ⟨none, -⟩ | ⟨i, r, -, fails, -⟩
  · exact none
  · exact absurd ((reasonAt_eq_some_iff s i r).1 fails) (h i r)

theorem validateSlotMap_fails {s : State} {i : Fin 48} {r : Nat} (fails : EntryFails s i r)
    (lower : ∀ j, j < i → ∀ q, ¬ EntryFails s j q) : validateSlotMap s = some (i.val, r) := by
  have here := (reasonAt_eq_some_iff s i r).2 fails
  rcases validateSlotMap_spec s with ⟨-, none⟩ | ⟨k, q, found, reason, before⟩
  · rw [none i] at here; cases here
  · have same : k = i := by
      rcases lt_trichotomy k i with less | same | more
      · exact absurd ((reasonAt_eq_some_iff s k q).1 reason) (lower k less q)
      · exact same
      · rw [before i more] at here; cases here
    subst same
    rw [reason] at here
    cases here
    exact found

theorem validateSlotMap_of_not_sound {s : State} (h : ¬ SlotMapSound s) : ∃ x, validateSlotMap s = some x := by
  rcases validateSlotMap_spec s with ⟨-, all⟩ | ⟨i, r, found, -⟩
  · exact absurd (fun i r fails => by
      have none := all i
      rw [(reasonAt_eq_some_iff s i r).2 fails] at none
      cases none) h
  · exact ⟨_, found⟩

/-! ## The pair check (R105) -/

theorem rolesSound_iff (s : State) (p : Fin 4) : RolesSound s p ↔ (isPair s p || isNoPair s p) = true := by
  simp [RolesSound, isPair, isNoPair]

theorem allPairs_lower (p : Fin 4) : ∃ before later, allPairs = before ++ p :: later ∧ ∀ q ∈ before, q < p := by
  obtain ⟨before, later, split⟩ := List.append_of_mem (show p ∈ allPairs by revert p; decide)
  have rising : (before ++ p :: later).Pairwise (· < ·) := split ▸ (by decide : allPairs.Pairwise (· < ·))
  obtain ⟨-, -, lower⟩ := List.pairwise_append.1 rising
  exact ⟨before, later, split, fun q hq => lower q hq p List.mem_cons_self⟩

theorem mismatch_eq (s : State) (p : Fin 4) : (!isPair s p && !isNoPair s p) = !(isPair s p || isNoPair s p) :=
  (Bool.not_or ..).symm

theorem validatePairs_sound {s : State} (h : ∀ p, RolesSound s p) : validatePairs s = none := by
  unfold validatePairs
  rw [Option.map_eq_none_iff, List.find?_eq_none]
  intro p _
  rw [mismatch_eq, (rolesSound_iff s p).1 (h p)]
  simp

theorem validatePairs_fails {s : State} {p : Fin 4} (fails : ¬ RolesSound s p) (lower : ∀ q, q < p → RolesSound s q) :
    validatePairs s = some p.val := by
  obtain ⟨before, later, split, less⟩ := allPairs_lower p
  have found : allPairs.find? (fun p => !isPair s p && !isNoPair s p) = some p := by
    rw [List.find?_eq_some_iff_append]
    refine ⟨?_, before, later, split, fun q hq => ?_⟩
    · rw [mismatch_eq, Bool.not_eq_true', Bool.eq_false_iff]
      exact mt (rolesSound_iff s p).2 fails
    · rw [mismatch_eq, (rolesSound_iff s q).1 (lower q (less q hq))]
      rfl
  unfold validatePairs
  rw [found]
  rfl

theorem validatePairs_of_not_sound {s : State} (h : ¬ ∀ p, RolesSound s p) : ∃ p, validatePairs s = some p := by
  cases e : validatePairs s with
  | some p => exact ⟨p, rfl⟩
  | none =>
    unfold validatePairs at e
    rw [Option.map_eq_none_iff, List.find?_eq_none] at e
    refine absurd (fun p => (rolesSound_iff s p).2 ?_) h
    have passes := e p (by revert p; decide)
    rw [mismatch_eq, Bool.not_eq_true', Bool.not_eq_false] at passes
    exact passes

/-! ## GO_OPERATIONAL (R158) -/

theorem judgeGo_sound {s : State} (slots : SlotMapSound s) (pairs : ∀ p, RolesSound s p) :
    judgeGoOperational s = accept .goOperational := by
  unfold judgeGoOperational
  rw [validateSlotMap_sound slots, validatePairs_sound pairs]

theorem judgeGo_entry {s : State} {i r : Nat} (h : validateSlotMap s = some (i, r)) :
    judgeGoOperational s = ⟨flagValue, .goRefused 1 i r⟩ := by
  unfold judgeGoOperational; rw [h]

theorem judgeGo_pair {s : State} {p : Nat} (slots : SlotMapSound s) (h : validatePairs s = some p) :
    judgeGoOperational s = ⟨flagValue, .goRefused 2 p 0⟩ := by
  unfold judgeGoOperational; rw [validateSlotMap_sound slots, h]

/-- Settles O39. -/
theorem goOperationalRunsItsTwoChecks : Obligations.GoOperationalRunsItsTwoChecks := by
  unfold Obligations.GoOperationalRunsItsTwoChecks
  refine ⟨fun s f b here phase => ?_, fun s => ⟨fun _ _ at_ _ g => commits_of_execute at_ g rfl g.settled,
    fun k n r => ?_⟩⟩
  · have taken {j : Judgement} (judged : judgeGoOperational s = j) :
        TakesPlainly (.goOperational b) s f 0x03 b j.flags j.cmd :=
      takesPlainly_of_command (c := .goOperational) rfl rfl rfl rfl here (by rw [phase]; rfl) judged
    exact ⟨fun slots pairs => taken (judgeGo_sound slots pairs),
      fun i r fails lower => taken (judgeGo_entry (validateSlotMap_fails fails lower)),
      fun p slots fails lower => taken (judgeGo_pair slots (validatePairs_fails fails lower))⟩
  · rw [← word_ofNat, ← word_ofNat, ← word_ofNat]
    exact fun _ _ at_ _ g => commits_of_execute at_ g rfl g.settled

/-! ## LEAVE_OPERATIONAL and RESET_STATION (R159, R160) -/

/-- The commit of a CYCLE frame that carries an accepted LEAVE_OPERATIONAL hands no control word on. -/
theorem commitFrame_leaving {s : State} {f : FrameCtx} {h : Header} {clears : Bool} (header : f.header = some h)
    (cycle : f.kind = .cycle) (phase : f.phase = .operational)
    (taken : f.taken = some (answeredWith .leaveOperational clears)) :
    ∃ u, commitFrame f s = commitRecord (answeredWith .leaveOperational clears)
        { (takeArrival (stampCycle h.cycleCount.toNat s)) with counters := u } := by
  have count : cycleCountOf f = h.cycleCount.toNat := by unfold cycleCountOf; rw [header]; rfl
  have timer : commitTimer f s = takeArrival (stampCycle h.cycleCount.toNat s) := by
    unfold commitTimer; rw [if_pos cycle, if_pos phase, count]
  have leaves : leaving f = true := by unfold leaving; rw [taken]; rfl
  have slots (u : State) : commitSlotEngine f u = u := if_neg (by simp [leaves])
  unfold commitFrame
  rw [timer, slots]
  unfold commitService
  rw [taken]
  exact ⟨_, rfl⟩

theorem takeArrival_timer (s : State) : takeArrival s = { s with
    timer := timerArrival s.station s.now s.timer, counters := (takeArrival s).counters } := by
  unfold takeArrival
  split <;> rfl

theorem commitRecord_leave (clears : Bool) (s : State) :
    commitRecord (answeredWith .leaveOperational clears) s = { s with
      phase := .config, timer := stopTimer s.timer, pairs := Vector.replicate 4 false,
      latches := Vector.replicate 8 {}, prevControl := Vector.replicate 8 0,
      service := (commitRecord (answeredWith .leaveOperational clears) s).service } := by
  cases clears <;> rfl

/-- Settles O40. -/
theorem leaveOperationalReturnsToConfig : Obligations.LeaveOperationalReturnsToConfig := by
  unfold Obligations.LeaveOperationalReturnsToConfig
  refine ⟨fun s f b here phase rest => ?_, fun s _ _ at_ _ g => commits_of_execute at_ g rfl g.settled,
    fun s f h at_ clears g cycle phase taken => ?_⟩
  · exact takesPlainly_of_command (c := .leaveOperational) rfl rfl rfl rfl here
      (leave_allowed phase fun c => (atRest_iff _).2 (rest c)) rfl
  · rw [endOfReception_good at_ g]
    obtain ⟨k, committed⟩ := commitFrame_leaving (s := closeReception f (s.withNow (max s.now at_))) g.header cycle
      phase taken
    rw [committed, commitRecord_leave, takeArrival_timer]
    refine ⟨_, congrArg _ (resume_of_none g.settled), rfl, rfl, rfl, rfl, rfl, rfl, rfl⟩

/-- Settles O41. -/
theorem stationResetKeepsAddressAndCounters : Obligations.StationResetKeepsAddressAndCounters := by
  unfold Obligations.StationResetKeepsAddressAndCounters
  intro s f h at_ clears g
  have none : (commitResetStation (afterService s f at_ clears s.service.result)).moment = none := by
    show s.moment.map resetMoment = none
    rw [g.settled]; rfl
  refine ⟨_, commits_of_execute at_ g rfl none, fun c => ?_, ?_⟩
  · have off : ((commitResetStation (afterService s f at_ clears s.service.result)).gate c) =
        gateSwitchOff (max s.now at_) (s.gate c) := by simp [State.gate, commitResetStation, afterService]
    exact (gateSwitchOff_switchedOff _ _).of_eq off
  · show ({ commitResetStation (afterService s f at_ clears s.service.result) with service := _ } : State) = _
    unfold commitResetStation at none ⊢
    dsimp only at none ⊢
    rw [none]
    rfl

/-! ## Triggers (R174) -/

theorem traceL_pos (u : TraceUnit) : 0 < traceL u := by unfold traceL captureLength; split <;> decide

theorem offsetBack_eq {l : Nat} (pos : 0 < l) (x y : Nat) : (offsetBack l x y : Int) = ((x : Int) - y) % l := by
  have less : y % l ≤ l := Nat.le_of_lt (Nat.mod_lt y pos)
  have split : (y : Int) = y % l + l * (y / l) := (Int.emod_add_mul_ediv _ _).symm
  unfold offsetBack
  rw [Nat.add_sub_assoc less]
  push_cast [less]
  conv_rhs => rw [split]
  rw [show (x : Int) - (y % l + l * (y / l)) = x + (l - y % l) + l * (-(y / l) - 1) by ring,
    Int.add_mul_emod_self_left]

theorem takeTrigger_armed {u : TraceUnit} (h : u.capture = .armed) : takeTrigger u =
    { u with capture := .post,
             segs := u.segs.set u.seg ⟨u.armedCfg.preCount, offsetBack (traceL u) u.pointer u.armedCfg.preCount⟩ } := by
  unfold takeTrigger
  rw [h]
  rfl

theorem takeTrigger_unarmed {u : TraceUnit} (h : u.capture ≠ .armed) : takeTrigger u = u := by
  unfold takeTrigger
  cases e : u.capture with
  | armed => exact absurd e h
  | idle | pre | post | done => rfl

theorem triggered_takeTrigger {u : TraceUnit} (h : u.capture = .armed) : Triggered u (takeTrigger u) :=
  ⟨_, offsetBack_eq (traceL_pos u) _ _, takeTrigger_armed h⟩

theorem takeTrigger_idem (u : TraceUnit) : takeTrigger (takeTrigger u) = takeTrigger u := by
  by_cases h : u.capture = .armed
  · exact takeTrigger_unarmed (by rw [takeTrigger_armed h]; nofun)
  · rw [takeTrigger_unarmed h, takeTrigger_unarmed h]

theorem faultTrigger_masked {u : TraceUnit} {c : Chan} (source : u.armedCfg.source = 2)
    (mask : u.armedCfg.sourceArg.getLsbD c.val = true) : faultTrigger c u = takeTrigger u := if_pos ⟨source, mask⟩

theorem faultTrigger_unmasked {u : TraceUnit} {c : Chan}
    (h : u.armedCfg.source ≠ 2 ∨ u.armedCfg.sourceArg.getLsbD c.val = false) : faultTrigger c u = u := by
  refine if_neg fun ⟨source, mask⟩ => ?_
  rcases h with other | off
  · exact other source
  · rw [sourceMasks, off] at mask; cases mask

theorem takeTrigger_armedCfg (u : TraceUnit) : (takeTrigger u).armedCfg = u.armedCfg := by
  by_cases h : u.capture = .armed
  · rw [takeTrigger_armed h]
  · rw [takeTrigger_unarmed h]

theorem detectAlone_trace_of_drives {s : State} {c : Chan} (drv : drives (s.chan c).state = true) (k : Cause) :
    (detectAlone c k s).trace = faultTrigger c s.trace := by rw [detectAlone_drives drv]; rfl

theorem detectAlone_trace_of_idle {s : State} {c : Chan} (idle : drives (s.chan c).state = false) (k : Cause) :
    (detectAlone c k s).trace = s.trace := by
  rcases state_cases (s.chan c).state with drv | fault | rest
  · rw [drv] at idle; cases idle
  · rw [detectAlone_fault fault]; rfl
  · rw [detectAlone_rests (resting_not_drives rest) (resting_not_fault rest)]

theorem partnerReact_drives (c d : Chan) (s : State) :
    drives ((partnerReact c s).chan d).state = drives (s.chan d).state :=
  keeps_of_chain (p := fun x : Channel × Gate => drives x.1.state = drives (s.chan d).state)
    (fun r h => by
      cases r with
      | ramped q ch g rOH => exact (drives_of_runOrHold rOH).symm.trans h
      | pended ch g ramp => exact h
      | later ch g f => exact h)
    (partnerReact_reactions c s d) rfl

/-- In a station-wide detection a capture takes the trigger of a masked channel that drives, once, and no other. -/
theorem detectAll_takesTrigger {k : Cause} (hk : StationWide k) {s : State} (settled : s.moment = none) (o : PairOrders)
    (source : s.trace.armedCfg.source = 2) {c : Chan} (drv : drives (s.chan c).state = true)
    (mask : s.trace.armedCfg.sourceArg.getLsbD c.val = true) : (detectAll o k s).trace = takeTrigger s.trace := by
  have reached := detectAll_induct (k := k)
    (P := fun u => u.trace = takeTrigger s.trace ∨ u.trace = s.trace ∧ drives (u.chan c).state = true)
    (fun d u h => ?_) (fun d u h => ?_) settled o (.inr ⟨rfl, drv⟩)
  · refine reached.resolve_right fun ⟨_, still⟩ => ?_
    have detected := detectAll_detected hk o (fun p odd _ => not_rampEndDue_of_none settled _) (c := c)
    rw [(detected.driven drv).1] at still
    cases still
  · cases drives' : drives (u.chan d).state with
    | false =>
      rw [detectAlone_trace_of_idle drives']
      refine h.imp_right fun ⟨same, still⟩ => ⟨same, ?_⟩
      rw [(detectAlone_other k (by rintro rfl; rw [still] at drives'; cases drives')).1]
      exact still
    | true =>
      rw [detectAlone_trace_of_drives drives']
      rcases h with taken | ⟨same, still⟩
      · rw [taken]
        refine .inl ?_
        by_cases m : s.trace.armedCfg.sourceArg.getLsbD d.val = true
        · rw [faultTrigger_masked (by rw [takeTrigger_armedCfg]; exact source) (by rw [takeTrigger_armedCfg]; exact m),
            takeTrigger_idem]
        · exact faultTrigger_unmasked (.inr (by rw [takeTrigger_armedCfg]; simpa using m))
      · rw [same]
        by_cases m : s.trace.armedCfg.sourceArg.getLsbD d.val = true
        · exact .inl (faultTrigger_masked source m)
        · refine .inr ⟨faultTrigger_unmasked (.inr (by simpa using m)), ?_⟩
          rw [(detectAlone_other k (by rintro rfl; exact m mask)).1]
          exact still
  · exact h.imp (partnerReact_moment d u).2.trans fun ⟨same, still⟩ =>
      ⟨(partnerReact_moment d u).2.trans same, (partnerReact_drives d c u).trans still⟩

/-- Without a masked channel that drives the Trace Unit stays. -/
theorem detectAll_untriggered {k : Cause} {s : State} (settled : s.moment = none) (o : PairOrders)
    (untriggered : ∀ c, drives (s.chan c).state = true → faultTrigger c s.trace = s.trace) :
    (detectAll o k s).trace = s.trace := by
  refine (detectAll_induct (k := k)
    (P := fun u => u.trace = s.trace ∧ ∀ d, drives (u.chan d).state = true → drives (s.chan d).state = true)
    (fun d u h => ?_) (fun d u h => ?_) settled o ⟨rfl, fun _ => id⟩).1
  · obtain ⟨same, drv⟩ := h
    refine ⟨?_, fun e he => ?_⟩
    · cases drives' : drives (u.chan d).state with
      | false => exact (detectAlone_trace_of_idle drives' k).trans same
      | true =>
        rw [detectAlone_trace_of_drives drives', same]
        exact untriggered d (drv d drives')
    · by_cases e' : e = d
      · subst e'
        rcases state_cases (u.chan e).state with driving | fault | rest
        · exact drv e driving
        · rw [detectAlone_fault fault, State.modChan_chan_same] at he
          exact drv e he
        · rw [detectAlone_rests (resting_not_drives rest) (resting_not_fault rest)] at he
          exact drv e he
      · rw [(detectAlone_other k e').1] at he
        exact drv e he
  · obtain ⟨same, drv⟩ := h
    exact ⟨(partnerReact_moment d u).2.trans same, fun e he => drv e ((partnerReact_drives d e u).symm.trans he)⟩

theorem stopTrace_eq (u : TraceUnit) :
    stopTrace u = { u with capture := if u.capture = .idle then .idle else .done } := by
  unfold stopTrace
  cases h : u.capture with
  | idle | done => cases u; cases h; rfl
  | pre | armed | post => rfl

/-- Settles O53. -/
theorem traceCommandsMoveTheCapture : Obligations.TraceCommandsMoveTheCapture := by
  unfold Obligations.TraceCommandsMoveTheCapture
  refine ⟨fun s f b here free => takesPlainly_of_command (c := .traceArm) rfl rfl rfl rfl here (trace_allowed free) rfl,
    fun s => ⟨fun _ _ at_ _ g => commits_of_execute at_ g rfl g.settled, ?_, fun unarmed => ?_, fun armed _ => ?_⟩,
    fun n o s low settled _ => ⟨_, rfl, ?_⟩⟩
  · rw [show (fun t : State => ({ t with trace := { s.trace with
      capture := if s.trace.capture = .idle then .idle else .done } } : State)) =
        fun t => { t with trace := stopTrace s.trace } by rw [stopTrace_eq]]
    exact fun _ _ at_ _ g => commits_of_execute at_ g rfl g.settled
  · intro f h at_ clears g
    have executed : executeCmd .traceTrigger (afterService s f at_ clears s.service.result) =
        ⟨afterService s f at_ clears s.service.result, []⟩ := by
      show plainly ((afterService s f at_ clears s.service.result).withTrace (takeTrigger s.trace)) = _
      rw [takeTrigger_unarmed unarmed]
      rfl
    exact commits_of_execute at_ g executed g.settled
  · refine ⟨_, offsetBack_eq (traceL_pos s.trace) _ _, fun f h at_ clears g => ?_⟩
    have executed : executeCmd .traceTrigger (afterService s f at_ clears s.service.result) =
        ⟨(afterService s f at_ clears s.service.result).withTrace (takeTrigger s.trace), []⟩ := rfl
    rw [takeTrigger_armed armed] at executed
    exact commits_of_execute at_ g executed g.settled
  · show (_ → _ → _ → Triggered s.trace (assertInhibit n o s).trace) ∧ (_ → (assertInhibit n o s).trace = s.trace)
    rw [assertInhibit_of_none n o low settled]
    generalize hu : ({ s with now := max s.now n, inhnLow := true }.mapGates (gateInhibit (max s.now n)) : State) = u
    have chan (c : Chan) : u.chan c = s.chan c := by rw [← hu]; rfl
    have none : u.moment = none := by rw [← hu]; exact settled
    have trace : u.trace = s.trace := by rw [← hu]; rfl
    rw [← trace]
    refine ⟨fun armed source ⟨c, drv, mask⟩ => ?_, fun out => ?_⟩
    · rw [detectAll_takesTrigger (.inr (.inr rfl)) none o source (by rw [chan]; exact drv) mask]
      exact triggered_takeTrigger armed
    · refine detectAll_untriggered none o fun c drv => ?_
      rcases out with unarmed | other | unmasked
      · exact faultTrigger_unarmed unarmed c
      · exact faultTrigger_unmasked (.inl other)
      · exact faultTrigger_unmasked (.inr (unmasked c (by rw [← chan]; exact drv)))

/-! ## Broadcasts (R156) -/

theorem broadcast_received {i : Instr} {s : State} {f : FrameCtx} {code : Byte} {b : RecordBody}
    (row : rowRecord i = some (code, b)) (wf : i.wf = true) (h : BroadcastHere s f b) :
    exec i s = .next (broadcastRecord code b f s) := by
  have here : handling s b = .broadcast := by
    unfold handling
    rw [if_pos h.station, if_pos (by exact h.clean)]
  rw [exec_record row wf]
  unfold receiveRecord
  simp only [h.receiving, h.due, here]

theorem broadcast_recordTaken {i : Instr} {s : State} {f : FrameCtx} {code : Byte} {b : RecordBody}
    (row : rowRecord i = some (code, b)) (wf : i.wf = true) (h : BroadcastHere s f b) :
    RecordTaken i s f code b (broadcastBody code (broadcastFlags s f.phase code b) b)
      (broadcastTaken s f.phase code b) (broadcastActs s f.phase code b) := by
  unfold RecordTaken
  rw [broadcast_received row wf h]
  unfold broadcastRecord closeIf
  cases broadcastActs s f.phase code b with
  | false => rfl
  | true => rw [if_pos rfl, if_pos rfl, closeStream_command]; rfl

/-- A broadcast is taken with the flags of its judgement, and leaves with them ORed in. -/
theorem takesBroadcast_of_here {i : Instr} {s : State} {f : FrameCtx} {code : Byte} {b : RecordBody}
    (row : rowRecord i = some (code, b)) (wf : i.wf = true) (h : BroadcastHere s f b) :
    TakesBroadcast i s f code b
      ((judge s f.phase true code b).flags
        ||| flagIf (broadcastActs s f.phase code b && tagsPresent s) flagSeqCleared)
      (broadcastTaken s f.phase code b) (broadcastActs s f.phase code b) := by
  have startup : startupFlag f.phase = if f.phase = .config then 0x01 else 0 := by
    unfold startupFlag flagIf flagStartup
    cases f.phase <;> rfl
  have flags : b.flags ||| broadcastFlags s f.phase code b =
      b.flags ||| ((judge s f.phase true code b).flags
        ||| flagIf (broadcastActs s f.phase code b && tagsPresent s) flagSeqCleared)
        ||| (if f.phase = .config then 0x01 else 0) := by
    unfold broadcastFlags
    rw [startup, BitVec.or_assoc, BitVec.or_assoc, BitVec.or_assoc, BitVec.or_comm (if f.phase = .config then _ else _)]
  have out : broadcastBody code (broadcastFlags s f.phase code b) b =
      { b with flags := b.flags ||| ((judge s f.phase true code b).flags
                ||| flagIf (broadcastActs s f.phase code b && tagsPresent s) flagSeqCleared)
                ||| (if f.phase = .config then 0x01 else 0)
               check := (broadcastBody code (broadcastFlags s f.phase code b) b).check } := by
    rw [← flags]; rfl
  refine ⟨(broadcastBody code (broadcastFlags s f.phase code b) b).check, ?_, ?_⟩
  · rw [← out]; exact byteSum_withCheck code _
  · rw [← out]; exact broadcast_recordTaken row wf h

/-- A broadcast that is refused is taken without an effect. -/
theorem takesBroadcast_refused {i : Instr} {s : State} {f : FrameCtx} {code : Byte} {b : RecordBody} {j : Judgement}
    (row : rowRecord i = some (code, b)) (wf : i.wf = true) (h : BroadcastHere s f b)
    (judged : judge s f.phase true code b = j) (refused : j.flags ≠ 0) :
    TakesBroadcast i s f code b j.flags ⟨false, checkFails s code b, .notExecuted, false⟩ false := by
  have runs : broadcastRuns s f.phase code b = false := by
    unfold broadcastRuns; rw [judged]; exact beq_eq_false_iff_ne.2 refused
  have acts : broadcastActs s f.phase code b = false := by unfold broadcastActs; rw [runs]; rfl
  have entered : broadcastTaken s f.phase code b = ⟨false, checkFails s code b, .notExecuted, false⟩ := by
    unfold broadcastTaken; rw [runs, acts]; rfl
  have taken := takesBroadcast_of_here row wf h
  rwa [judged, acts, entered, Bool.false_and, 
    show j.flags ||| flagIf false flagSeqCleared = j.flags from BitVec.or_zero] at taken

/-- A broadcast that passes steps 1 and 2 of R154 is judged by its command, where it is one of R156 and allowed. -/
theorem judge_broadcast {s : State} {f : FrameCtx} {code : Byte} {b : RecordBody} {c : Command}
    (h : BroadcastSound s f code b) (hc : commandOf code = some c) (listed : broadcastable c = true)
    (allowed : allowedNow s f.phase c = true) : judge s f.phase true code b = judgeCommand s c b := by
  have short : ¬ 8 < b.wordCount.toNat := Nat.not_lt.2 h.words
  unfold judge
  simp [checkFails_eq_false h.check, short, hc, allowed, listed]

theorem judge_broadcast_refused {s : State} {f : FrameCtx} {code : Byte} {b : RecordBody}
    (h : BroadcastSound s f code b)
    (bad : ∀ c, commandOf code = some c → broadcastable c = false ∨ allowedNow s f.phase c = false) :
    judge s f.phase true code b = refuse flagUnknown := by
  unfold judge
  rw [checkFails_eq_false h.check, if_neg (by simp), if_neg (Nat.not_lt.2 h.words)]
  split
  · rfl
  · next c e => rcases bad c e with n | n <;> simp [n]

/-- The station executes a broadcast that its command accepts. -/
theorem broadcastExecuted_of_command {i : Instr} {s : State} {f : FrameCtx} {code : Byte} {b : RecordBody} {c : Command}
    {cmd : PendCmd} (row : rowRecord i = some (code, b)) (wf : i.wf = true) (hc : commandOf code = some c)
    (listed : broadcastable c = true) (acts : c ≠ .nop) (h : BroadcastSound s f code b)
    (allowed : allowedNow s f.phase c = true) (judged : judgeCommand s c b = accept cmd) :
    BroadcastExecuted i s f code b cmd := by
  have judged := (judge_broadcast h hc listed allowed).trans judged
  have runs : broadcastRuns s f.phase code b = true := by unfold broadcastRuns; rw [judged]; rfl
  have acts : broadcastActs s f.phase code b = true := by
    unfold broadcastActs; rw [runs, hc]; simpa using acts
  have entered : broadcastTaken s f.phase code b = ⟨false, false, cmd, tagsPresent s⟩ := by
    unfold broadcastTaken; rw [runs, acts, judged, checkFails_eq_false h.check]; rfl
  have taken := takesBroadcast_of_here row wf h.toBroadcastHere
  rwa [judged, acts, entered, Bool.true_and, flagIf_tagsPresent,
    show (accept cmd).flags ||| seqFlag s = seqFlag s from BitVec.zero_or] at taken

/-- A sound broadcast that is refused, by R156 or by its own tests. -/
theorem takesBroadcast_sound_refused {i : Instr} {s : State} {f : FrameCtx} {code : Byte} {b : RecordBody}
    {j : Judgement} (row : rowRecord i = some (code, b)) (wf : i.wf = true) (h : BroadcastSound s f code b)
    (judged : judge s f.phase true code b = j) (refused : j.flags ≠ 0) :
    TakesBroadcast i s f code b j.flags ⟨false, false, .notExecuted, false⟩ false := by
  have taken := takesBroadcast_refused row wf h.toBroadcastHere judged refused
  rwa [checkFails_eq_false h.check] at taken

theorem broadcastable_code {code : Byte} (h : code ∉ [0x00, 0x02, 0x03, 0x04, 0x30, (0x32 : Byte)]) {c : Command}
    (hc : commandOf code = some c) : broadcastable c = false := by
  rw [commandOf_eq_some_iff] at hc
  subst hc
  cases c with
  | nop | setCheck | goOperational | leaveOperational | traceArm | traceTrigger => exact absurd (by decide) h
  | getStatus | resetStation | setWindow | writeStart | writeContinue | readStart | readContinue | stopStream
  | commitBank | copyActiveToStaged | tagFirst | tagLast | groupAction | traceStop => rfl

/-- The commit of a broadcast, by what its command does to the plain commit state. -/
theorem broadcastCommitsAs_of_execute {s : State} {cmd : PendCmd} {after : State → State}
    (executed : ∀ f at_ clears, ∃ ws, executeCmd cmd (afterService s f at_ clears s.service.result) =
      ⟨after (afterService s f at_ clears s.service.result), ws⟩)
    (keeps : ∀ t, (after t).moment = t.moment) : BroadcastCommitsAs s cmd after := by
  intro f h at_ checkFail clears g service taken
  obtain ⟨ws, executed⟩ := executed f at_ clears
  exact commits_of_executeRecord g service taken executed ((keeps _).trans g.settled)

/-- Settles O36. -/
theorem broadcastsAreJudgedAndNotAnswered : Obligations.BroadcastsAreJudgedAndNotAnswered := by
  unfold Obligations.BroadcastsAreJudgedAndNotAnswered
  refine ⟨fun s f b => ⟨fun h => ?_, fun h => ⟨fun off => ?_, fun on => ?_, fun high => ?_⟩,
      fun h phase slots pairs => ?_, fun h phase unsound => ?_, fun h phase rest => ?_, fun h phase => ?_,
      fun h bad => ?_, fun h bad => ?_, fun h free => ?_, fun h => ?_⟩,
    fun i s f code b row wf => ⟨fun h unlisted => ?_, fun h check long => ?_, fun h on bad => ?_,
      fun receiving due station clean => ?_⟩,
    fun s => ⟨?_, ?_, fun on => ?_, ?_, ?_, ?_, fun unarmed => ?_, fun armed _ => ?_⟩⟩
  · have judged : judge s f.phase true 0x00 b = accept .nop := judge_broadcast (c := .nop) h rfl rfl rfl
    have taken := takesBroadcast_of_here (i := .nop b) (code := 0x00) rfl rfl h.toBroadcastHere
    have acts : broadcastActs s f.phase 0x00 b = false := Bool.and_false _
    have runs : broadcastRuns s f.phase 0x00 b = true := by unfold broadcastRuns; rw [judged]; rfl
    have entered : broadcastTaken s f.phase 0x00 b = ⟨false, false, .nop, false⟩ := by
      unfold broadcastTaken; rw [runs, acts, judged, checkFails_eq_false h.check]; rfl
    rwa [judged, acts, entered, Bool.false_and,
      show (accept .nop).flags ||| flagIf false flagSeqCleared = 0 from rfl] at taken
  · exact broadcastExecuted_of_command (c := .setCheck) rfl rfl rfl rfl nofun h rfl (judgeSetCheck_off off)
  · exact broadcastExecuted_of_command (c := .setCheck) rfl rfl rfl rfl nofun h rfl (judgeSetCheck_on on)
  · have judged : judge s f.phase true 0x02 b = judgeSetCheck b := judge_broadcast (c := .setCheck) h rfl rfl rfl
    rw [judgeSetCheck_range high] at judged
    exact takesBroadcast_sound_refused (j := refuse flagRange) rfl rfl h judged (by decide)
  · exact broadcastExecuted_of_command (c := .goOperational) rfl rfl rfl rfl nofun h (by rw [phase]; rfl)
      (judgeGo_sound slots pairs)
  · have judged := judge_broadcast (c := .goOperational) h rfl rfl (by rw [phase]; rfl)
    by_cases slots : SlotMapSound s
    · obtain ⟨p, hp⟩ := validatePairs_of_not_sound (unsound.resolve_left (not_not.2 slots))
      exact takesBroadcast_sound_refused (j := ⟨flagValue, .goRefused 2 p 0⟩) rfl rfl h
        (judged.trans (judgeGo_pair slots hp)) (show flagValue ≠ 0 by decide)
    · obtain ⟨⟨n, r⟩, hn⟩ := validateSlotMap_of_not_sound slots
      exact takesBroadcast_sound_refused (j := ⟨flagValue, .goRefused 1 n r⟩) rfl rfl h
        (judged.trans (judgeGo_entry hn)) (show flagValue ≠ 0 by decide)
  · exact broadcastExecuted_of_command (c := .leaveOperational) rfl rfl rfl rfl nofun h (leave_allowed phase rest) rfl
  · refine takesBroadcast_sound_refused (j := refuse flagUnknown) rfl rfl h (judge_broadcast_refused h ?_) (by decide)
    rintro c ⟨⟩
    exact .inr (by simp [allowedNow, phase])
  · refine takesBroadcast_sound_refused (j := refuse flagUnknown) rfl rfl h (judge_broadcast_refused h ?_) (by decide)
    rintro c ⟨⟩
    exact .inr (leave_forbidden bad)
  · refine takesBroadcast_sound_refused (j := refuse flagUnknown) rfl rfl h (judge_broadcast_refused h ?_) (by decide)
    rintro c ⟨⟩
    exact .inr (trace_forbidden bad)
  · exact broadcastExecuted_of_command (c := .traceArm) rfl rfl rfl rfl nofun h (trace_allowed free) rfl
  · exact broadcastExecuted_of_command (c := .traceTrigger) rfl rfl rfl rfl nofun h rfl rfl
  · exact takesBroadcast_sound_refused (j := refuse flagUnknown) row wf h
      (judge_broadcast_refused h fun c hc => .inl (broadcastable_code unlisted hc)) (by decide)
  · have sound := checkFails_eq_false check
    have judged : judge s f.phase true code b = refuse flagRange := by
      unfold judge; rw [if_neg (by simp [sound]), if_pos long]
    have taken := takesBroadcast_refused (j := refuse flagRange) row wf h judged (by decide)
    rwa [sound] at taken
  · have fails := checkFails_of_bad on bad
    have judged : judge s f.phase true code b = refuse flagCheckFail := by unfold judge; rw [if_pos fails]
    have taken := takesBroadcast_refused (j := refuse flagCheckFail) row wf h judged (by decide)
    rwa [fails] at taken
  · have pass : handling s b = .pass := by
      unfold handling
      rw [if_pos station, if_neg (by exact clean)]
    rw [exec_record row wf]
    unfold receiveRecord
    simp only [receiving, due, pass]
    rfl
  · exact broadcastCommitsAs_of_execute (fun _ _ _ => ⟨_, rfl⟩) fun _ => rfl
  · exact broadcastCommitsAs_of_execute (fun _ _ _ => ⟨_, rfl⟩) fun _ => rfl
  · exact broadcastCommitsAs_of_execute (fun _ _ _ => ⟨_, rfl⟩) fun _ => rfl
  · exact broadcastCommitsAs_of_execute (fun _ _ _ => ⟨_, rfl⟩) fun _ => rfl
  · exact broadcastCommitsAs_of_execute (fun _ _ _ => ⟨_, rfl⟩) fun _ => rfl
  · exact broadcastCommitsAs_of_execute (fun _ _ _ => ⟨_, rfl⟩) fun _ => rfl
  · refine broadcastCommitsAs_of_execute (fun f at_ clears => ⟨[], ?_⟩) fun _ => rfl
    show plainly ((afterService s f at_ clears s.service.result).withTrace (takeTrigger s.trace)) = _
    rw [takeTrigger_unarmed unarmed]
    rfl
  · exact ⟨_, triggered_takeTrigger armed, broadcastCommitsAs_of_execute (fun _ _ _ => ⟨_, rfl⟩) fun _ => rfl⟩

end Sys2Proof.Machine
end

section
/-! Windows walked by write and read records (R166 to R168), their commits (R155, R167, R170), and what TRACE_DATA
reads (R178). -/

namespace Sys2Proof.Machine

open Sys2Proof Relation

/-! ## Positions of a window -/

theorem windowLength_pos (w : Window) : 0 < windowLength w :=
  Nat.mul_pos (Nat.succ_pos _) (Nat.succ_pos _)

/-- The place a position stands for: at N, WRAP goes back to 0. -/
theorem place_eq {w : Window} {p : Nat} (h : p ≤ windowLength w) :
    (if windowLength w ≤ p ∧ w.wrap = true then 0 else p) = streamPos w p 0 := by
  have pos := windowLength_pos w
  unfold streamPos
  rw [Nat.add_zero]
  cases w.wrap with
  | false => simp
  | true =>
    rcases Nat.lt_or_eq_of_le h with less | same
    · rw [if_neg (by omega), if_pos rfl, Nat.mod_eq_of_lt less]
    · rw [if_pos ⟨same.ge, rfl⟩, if_pos rfl, same, Nat.mod_self]

/-- From the place after a position the walk goes on one place later. -/
theorem streamPos_next {w : Window} (p k : Nat) : streamPos w (streamPos w p 0 + 1) k = streamPos w p (k + 1) := by
  unfold streamPos
  cases w.wrap with
  | false => simp only [Bool.false_eq_true, if_false]; omega
  | true =>
    simp only [if_true, Nat.add_zero]
    rw [Nat.add_assoc, Nat.mod_add_mod, Nat.add_comm 1 k]

/-! ## The words of a write record (R167) -/

/-- The word that the k-th data word of a record from position `p` writes. -/
def writeAt (w : Window) (p : Nat) (ws : List Word) (k : Nat) : WordWrite :=
  ⟨(windowCell w (streamPos w p k)).1, (windowCell w (streamPos w p k)).2, ws.getD k 0⟩

/-- `m` words of a write record from position `p` are accepted, and no more: each meets a writable field below N, and
the next, if there is one, does not. -/
structure Accepts (s : State) (w : Window) (p : Nat) (ws : List Word) (m : Nat) : Prop where
  most : m ≤ ws.length
  accepted : ∀ k, k < m → streamPos w p k < windowLength w ∧
    fieldWritable s w.table (windowCell w (streamPos w p k)).1 (windowCell w (streamPos w p k)).2 = true
  last : m < ws.length → streamPos w p m < windowLength w →
    fieldWritable s w.table (windowCell w (streamPos w p m)).1 (windowCell w (streamPos w p m)).2 = false

/-- The words taken, the position after them, and whether a word met a field that is not writable. -/
structure Taken (w : Window) (p : Nat) (ws : List Word) (m : Nat) (r : List WordWrite × Nat × Bool) : Prop where
  words : r.1 = (List.range m).map (writeAt w p ws)
  refused : r.2.2 = true ↔ m < ws.length ∧ streamPos w p m < windowLength w
  after : r.2.2 = false → m ≠ 0 → r.2.1 = streamPos w p (m - 1) + 1
  still : r.2.2 = false → m = 0 → r.2.1 = p

theorem takeWords_cons {s : State} {w : Window} {p : Nat} (h : p ≤ windowLength w) (x : Word) (rest : List Word) :
    takeWords s w p (x :: rest) =
      if windowLength w ≤ streamPos w p 0 then ([], p, false)
      else if fieldWritable s w.table (windowCell w (streamPos w p 0)).1 (windowCell w (streamPos w p 0)).2 then
        (⟨(windowCell w (streamPos w p 0)).1, (windowCell w (streamPos w p 0)).2, x⟩ ::
            (takeWords s w (streamPos w p 0 + 1) rest).1, (takeWords s w (streamPos w p 0 + 1) rest).2)
      else ([], streamPos w p 0, true) := by
  rw [← place_eq h]
  rfl

theorem takeWords_taken {s : State} {w : Window} {m : Nat} :
    ∀ {p : Nat} {ws : List Word}, p ≤ windowLength w → Accepts s w p ws m → Taken w p ws m (takeWords s w p ws) := by
  induction m with
  | zero =>
    intro p ws hp h
    cases ws with
    | nil => exact ⟨rfl, iff_of_false nofun (fun k => absurd k.1 (Nat.lt_irrefl 0)), fun _ n => absurd rfl n, fun _ _ => rfl⟩
    | cons x rest =>
      rw [takeWords_cons hp]
      by_cases beyond : windowLength w ≤ streamPos w p 0
      · rw [if_pos beyond]
        exact ⟨rfl, iff_of_false nofun (fun k => absurd k.2 (Nat.not_lt.2 beyond)), fun _ n => absurd rfl n,
          fun _ _ => rfl⟩
      · have inside := Nat.not_le.1 beyond
        rw [if_neg beyond, if_neg (by rw [h.last (Nat.zero_lt_succ _) inside]; nofun)]
        exact ⟨rfl, iff_of_true rfl ⟨Nat.zero_lt_succ _, inside⟩, nofun, nofun⟩
  | succ m ih =>
    intro p ws hp h
    cases ws with
    | nil => exact absurd h.most (Nat.not_succ_le_zero m)
    | cons x rest =>
      obtain ⟨inside, writable⟩ := h.accepted 0 (Nat.zero_lt_succ m)
      have tail : Taken w (streamPos w p 0 + 1) rest m (takeWords s w (streamPos w p 0 + 1) rest) := by
        refine ih inside ⟨Nat.le_of_succ_le_succ h.most, fun k hk => ?_, fun more below => ?_⟩
        · rw [streamPos_next]; exact h.accepted (k + 1) (Nat.succ_lt_succ hk)
        · rw [streamPos_next] at below ⊢; exact h.last (Nat.succ_lt_succ more) below
      rw [takeWords_cons hp, if_neg (Nat.not_le.2 inside), if_pos writable]
      refine ⟨?_, ?_, fun go _ => ?_, nofun⟩
      · show _ :: _ = _
        rw [tail.words, List.range_succ_eq_map, List.map_cons, List.map_map]
        refine congrArg₂ _ rfl (List.map_congr_left fun k _ => ?_)
        show writeAt w (streamPos w p 0 + 1) rest k = writeAt w p (x :: rest) (k + 1)
        unfold writeAt
        rw [streamPos_next]
        rfl
      · refine tail.refused.trans ?_
        rw [streamPos_next, List.length_cons, Nat.succ_lt_succ_iff]
      · cases m with
        | zero => exact tail.still go rfl
        | succ m => exact (tail.after go nofun).trans (by rw [streamPos_next]; rfl)

theorem length_dataWords {b : RecordBody} (h : b.wordCount.toNat ≤ 8) : (dataWords b).length = b.wordCount.toNat := by
  rw [dataWords, List.length_take, Vector.length_toList]
  omega

theorem getD_dataWords {b : RecordBody} {k : Nat} (h : k < b.wordCount.toNat) :
    (dataWords b).getD k 0 = b.data.toList.getD k 0 := by
  rw [dataWords, List.getD_eq_getElem?_getD, List.getElem?_take_of_lt h, List.getD_eq_getElem?_getD]

theorem stagedTable_iff (t : Table) : stagedTable t = true ↔ t = .gainStaged ∨ t = .schedStaged := by
  cases t <;> simp [stagedTable]

/-- The words of a write record from position `p`, in the statement's words. -/
theorem judgeWords_accepts {s : State} {w : Window} {p m : Nat} {b : RecordBody} (start : Bool)
    (hp : p ≤ windowLength w) (short : b.wordCount.toNat ≤ 8) (most : m ≤ b.wordCount.toNat)
    (accepted : ∀ k, k < m → streamPos w p k < windowLength w ∧
      fieldWritable s w.table (windowCell w (streamPos w p k)).1 (windowCell w (streamPos w p k)).2 = true)
    (last : m < b.wordCount.toNat → streamPos w p m < windowLength w →
      fieldWritable s w.table (windowCell w (streamPos w p m)).1 (windowCell w (streamPos w p m)).2 = false) :
    ∃ xs q refused, judgeWords s w start p b = ⟨if refused then 0x40 else 0, .write start xs q refused⟩ ∧
      (refused = true ↔ m < b.wordCount.toNat ∧ streamPos w p m < windowLength w) ∧
      (refused = false → m ≠ 0 → q = streamPos w p (m - 1) + 1) ∧ (refused = false → m = 0 → q = p) ∧
      xs = (List.range m).map fun k =>
        ⟨(windowCell w (streamPos w p k)).1, (windowCell w (streamPos w p k)).2, b.data.toList.getD k 0⟩ := by
  have length := length_dataWords short
  have taken : Taken w p (dataWords b) m (takeWords s w p (dataWords b)) :=
    takeWords_taken hp ⟨by rw [length]; exact most, accepted, by rw [length]; exact last⟩
  refine ⟨_, _, _, rfl, ?_, taken.after, taken.still, taken.words.trans ?_⟩
  · rw [← length]; exact taken.refused
  · refine List.map_congr_left fun k hk => ?_
    rw [writeAt, getD_dataWords ((List.mem_range.1 hk).trans_le most)]

/-! ## Which fields are writable (R2, R83, R90, R101, R130, R136, R165, R171, R178) -/

theorem channelWritable_iff (s : State) (c : Chan) (f : Nat) : channelWritable s c f = true ↔
    (f ∈ [0, 1, 3, 6] ∧ ((s.chan c).state = .off ∨ (s.chan c).state = .ready ∨ (s.chan c).state = .fault)) ∨
      (f = 8 ∧ s.phase = .config) ∨ f ∈ [2, 4, 5, 7, 9, 10, 11, 12, 13, 14, 15, 16] := by
  rw [← atRest_iff]
  unfold channelWritable
  split
  case h_18 =>
    refine iff_of_false nofun ?_
    simp only [List.mem_cons, List.not_mem_nil, or_false, not_or, not_and]
    refine ⟨fun h => ?_, fun h => ?_, ?_⟩
    · rcases h with h | h | h | h <;> contradiction
    · contradiction
    · refine ⟨?_, ?_, ?_, ?_, ?_, ?_, ?_, ?_, ?_, ?_, ?_, ?_⟩ <;> assumption
  all_goals simp

/-- Settles O43. -/
theorem writeRecordsAreJudgedWordByWord : Obligations.WriteRecordsAreJudgedWordByWord := by
  unfold Obligations.WriteRecordsAreJudgedWordByWord
  refine ⟨fun s f b => ⟨fun here => ?_, fun here => ?_⟩, fun s f => ⟨fun e => ?_, fun c => ?_, fun e => ?_,
    fun e tb htb => ?_, fun e tb htb => ?_, fun e => rfl, fun e => ?_⟩⟩
  · have taken {j : Judgement} (judged : judgeWriteStart s b = j) :
        TakesPlainly (.writeStart b) s f 0x11 b j.flags j.cmd :=
      takesPlainly_of_command (c := .writeStart) rfl rfl rfl rfl here rfl judged
    refine ⟨fun none => taken (j := refuse flagSeqFault) (by unfold judgeWriteStart; rw [none]), fun w hw => ?_⟩
    have judged : judgeWriteStart s b = if stagedTable w.table && commitBusy s then ⟨flagBusy, .writeBusy true⟩
        else judgeWords s w true 0 b := by unfold judgeWriteStart; rw [hw]
    refine ⟨fun staged busy => ?_, fun free m most accepted last => ?_⟩
    · rw [(stagedTable_iff _).2 staged, (commitBusy_iff s).2 busy] at judged
      exact taken judged
    · rw [if_neg (by rwa [Bool.and_eq_true, stagedTable_iff, commitBusy_iff])] at judged
      obtain ⟨xs, q, refused, words, facts⟩ :=
        judgeWords_accepts true (Nat.zero_le _) here.words most accepted last
      exact ⟨xs, q, refused, taken (judged.trans words), facts⟩
  · have taken {j : Judgement} (judged : judgeWriteContinue s b = j) :=
      takesContinue (i := .writeContinue b) (c := .writeContinue) rfl rfl rfl (.inl rfl) here judged
    refine ⟨fun none => ?_, fun w p hp hw inside => ?_⟩
    · have judged : judgeWriteContinue s b = refuse flagSeqFault := by
        unfold judgeWriteContinue
        split
        · next p w stream _ => exact absurd stream (none p)
        · rfl
      have taken := taken judged
      rw [ownContinue_not_write none] at taken
      exact taken
    · have judged : judgeWriteContinue s b = if stagedTable w.table && commitBusy s then ⟨flagBusy, .writeBusy false⟩
          else judgeWords s w false p b := by unfold judgeWriteContinue; rw [hp, hw]
      rw [ownContinue_write hp] at taken
      refine ⟨fun staged busy => ?_, fun free m most accepted last => ?_⟩
      · rw [(stagedTable_iff _).2 staged, (commitBusy_iff s).2 busy] at judged
        exact taken judged
      · rw [if_neg (by rwa [Bool.and_eq_true, stagedTable_iff, commitBusy_iff])] at judged
        obtain ⟨xs, q, refused, words, facts⟩ := judgeWords_accepts false inside here.words most accepted last
        exact ⟨xs, q, refused, taken (judged.trans words), facts⟩
  · show stationWritable s f = true ↔ _
    simp [stationWritable, and_assoc]
  · show channelWritable s (chanOf c.val) f = true ↔ _
    rw [chanOf_val]
    exact channelWritable_iff s c f
  · exact beq_iff_eq
  · have busy : (!commitBusy s) = true ↔ s.commit.state ≠ .validating ∧ s.commit.state ≠ .switchPending := by
      rw [Bool.not_eq_true', Bool.eq_false_iff, ne_eq, commitBusy_iff, not_or]
    rcases htb with rfl | rfl <;> exact busy
  · rcases htb with rfl | rfl | rfl | rfl <;> rfl
  · show (!capturing s.trace.capture) = true ↔ _
    rw [Bool.not_eq_true', capturing_eq_false_iff]

/-! ## The commit of a write record (R155, R167, R169, R170) -/

/-- A write record with a window, whose stream is open or begins, is executed. -/
theorem executeCmd_write {s : State} {w : Window} (hw : s.service.window = some w) {start : Bool}
    (live : start = true ∨ s.service.stream.isSome = true) (xs : List WordWrite) (q : Nat) (refused : Bool) :
    executeCmd (.write start xs q refused) s =
      ⟨(writeWords w.table xs s).withService (afterWrite start refused xs.length q (writeWords w.table xs s).service),
        [word xs.length]⟩ := by
  have now : writeNow start xs q refused s =
      ⟨(writeWords w.table xs s).withService (afterWrite start refused xs.length q (writeWords w.table xs s).service),
        [word xs.length]⟩ := by unfold writeNow; rw [hw]
  show commitWrite start xs q refused s = _
  unfold commitWrite
  split
  · exact now
  · next other =>
    obtain ⟨st, hst⟩ := Option.isSome_iff_exists.1 (live.resolve_left other)
    rw [hst]
    exact now

/-- The state after the commit of an executed write record. -/
theorem commits_write {s : State} {f : FrameCtx} {h : Header} {clears start refused : Bool} {xs : List WordWrite}
    {q : Nat} {w : Window} (at_ : Nat) (g : GoodService s f h (.write start xs q refused) clears)
    (hw : s.service.window = some w) (live : start = true ∨ s.service.stream.isSome = true) :
    ∃ u v, u = afterService s f at_ clears s.service.result ∧ WrittenOnly u v ∧ v = writeWords w.table xs u ∧
      exec (.endOfReception at_ []) s = .next { v with service :=
        { afterWrite start refused xs.length q u.service with result := [BitVec.ofNat 16 xs.length] } } := by
  have written := writeWords_writes w.table xs (afterService s f at_ clears s.service.result)
  have executed := executeCmd_write (s := afterService s f at_ clears s.service.result) hw live xs q refused
  refine ⟨_, _, rfl, written, rfl, ?_⟩
  have settled : (writeWords w.table xs (afterService s f at_ clears s.service.result)).moment = none := by
    rw [written.state]; exact g.settled
  have service : (writeWords w.table xs (afterService s f at_ clears s.service.result)).service =
      (afterService s f at_ clears s.service.result).service := by rw [written.state]
  rw [commits_of_execute at_ g executed settled, ← service, ← word_ofNat]
  rfl

/-- Settles O44. -/
theorem writeCommitsMoveStreamAndTotal : Obligations.WriteCommitsMoveStreamAndTotal := by
  unfold Obligations.WriteCommitsMoveStreamAndTotal
  refine fun s f h at_ clears => ⟨fun start xs q refused w g hw live _ => ?_, fun xs q refused g gone => ?_,
    fun g => commits_of_execute at_ g rfl g.settled, fun g st stream => ⟨_, rfl, ?_⟩⟩
  · obtain ⟨u, v, rfl, written, -, run⟩ := commits_write at_ g hw live
    refine ⟨_, run, rfl, ?_⟩
    rw [written.state]
    exact ⟨rfl, rfl, rfl, rfl, rfl, rfl, rfl, rfl⟩
  · have executed : executeCmd (.write false xs q refused) (afterService s f at_ clears s.service.result) =
        ⟨afterService s f at_ clears s.service.result, [0]⟩ := by
      show commitWrite false xs q refused _ = _
      have stream : (afterService s f at_ clears s.service.result).service.stream = none := gone
      unfold commitWrite
      rw [if_neg (by simp), stream]
    exact commits_of_execute at_ g executed g.settled
  · have closed : closeStream .refused (afterService s f at_ clears s.service.result).service =
        { (afterService s f at_ clears s.service.result).service with stream := none, closure := .refused } := by
      have open_ : (afterService s f at_ clears s.service.result).service.stream = some st := stream
      unfold closeStream
      rw [open_]
    have executed : executeCmd (.writeBusy false) (afterService s f at_ clears s.service.result) =
        ⟨(afterService s f at_ clears s.service.result).withService
          (closeStream .refused (afterService s f at_ clears s.service.result).service), [0]⟩ := rfl
    rw [closed] at executed
    exact commits_of_execute at_ g executed g.settled

/-! ## Read records and TRACE_DATA (R168, R178) -/

/-- The place that the k-th word of a read record from position `p` is read at. -/
def readPlace (w : Window) (p k : Nat) : Nat :=
  if w.wrap then (p + k) % windowLength w else min (p + k) (windowLength w - 1)

/-- The position after one word of a read record. -/
def readNext (w : Window) (p : Nat) : Nat :=
  if w.wrap then p % windowLength w + 1 else min (p + 1) (windowLength w)

theorem readWords_succ {s : State} {w : Window} {p : Nat} (h : p ≤ windowLength w) (n : Nat) :
    readWords s w (n + 1) p =
      (readField s w.table (windowCell w (readPlace w p 0)).1 (windowCell w (readPlace w p 0)).2 ::
        (readWords s w n (readNext w p)).1, (readWords s w n (readNext w p)).2) := by
  have pos := windowLength_pos w
  have place : (if windowLength w ≤ (if windowLength w ≤ p ∧ w.wrap = true then 0 else p) then windowLength w - 1
      else (if windowLength w ≤ p ∧ w.wrap = true then 0 else p)) = readPlace w p 0 := by
    rw [place_eq h, streamPos, readPlace, Nat.add_zero]
    cases w.wrap with
    | true =>
      have less := Nat.mod_lt p pos
      simp only [if_true]
      rw [if_neg (by omega)]
    | false => simp only [Bool.false_eq_true, if_false]; split <;> omega
  have next : (if windowLength w ≤ (if windowLength w ≤ p ∧ w.wrap = true then 0 else p) then
      (if windowLength w ≤ p ∧ w.wrap = true then 0 else p)
      else (if windowLength w ≤ p ∧ w.wrap = true then 0 else p) + 1) = readNext w p := by
    rw [place_eq h, streamPos, readNext, Nat.add_zero]
    cases w.wrap with
    | true =>
      have less := Nat.mod_lt p pos
      simp only [if_true]
      rw [if_neg (by omega)]
    | false => simp only [Bool.false_eq_true, if_false]; split <;> omega
  rw [← place, ← next]
  rfl

theorem readNext_le (w : Window) (p : Nat) : readNext w p ≤ windowLength w := by
  unfold readNext
  split
  · exact Nat.mod_lt p (windowLength_pos w)
  · exact Nat.min_le_right ..

theorem readPlace_next {w : Window} {p : Nat} (h : p ≤ windowLength w) (k : Nat) :
    readPlace w (readNext w p) k = readPlace w p (k + 1) := by
  have pos := windowLength_pos w
  unfold readPlace readNext
  cases w.wrap with
  | true => simp only [if_true]; rw [Nat.add_assoc, Nat.mod_add_mod, Nat.add_comm 1 k]
  | false => simp only [Bool.false_eq_true, if_false]; omega

/-- The words of a read record, and the position after them (R168). -/
theorem readWords_spec {s : State} {w : Window} {n : Nat} :
    ∀ {p : Nat}, p ≤ windowLength w → (readWords s w n p).1.length = n ∧
      (∀ k, k < n → (readWords s w n p).1.getD k 0 =
        readField s w.table (windowCell w (readPlace w p k)).1 (windowCell w (readPlace w p k)).2) ∧
      (1 ≤ n → (readWords s w n p).2 =
        if w.wrap then (p + n - 1) % windowLength w + 1 else min (p + n) (windowLength w)) := by
  induction n with
  | zero => exact fun _ => ⟨rfl, fun k hk => absurd hk (Nat.not_lt_zero k), nofun⟩
  | succ n ih =>
    intro p h
    obtain ⟨length, words, last⟩ := ih (readNext_le w p)
    rw [readWords_succ h]
    refine ⟨congrArg Nat.succ length, fun k hk => ?_, fun _ => ?_⟩
    · cases k with
      | zero => rfl
      | succ k => rw [← readPlace_next h]; exact words k (Nat.lt_of_succ_lt_succ hk)
    · show (readWords s w n (readNext w p)).2 = _
      cases n with
      | zero => rfl
      | succ n =>
        rw [last (Nat.succ_le_succ (Nat.zero_le n))]
        unfold readNext
        cases w.wrap with
        | true =>
          simp only [if_true]
          rw [show p % windowLength w + 1 + (n + 1) - 1 = p % windowLength w + (n + 1) by omega, Nat.mod_add_mod,
            show p + (n + 1 + 1) - 1 = p + (n + 1) by omega]
        | false => simp only [Bool.false_eq_true, if_false]; omega

theorem executeCmd_read {s : State} {w : Window} (hw : s.service.window = some w) {start : Bool} {p : Nat}
    (begins : start = true → p = 0) (goes : start = false → s.service.stream = some ⟨.read, p⟩) (n : Nat) :
    executeCmd (.read start n) s = ⟨s.withService { s.service with
      stream := some ⟨.read, (readWords s w n p).2⟩, idle := 0 }, (readWords s w n p).1⟩ := by
  have now : readNow n p s = ⟨s.withService { s.service with
      stream := some ⟨.read, (readWords s w n p).2⟩, idle := 0 }, (readWords s w n p).1⟩ := by
    unfold readNow; rw [hw]
  show commitRead start n s = _
  unfold commitRead
  cases start with
  | true =>
    obtain rfl := begins rfl
    rw [if_pos rfl]; exact now
  | false => rw [if_neg (by simp), goes rfl]; exact now

/-- A field of a table reads the same whatever the result buffer holds. -/
theorem readField_afterService (s : State) (f : FrameCtx) (at_ : Nat) (clears : Bool) (r r' : List Word) (t : Table)
    (e k : Nat) :
    readField (afterService s f at_ clears r) t e k = readField (afterService s f at_ clears r') t e k := by
  cases t <;> rfl

/-- What a TRACE_DATA entry reads, by its segment and its place there (R178). -/
theorem traceEntry_eq {u : TraceUnit} {k : Fin 4} {j e : Nat}
    (whole : u.armedCfg.segmented = false → k = 0 ∧ j < 4096 ∧ e = j)
    (parts : u.armedCfg.segmented = true → j < 1024 ∧ e = 1024 * k.val + j) :
    traceEntry u e = if j < u.segs[k].valid then traceRead u.mem (1024 * k.val +
      (u.segs[k].oldest + j) % (if u.armedCfg.segmented then 1024 else 4096)) else {} := by
  have segment : u.segs.toList.getD k.val {} = u.segs[k] := by
    rw [List.getD_eq_getElem?_getD, List.getElem?_eq_getElem (by simp), Vector.getElem_toList]; rfl
  cases h : u.armedCfg.segmented with
  | false =>
    obtain ⟨rfl, -, rfl⟩ := whole h
    have segment : u.segs.toList.getD 0 {} = u.segs[(0 : Fin 4)] := segment
    simp only [traceEntry, h, Bool.false_eq_true, if_false, segment, segmentBase, traceL, captureLength]
    rfl
  | true =>
    obtain ⟨less, rfl⟩ := parts h
    have seg : (1024 * k.val + j) / 1024 = k.val := by omega
    have place : (1024 * k.val + j) % 1024 = j := by omega
    simp only [traceEntry, h, if_true, seg, place, segment, segmentBase, traceL, captureLength]

/-- Settles O47. -/
theorem readCommitsFormTheWordsRead : Obligations.ReadCommitsFormTheWordsRead := by
  unfold Obligations.ReadCommitsFormTheWordsRead
  refine ⟨fun s f h at_ clears start n p w g some_ => ⟨fun hw inside begins goes => ?_, fun continues gone => ?_⟩,
    fun s k j e fd r whole parts valid empty => ?_⟩
  · have executed := executeCmd_read (s := afterService s f at_ clears s.service.result) hw begins goes n
    obtain ⟨length, words, last⟩ := readWords_spec (s := afterService s f at_ clears s.service.result) (n := n) inside
    refine ⟨_, (readWords (afterService s f at_ clears s.service.result) w n p).1, rfl, ?_, length, fun k hk => ?_⟩
    · rw [commits_of_execute at_ g executed g.settled, last some_]
      rfl
    · rw [words k hk, readField_afterService]
      rfl
  · subst continues
    have executed : executeCmd (.read false n) (afterService s f at_ clears s.service.result) =
        ⟨afterService s f at_ clears s.service.result, []⟩ := by
      have stream : (afterService s f at_ clears s.service.result).service.stream = none := gone
      show commitRead false n _ = _
      unfold commitRead
      rw [if_neg (by simp), stream]
      rfl
    exact commits_of_execute at_ g executed g.settled
  · have read : traceEntry s.trace e = r := by
      rw [traceEntry_eq whole parts]
      split
      · next more => exact (valid more).symm
      · next less => exact (empty (Nat.not_lt.1 less)).symm
    rw [← read]
    exact ⟨fun h => by rw [h]; rfl, fun h => by rw [h]; rfl, fun h => by rw [h]; rfl, fun h => by rw [h]; rfl⟩

end Sys2Proof.Machine
end

section
/-! Group actions at their commit (R20, R163): the mask, the actions that move one channel each, and RAMPDOWN with
the followers it takes along. -/

namespace Sys2Proof.Machine

open Sys2Proof Relation

/-! ## Changes of the channels alone -/

/-- Nothing but channel contexts differs. -/
def ChannelsOnly (s t : State) : Prop := t = { s with channels := t.channels }

theorem ChannelsOnly.refl (s : State) : ChannelsOnly s s := rfl

theorem ChannelsOnly.trans {a b c : State} (h : ChannelsOnly a b) (k : ChannelsOnly b c) : ChannelsOnly a c := by
  unfold ChannelsOnly at *
  rw [k, h]

theorem ChannelsOnly.pairs {s t : State} (h : ChannelsOnly s t) : t.pairs = s.pairs := by rw [h]

theorem ChannelsOnly.paired {s t : State} (h : ChannelsOnly s t) (c : Chan) : paired t c = paired s c :=
  paired_of_pairs h.pairs c

theorem modChan_channelsOnly (c : Chan) (f : Channel → Channel) (s : State) : ChannelsOnly s (s.modChan c f) := rfl

/-- A turn of channel `c` that makes `g` of its context and nothing else. -/
structure OwnTurn (c : Chan) (g : Channel → Channel) (s t : State) : Prop where
  only : ChannelsOnly s t
  own : t.chan c = g (s.chan c)
  others : ∀ d, d ≠ c → t.chan d = s.chan d

theorem modChan_ownTurn (c : Chan) (g : Channel → Channel) (s : State) : OwnTurn c g s (s.modChan c g) :=
  ⟨modChan_channelsOnly c g s, State.modChan_chan_same .., fun _ h => State.modChan_chan_other s g h⟩

theorem foldl_ownTurns {step : State → Chan → State} {g : Chan → Channel → Channel} {s : State}
    (turn : ∀ u c, ChannelsOnly s u → OwnTurn c (g c) u (step u c)) (l : List Chan) (distinct : l.Nodup) :
    ∀ u, ChannelsOnly s u → ChannelsOnly s (l.foldl step u) ∧
      ∀ d, (l.foldl step u).chan d = if d ∈ l then g d (u.chan d) else u.chan d := by
  induction l with
  | nil => exact fun u only => ⟨only, fun d => (if_neg (by simp)).symm⟩
  | cons c l ih =>
    obtain ⟨fresh, distinct⟩ := List.nodup_cons.1 distinct
    refine fun u only => ?_
    have t := turn u c only
    obtain ⟨kept, chans⟩ := ih distinct (step u c) (only.trans t.only)
    refine ⟨kept, fun d => (chans d).trans ?_⟩
    by_cases same : d = c
    · subst same
      rw [if_neg fresh, if_pos List.mem_cons_self, t.own]
    · rw [t.others d same]
      simp [same]

/-- Turns of all channels, each its own, make of every channel what its own turn makes of it. -/
theorem allChans_ownTurns {step : State → Chan → State} {g : Chan → Channel → Channel} {s : State}
    (turn : ∀ u c, ChannelsOnly s u → OwnTurn c (g c) u (step u c)) :
    ChannelsOnly s (allChans.foldl step s) ∧ ∀ d, (allChans.foldl step s).chan d = g d (s.chan d) := by
  obtain ⟨only, chans⟩ := foldl_ownTurns turn allChans (by decide) s (.refl s)
  exact ⟨only, fun d => (chans d).trans (if_pos (mem_allChans d))⟩

/-! ## The mask of the channels that took an action -/

theorem foldl_mask (p : Chan → Bool) (l : List Chan) : ∀ (m : Word) (i : Nat),
    (l.foldl (fun m c => if p c then m ||| BitVec.twoPow 16 c.val else m) m).getLsbD i = true ↔
      m.getLsbD i = true ∨ ∃ c ∈ l, p c = true ∧ c.val = i := by
  induction l with
  | nil => simp
  | cons c l ih =>
    intro m i
    rw [List.foldl_cons, ih]
    have bit : (BitVec.twoPow 16 c.val).getLsbD i = true ↔ c.val = i := by
      rw [BitVec.getLsbD_twoPow, Bool.and_eq_true_iff, decide_eq_true_iff, decide_eq_true_iff]
      exact ⟨fun h => h.2, fun h => ⟨by have := c.isLt; omega, h⟩⟩
    cases pc : p c with
    | false => simp [pc]
    | true =>
      rw [if_pos rfl, BitVec.getLsbD_or, Bool.or_eq_true_iff, bit, or_assoc]
      simp [pc]

theorem actionMask_bit (a : GroupAction) (first last : Chan) (s t : State) (i : Nat) :
    (actionMask a first last s t).getLsbD i = true ↔
      ∃ c : Chan, (tagged first last c && tookAction a (s.chan c) (t.chan c)) = true ∧ c.val = i := by
  unfold actionMask
  rw [foldl_mask (fun c => tagged first last c && tookAction a (s.chan c) (t.chan c))]
  simp [mem_allChans]

theorem actionMask_lt (a : GroupAction) (first last : Chan) (s t : State) :
    (actionMask a first last s t).toNat < 256 := by
  refine Nat.lt_pow_two_of_testBit (n := 8) _ fun i high => ?_
  refine Bool.eq_false_iff.2 fun set => ?_
  obtain ⟨c, -, rfl⟩ := (actionMask_bit a first last s t i).1 set
  exact absurd c.isLt (by omega)

theorem actionMask_chan (a : GroupAction) (first last : Chan) (s t : State) (c : Chan) :
    (actionMask a first last s t).getLsbD c.val = true ↔
      (first ≤ c ∧ c ≤ last) ∧ tookAction a (s.chan c) (t.chan c) = true := by
  rw [actionMask_bit]
  constructor
  · rintro ⟨d, taken, same⟩
    obtain rfl := Fin.val_injective same
    obtain ⟨tags, took⟩ := Bool.and_eq_true_iff.1 taken
    exact ⟨decide_eq_true_iff.1 tags, took⟩
  · exact fun ⟨tags, took⟩ => ⟨c, Bool.and_eq_true_iff.2 ⟨decide_eq_true_iff.2 tags, took⟩, rfl⟩

/-! ## The commit of a group action -/

/-- A group action commits the channels it leaves and the mask of those that took it. -/
theorem commits_group {s : State} {f : FrameCtx} {h : Header} {a : GroupAction} {first last : Chan} {clears : Bool}
    (at_ : Nat) (g : GoodService s f h (.groupAction a first last) clears)
    (only : ∀ u, ChannelsOnly u (applyGroup a first last u)) :
    ∃ t m, exec (.endOfReception at_ []) s = .next t ∧ m.toNat < 256 ∧
      t = { afterService s f at_ clears [m] with channels := t.channels } ∧
      ∀ c, t.chan c = (applyGroup a first last (afterService s f at_ clears s.service.result)).chan c ∧
        (m.getLsbD c.val = true ↔ (first ≤ c ∧ c ≤ last) ∧ tookAction a (s.chan c) (t.chan c) = true) := by
  have applied := only (afterService s f at_ clears s.service.result)
  have settled : (applyGroup a first last (afterService s f at_ clears s.service.result)).moment = none := by
    rw [applied]; exact g.settled
  refine ⟨_, _, commits_of_execute at_ g rfl settled, actionMask_lt .., ?_, fun c => ⟨rfl, actionMask_chan ..⟩⟩
  rw [applied]
  rfl

/-! ## Actions that each channel takes by itself -/

/-- What CALIBRATE, CLEAR_FAULT or ACK_NOTICE makes of a channel that takes it. -/
def actionOn (a : GroupAction) (s : State) : Channel → Channel :=
  match a with
  | .calibrate => calibrationRequest
  | .clearFault => clearRequest s
  | .ackNotice => ackNotice
  | .rampdown => id

theorem clearRequest_of_channelsOnly {s u : State} (h : ChannelsOnly s u) : clearRequest u = clearRequest s := by
  rw [h]; rfl

theorem applyGroup_own {a : GroupAction} (own : a ≠ .rampdown) (first last : Chan) (s : State) :
    ChannelsOnly s (applyGroup a first last s) ∧ ∀ c, (applyGroup a first last s).chan c =
      if first ≤ c ∧ c ≤ last then actionOn a s (s.chan c) else s.chan c := by
  refine allChans_ownTurns (g := fun c ch => if first ≤ c ∧ c ≤ last then actionOn a s ch else ch)
    fun u c only => ?_
  by_cases within : first ≤ c ∧ c ≤ last
  · have tags : tagged first last c = true := decide_eq_true_iff.2 within
    rw [if_pos tags]
    simp only [if_pos within]
    cases a with
    | calibrate => exact modChan_ownTurn c calibrationRequest u
    | ackNotice => exact modChan_ownTurn c ackNotice u
    | clearFault => rw [← show clearRequest u = actionOn .clearFault s from clearRequest_of_channelsOnly only]
                    exact modChan_ownTurn c (clearRequest u) u
    | rampdown => exact absurd rfl own
  · have tags : ¬ tagged first last c = true := fun t => within (decide_eq_true_iff.1 t)
    rw [if_neg tags]
    simp only [if_neg within]
    exact ⟨.refl u, rfl, fun _ _ => rfl⟩

/-! ## RAMPDOWN as a group action -/

theorem pairedFollower_iff (s : State) (c : Chan) :
    pairedFollower s c = true ↔ pairedLeader s (partnerOf c) = true := by
  rcases even_or_odd c with e | e
  · have not : (c.val % 2 == 1) = false := by rw [e]; generalize pairOf c = p; revert p; decide
    have neither : pairedLeader s (partnerOf c) = false := by rw [e, partnerOf_evenOf]; exact pairedLeader_oddOf s _
    simp [pairedFollower, not, neither]
  · rw [e, partnerOf_oddOf, pairedFollower_oddOf, pairedLeader_evenOf]

theorem pairedLeader_not_follower {s : State} {c : Chan} (h : pairedLeader s c = true) : pairedFollower s c = false := by
  obtain ⟨-, even⟩ := Bool.and_eq_true_iff.1 h
  have : c.val % 2 = 0 := beq_iff_eq.1 even
  simp [pairedFollower, this]

/-- RAMPDOWN entry, channel by channel: its own, a paired leader's follower in RUN or HOLD, no other. -/
theorem enterRampdown_chans (c : Chan) (r : Bool) (s : State) :
    ((enterRampdown c r false s).chan c = toRampdown r false (s.chan c)) ∧
    (∀ d, pairedFollower s d = true → partnerOf d = c → runOrHold (s.chan d).state = true →
      (enterRampdown c r false s).chan d = toRampdown r false (s.chan d)) ∧
    ∀ d, d ≠ c → ¬ (pairedFollower s d = true ∧ partnerOf d = c ∧ runOrHold (s.chan d).state = true) →
      (enterRampdown c r false s).chan d = s.chan d := by
  have away : partnerOf c ≠ c := partnerOf_ne c
  unfold enterRampdown
  dsimp only
  rw [State.modChan_chan_other s _ away]
  split
  · next along =>
    obtain ⟨leads, runs⟩ := Bool.and_eq_true_iff.1 along
    refine ⟨?_, fun d _ partner _ => ?_, fun d other apart => ?_⟩
    · rw [State.modChan_chan_other _ _ away.symm, State.modChan_chan_same]
    · obtain rfl : d = partnerOf c := by rw [← partner, partnerOf_partnerOf]
      rw [State.modChan_chan_same, State.modChan_chan_other _ _ away]
    · have unlike : d ≠ partnerOf c := by
        rintro rfl
        exact apart ⟨(pairedFollower_iff s _).2 (by rwa [partnerOf_partnerOf]), partnerOf_partnerOf c, runs⟩
      rw [State.modChan_chan_other _ _ unlike, State.modChan_chan_other _ _ other]
  · next alone =>
    refine ⟨State.modChan_chan_same .., fun d follows partner runs => ?_, fun d other _ =>
      State.modChan_chan_other s _ other⟩
    subst partner
    rw [partnerOf_partnerOf, (pairedFollower_iff s d).1 follows, runs] at alone
    exact absurd rfl alone

/-- The channels that the turns of `l` reach: the tagged ones of `l`, and followers whose tagged leader is one. -/
def RampdownReaches (s : State) (first last : Chan) (l : List Chan) (c : Chan) : Prop :=
  (c ∈ l ∧ tagged first last c = true) ∨ (pairedFollower s c = true ∧ partnerOf c ∈ l ∧
    tagged first last (partnerOf c) = true ∧ runOrHold (s.chan (partnerOf c)).state = true)

/-- What the turns of `l` leave. -/
structure RampedDown (first last : Chan) (l : List Chan) (s t : State) : Prop where
  only : ChannelsOnly s t
  entered : ∀ c, RampdownReaches s first last l c → runOrHold (s.chan c).state = true →
    t.chan c = toRampdown false false (s.chan c)
  kept : ∀ c, ¬ (RampdownReaches s first last l c ∧ runOrHold (s.chan c).state = true) → t.chan c = s.chan c

theorem RampedDown.same_of_runs {first last : Chan} {l : List Chan} {s t : State} (h : RampedDown first last l s t)
    {c : Chan} (runs : runOrHold (t.chan c).state = true) : t.chan c = s.chan c := by
  by_cases reached : RampdownReaches s first last l c ∧ runOrHold (s.chan c).state = true
  · rw [h.entered c reached.1 reached.2] at runs
    cases runs
  · exact h.kept c reached

theorem RampedDown.entered_of_calm {first last : Chan} {l : List Chan} {s t : State} (h : RampedDown first last l s t)
    {c : Chan} (calm : ¬ runOrHold (t.chan c).state = true) (runs : runOrHold (s.chan c).state = true) :
    t.chan c = toRampdown false false (s.chan c) ∧ RampdownReaches s first last l c := by
  by_cases reached : RampdownReaches s first last l c
  · exact ⟨h.entered c reached runs, reached⟩
  · rw [h.kept c fun both => reached both.1] at calm
    exact absurd runs calm

theorem rampdownReaches_append {s : State} {first last : Chan} {l : List Chan} {c d : Chan} :
    RampdownReaches s first last (l ++ [d]) c ↔ RampdownReaches s first last l c ∨
      (c = d ∧ tagged first last d = true) ∨ (pairedFollower s c = true ∧ partnerOf c = d ∧
        tagged first last d = true ∧ runOrHold (s.chan d).state = true) := by
  unfold RampdownReaches
  rw [List.mem_append, List.mem_append, List.mem_singleton, List.mem_singleton]
  constructor
  · rintro (⟨i | rfl, tags⟩ | ⟨follows, i | rfl, rest⟩)
    · exact .inl (.inl ⟨i, tags⟩)
    · exact .inr (.inl ⟨rfl, tags⟩)
    · exact .inl (.inr ⟨follows, i, rest⟩)
    · exact .inr (.inr ⟨follows, rfl, rest⟩)
  · rintro ((⟨i, tags⟩ | ⟨follows, i, rest⟩) | ⟨rfl, tags⟩ | ⟨follows, rfl, rest⟩)
    · exact .inl ⟨.inl i, tags⟩
    · exact .inr ⟨follows, .inl i, rest⟩
    · exact .inl ⟨.inr rfl, tags⟩
    · exact .inr ⟨follows, .inr rfl, rest⟩

/-- A turn that takes channel `d` into RAMPDOWN. -/
theorem RampedDown.turn {first last : Chan} {l : List Chan} {s u : State} (h : RampedDown first last l s u) {d : Chan}
    (tags : tagged first last d = true) (runs : runOrHold (u.chan d).state = true) :
    RampedDown first last (l ++ [d]) s (enterRampdown d false false u) := by
  have own : u.chan d = s.chan d := h.same_of_runs runs
  have follower (c : Chan) : pairedFollower u c = pairedFollower s c := by unfold pairedFollower; rw [h.only.paired]
  obtain ⟨entered, along, others⟩ := enterRampdown_chans d false u
  have step (c : Chan) (reached : RampdownReaches s first last (l ++ [d]) c)
      (running : runOrHold (s.chan c).state = true) :
      (enterRampdown d false false u).chan c = toRampdown false false (s.chan c) := by
    by_cases same : c = d
    · subst same; rw [entered, own]
    · by_cases takes : pairedFollower u c = true ∧ partnerOf c = d ∧ runOrHold (u.chan c).state = true
      · obtain ⟨follows, partner, calm⟩ := takes
        rw [along c follows partner calm, h.same_of_runs calm]
      · rw [others c same takes]
        rcases rampdownReaches_append.1 reached with before | ⟨rfl, -⟩ | ⟨follows, partner, -⟩
        · exact h.entered c before running
        · exact absurd rfl same
        · exact (h.entered_of_calm (fun calm => takes ⟨(follower c).trans follows, partner, calm⟩) running).1
  refine ⟨h.only.trans (enterRampdown_channels_only d false false u), step, fun c none => ?_⟩
  have same : c ≠ d := by
    rintro rfl
    exact none ⟨rampdownReaches_append.2 (.inr (.inl ⟨rfl, tags⟩)), own ▸ runs⟩
  have apart : ¬ (pairedFollower u c = true ∧ partnerOf c = d ∧ runOrHold (u.chan c).state = true) := by
    rintro ⟨follows, partner, calm⟩
    exact none ⟨rampdownReaches_append.2 (.inr (.inr ⟨(follower c).symm.trans follows, partner, tags, own ▸ runs⟩)),
      h.same_of_runs calm ▸ calm⟩
  rw [others c same apart]
  exact h.kept c fun both => none ⟨rampdownReaches_append.2 (.inl both.1), both.2⟩

/-- A turn of a channel that is not tagged, or is not in RUN or HOLD any more. -/
theorem RampedDown.idle {first last : Chan} {l : List Chan} {s u : State} (h : RampedDown first last l s u) {d : Chan}
    (idle : ¬ (tagged first last d = true ∧ runOrHold (u.chan d).state = true)) :
    RampedDown first last (l ++ [d]) s u := by
  refine ⟨h.only, fun c reached running => ?_, fun c none =>
    h.kept c fun both => none ⟨rampdownReaches_append.2 (.inl both.1), both.2⟩⟩
  rcases rampdownReaches_append.1 reached with before | ⟨rfl, tags⟩ | ⟨follows, partner, tags, leads⟩
  · exact h.entered c before running
  · exact (h.entered_of_calm (fun calm => idle ⟨tags, calm⟩) running).1
  · obtain ⟨-, earlier⟩ := h.entered_of_calm (fun calm => idle ⟨tags, calm⟩) leads
    have leader : pairedLeader s d = true := partner ▸ (pairedFollower_iff s c).1 follows
    rcases earlier with ⟨i, -⟩ | ⟨lead, -⟩
    · subst partner
      exact h.entered c (.inr ⟨follows, i, tags, leads⟩) running
    · rw [pairedLeader_not_follower leader] at lead
      cases lead

theorem foldl_rampedDown (first last : Chan) (l : List Chan) (s : State) : RampedDown first last l s
    (l.foldl (fun s c => if tagged first last c then takeAction .rampdown c s else s) s) := by
  induction l using List.reverseRecOn with
  | nil => exact ⟨.refl s, fun c reached => absurd reached (by simp [RampdownReaches]), fun _ _ => rfl⟩
  | append_singleton l d ih =>
    rw [List.foldl_append, List.foldl_cons, List.foldl_nil]
    split
    · next tags =>
      unfold takeAction
      dsimp only
      split
      · next runs => exact ih.turn tags runs
      · next calm => exact ih.idle fun both => calm both.2
    · next tags => exact ih.idle fun both => tags both.1

theorem rampdownReaches_all (s : State) (first last c : Chan) : RampdownReaches s first last allChans c ↔
    (first ≤ c ∧ c ≤ last ∨ (pairedFollower s c = true ∧ first ≤ partnerOf c ∧ partnerOf c ≤ last ∧
      runOrHold (s.chan (partnerOf c)).state = true)) := by
  simp [RampdownReaches, mem_allChans, tagged, and_assoc]

/-! ## CALIBRATE, ACK_NOTICE and RAMPDOWN -/

theorem calibrationRequest_taken {ch : Channel} (h : ch.state = .off ∨ ch.state = .ready) : calibrationRequest ch =
    { ch with state := .calibrate, calCount := 0, sumA := 0, sumB := 0, calibrated := false } := by
  unfold calibrationRequest
  rcases h with h | h
  · rw [h]
  · rw [h]

theorem calibrationRequest_kept {ch : Channel} (h : ¬ (ch.state = .off ∨ ch.state = .ready)) :
    calibrationRequest ch = ch := by
  unfold calibrationRequest
  split
  · next e => exact absurd (.inl e) h
  · next e => exact absurd (.inr e) h
  all_goals rfl

theorem bool_eq_false_of_not_iff {b : Bool} {p : Prop} (h : b = true ↔ p) (off : b = false) : ¬ p :=
  fun hp => by rw [h.2 hp] at off; cases off

/-- Settles O51. -/
theorem groupActionsReachTheTaggedChannels : Obligations.GroupActionsReachTheTaggedChannels := by
  unfold Obligations.GroupActionsReachTheTaggedChannels
  refine fun s f h at_ clears first last => ⟨fun g => ?_, fun g => ?_, fun g => ?_⟩
  · obtain ⟨t, m, run, small, frame, chans⟩ := commits_group at_ g fun u => (applyGroup_own (by simp) first last u).1
    refine ⟨t, m, run, small, frame, fun c => ?_⟩
    obtain ⟨result, mask⟩ := chans c
    rw [(applyGroup_own (by simp) first last _).2 c] at result
    change t.chan c = if first ≤ c ∧ c ≤ last then calibrationRequest (s.chan c) else s.chan c at result
    have took : m.getLsbD c.val = true ↔ first ≤ c ∧ c ≤ last ∧ ((s.chan c).state = .off ∨ (s.chan c).state = .ready) := by
      rw [mask, and_assoc]
      refine and_congr_right fun lower => and_congr_right fun upper => ?_
      rw [result, if_pos ⟨lower, upper⟩]
      by_cases rests : (s.chan c).state = .off ∨ (s.chan c).state = .ready
      · rw [calibrationRequest_taken rests]; simp [tookAction, rests]
      · simp [tookAction, rests]
    refine ⟨took, fun set => ?_, fun unset => ?_⟩
    · obtain ⟨lower, upper, rests⟩ := took.1 set
      rw [result, if_pos ⟨lower, upper⟩, calibrationRequest_taken rests]
    · rw [result]
      split
      · next within =>
        exact calibrationRequest_kept fun rests => bool_eq_false_of_not_iff took unset ⟨within.1, within.2, rests⟩
      · rfl
  · obtain ⟨t, m, run, small, frame, chans⟩ := commits_group at_ g fun u => (applyGroup_own (by simp) first last u).1
    refine ⟨t, m, run, small, frame, fun c => ?_⟩
    obtain ⟨result, mask⟩ := chans c
    rw [(applyGroup_own (by simp) first last _).2 c] at result
    exact ⟨mask.trans and_assoc, fun within => result.trans (if_pos within), fun beyond => result.trans (if_neg beyond)⟩
  · have ramped (u : State) : RampedDown first last allChans u (applyGroup .rampdown first last u) :=
      foldl_rampedDown first last allChans u
    obtain ⟨t, m, run, small, frame, chans⟩ := commits_group at_ g fun u => (ramped u).only
    refine ⟨t, m, run, small, frame, fun c => ?_⟩
    obtain ⟨result, mask⟩ := chans c
    have reaches := rampdownReaches_all (afterService s f at_ clears s.service.result) first last c
    have entered := (ramped (afterService s f at_ clears s.service.result)).entered c
    have kept := (ramped (afterService s f at_ clears s.service.result)).kept c
    rw [← result, reaches] at entered kept
    have taken (reached : first ≤ c ∧ c ≤ last ∨ (pairedFollower s c = true ∧ first ≤ partnerOf c ∧
        partnerOf c ≤ last ∧ runOrHold (s.chan (partnerOf c)).state = true)) (runs : runOrHold (s.chan c).state = true) :
        t.chan c = { s.chan c with
          state := .rampdown, rampD := (s.chan c).lastRefD, rampQ := (s.chan c).lastRefQ, rampComplete := false } :=
      (entered reached runs).trans (by simp only [toRampdown, Bool.or_false]; rfl)
    refine ⟨?_, taken, kept⟩
    rw [mask, and_assoc]
    refine and_congr_right fun lower => and_congr_right fun upper => ?_
    show (runOrHold (s.chan c).state && (t.chan c).state == .rampdown) = true ↔ _
    rw [Bool.and_eq_true_iff]
    refine and_iff_left_of_imp fun runs => ?_
    rw [taken (.inl ⟨lower, upper⟩) runs]
    rfl

/-! ## CLEAR_FAULT -/

theorem recorded_iff (ch : Channel) (k : Cause) :
    recorded ch k = true ↔ ch.fault.firstCause = some k ∨ causeIn k ch.fault.alsoSeen = true := by
  simp [recorded]

/-- Every recorded cause is clearable, cause by cause (R78). -/
theorem allClearable_iff (s : State) (ch : Channel) : allClearable s ch = true ↔
    (recorded ch .angleLost = true → ch.invalidCount = 0) ∧
      (recorded ch .busUnder = true ∨ recorded ch .busOver = true → s.bus.state = .normal) ∧
      (recorded ch .inhibit = true → s.inhnLow = false) ∧
      (recorded ch .refLoss = true → s.phase = .operational ∧ s.timer.missCount = 0) := by
  have implies (a b : Bool) : (!a || b) = true ↔ (a = true → b = true) := by cases a <;> simp
  unfold allClearable
  simp only [allCauses, List.all_cons, List.all_nil, Bool.and_eq_true, implies, clearable, or_imp, beq_iff_eq,
    Bool.not_eq_true', implies_true, true_and, and_true]
  tauto

theorem clearRequest_cleared {s : State} {ch : Channel} (fault : ch.state = .fault) (ok : allClearable s ch = true) :
    (recorded ch .offsetRange = true → clearRequest s ch =
      { ch with state := .off, calibrated := false, offA := 0, offB := 0, clearRefused := false }) ∧
    (recorded ch .offsetRange = false → clearRequest s ch = { ch with state := .ready, clearRefused := false }) := by
  unfold clearRequest
  rw [if_pos fault, if_pos ok]
  exact ⟨fun set => if_pos set, fun unset => if_neg (by simp [unset])⟩

theorem clearRequest_refused {s : State} {ch : Channel} (fault : ch.state = .fault) (ok : allClearable s ch ≠ true) :
    clearRequest s ch = { ch with clearRefused := true } := by
  unfold clearRequest
  rw [if_pos fault, if_neg ok]

theorem clearRequest_kept {s : State} {ch : Channel} (rests : ch.state ≠ .fault) : clearRequest s ch = ch :=
  if_neg rests

/-- A channel leaves FAULT at a clear request exactly when every recorded cause is clearable. -/
theorem tookAction_clearFault {s : State} {ch : Channel} :
    tookAction .clearFault ch (clearRequest s ch) = true ↔ ch.state = .fault ∧ allClearable s ch = true := by
  by_cases fault : ch.state = .fault
  · by_cases ok : allClearable s ch = true
    · obtain ⟨off, ready⟩ := clearRequest_cleared fault ok
      cases range : recorded ch .offsetRange with
      | true => rw [off range]; simp [tookAction, fault, ok]
      | false => rw [ready range]; simp [tookAction, fault, ok]
    · rw [clearRequest_refused fault ok]; simp [tookAction, fault, ok]
  · simp [tookAction, fault]

/-- Settles O52. -/
theorem groupClearFaultNeedsEveryCauseClearable : Obligations.GroupClearFaultNeedsEveryCauseClearable := by
  unfold Obligations.GroupClearFaultNeedsEveryCauseClearable
  intro s f h at_ clears first last g
  obtain ⟨t, m, run, small, frame, chans⟩ := commits_group at_ g fun u => (applyGroup_own (by simp) first last u).1
  refine ⟨t, m, run, small, frame, fun c recd ok isRecorded isOk => ?_⟩
  obtain ⟨result, mask⟩ := chans c
  rw [(applyGroup_own (by simp) first last _).2 c] at result
  change t.chan c = if first ≤ c ∧ c ≤ last then clearRequest s (s.chan c) else s.chan c at result
  have records (k : Cause) : recd k ↔ recorded (s.chan c) k = true := (isRecorded k).trans (recorded_iff _ k).symm
  have clearables : ok ↔ allClearable s (s.chan c) = true := by
    rw [isOk, allClearable_iff]
    simp only [records]
  have took : m.getLsbD c.val = true ↔ first ≤ c ∧ c ≤ last ∧ (s.chan c).state = .fault ∧ ok := by
    rw [mask, and_assoc]
    refine and_congr_right fun lower => and_congr_right fun upper => ?_
    rw [result, if_pos ⟨lower, upper⟩, clearables]
    exact tookAction_clearFault
  refine ⟨took, fun set => ?_, fun ⟨lower, upper, fault, refused⟩ => ?_, fun beyond => ?_⟩
  · obtain ⟨lower, upper, fault, cleared⟩ := took.1 set
    rw [result, if_pos ⟨lower, upper⟩, records]
    obtain ⟨off, ready⟩ := clearRequest_cleared fault (clearables.1 cleared)
    exact ⟨off, fun unset => ready (Bool.eq_false_iff.2 unset)⟩
  · rw [result, if_pos ⟨lower, upper⟩]
    exact clearRequest_refused fault fun cleared => refused (clearables.2 cleared)
  · rw [result]
    split
    · next within => exact clearRequest_kept fun fault => beyond ⟨within.1, within.2, fault⟩
    · rfl

end Sys2Proof.Machine
end

section
/-! Written fields (R165, R167): what a field reads after a word was written to it, what the other fields read, and
the same for the words of a whole record. -/

namespace Sys2Proof.Machine

open Sys2Proof Relation

/-! ## Values clamped into a field's range -/

theorem natCast_clampNat (lo hi n : Nat) : ((clampNat lo hi n : Nat) : Int) = clamp lo hi n := by
  unfold clampNat clamp
  split_ifs <;> first | rfl | omega

theorem clamp_word (x : Word) : clamp 0 65535 x.toNat = x.toNat :=
  clamp_inside (by omega) (by have := x.isLt; omega)

theorem clamp_flag (n : Nat) : ((if decide (0 < n) then 1 else 0 : Nat) : Int) = clamp 0 1 n := by
  unfold clamp
  rcases Nat.eq_zero_or_pos n with rfl | pos
  · rfl
  · simp [pos]; omega

theorem clamp_bits {k m : Nat} (n : Nat) (h : m < 2 ^ k) :
    ((BitVec.ofNat k (clampNat 0 m n)).toNat : Int) = clamp 0 m n := by
  have bound : clampNat 0 m n < 2 ^ k := by rw [clampNat_zero]; omega
  rw [BitVec.toNat_ofNat, Nat.mod_eq_of_lt bound]
  exact natCast_clampNat 0 m n

/-- A bit set of a record shows its clamped word. -/
theorem clamp_mask {k m : Nat} (n : Nat) (h : m < 2 ^ k) :
    (BitVec.ofNat k (clampNat 0 m n)).zeroExtend 16 = word (clamp 0 m n) := by
  rw [← clamp_bits n h, word_ofNat]
  exact BitVec.eq_of_toNat_eq (by simp [BitVec.toNat_setWidth])

theorem roleCode_roleOfCode (n : Nat) : ((roleCode (roleOfCode n) : Nat) : Int) = clamp 0 2 n := by
  match n with
  | 0 => rfl
  | 1 => rfl
  | k + 2 =>
    show (2 : Int) = _
    unfold clamp
    split_ifs <;> omega

theorem natCast_min (hi n : Nat) : ((min n hi : Nat) : Int) = clamp 0 hi n := by
  rw [min_comm, ← clampNat_zero]
  exact natCast_clampNat 0 hi n

/-! ## A written field, table by table -/

theorem readStation_writeStation_same {s σ : State} {f : Nat} {x : Word} {v : Int}
    (h : clampedWrite σ .station f x = some v) (other : f ≠ 9) :
    ((readStation { s with station := writeStation f (unsigned x) s.station } f : Nat) : Int) = v := by
  match f, h, other with
  | 5, h, _ => exact (natCast_clampNat 1250 12500 _).trans (Option.some.inj h)
  | 6, h, _ | 7, h, _ => exact (natCast_clampNat 0 255 _).trans (Option.some.inj h)
  | 8, h, _ => exact (natCast_clampNat 1 16 _).trans (Option.some.inj h)
  | 10, h, _ => exact (natCast_clampNat 1 15 _).trans (Option.some.inj h)
  | 11, h, _ | 12, h, _ | 13, h, _ => exact (clamp_word x).symm.trans (Option.some.inj h)
  | 14, h, _ | 15, h, _ => exact (natCast_clampNat 0 127 _).trans (Option.some.inj h)
  | 16, h, _ => exact (natCast_clampNat 0 6 _).trans (Option.some.inj h)
  | 17, h, _ | 18, h, _ => exact (clamp_bits _ (by decide)).trans (Option.some.inj h)
  | 19, h, _ => exact (clamp_flag _).trans (Option.some.inj h)
  | 9, _, other => exact absurd rfl other
  | 0, h, _ | 1, h, _ | 2, h, _ | 3, h, _ | 4, h, _ => cases h
  | n + 20, h, _ => simp [clampedWrite] at h

theorem writeI2tLim_eq (n : Nat) (ch : Channel) : writeI2tLim n ch = { ch with
    record := { ch.record with i2tLim := min n 32767 }
    i2t := min ch.i2t (min n 32767 * 65536)
    foldback := if min n 32767 * 65536 < ch.i2t then decide (0 < min n 32767) else ch.foldback } := by
  unfold writeI2tLim
  rw [clampNat_zero, min_comm 32767 n]
  dsimp only
  split
  · next below => rw [min_eq_right below.le]
  · next within => rw [min_eq_left (not_lt.1 within)]

theorem readChannel_writeChannel_same {σ : State} {ch : Channel} {f : Nat} {x : Word} {v : Int}
    (h : clampedWrite σ .channel f x = some v) : readChannel (writeChannel f x ch) f = word v := by
  match f, h with
  | 0, h => exact congrArg word ((natCast_clampNat 1 32 _).trans (Option.some.inj h))
  | 1, h | 9, h => exact congrArg word ((clamp_word x).symm.trans (Option.some.inj h))
  | 2, h => exact congrArg word ((natCast_clampNat 0 15 _).trans (Option.some.inj h))
  | 3, h | 4, h | 5, h => exact congrArg word ((natCast_clampNat 0 32767 _).trans (Option.some.inj h))
  | 6, h =>
    have limit : readChannel (writeI2tLim (unsigned x) ch) 6 = word (min x.toNat 32767 : Nat) := by
      rw [writeI2tLim_eq]; rfl
    exact limit.trans (congrArg word ((natCast_min 32767 _).trans (Option.some.inj h)))
  | 7, h => exact congrArg word ((natCast_clampNat 1 32767 _).trans (Option.some.inj h))
  | 8, h => exact congrArg word ((roleCode_roleOfCode _).trans (Option.some.inj h))
  | 10, h | 11, h => exact (clamp_mask (m := 31) _ (by decide)).trans (congrArg word (Option.some.inj h))
  | 12, h | 13, h | 15, h => exact congrArg word (Option.some.inj h)
  | 14, h => exact congrArg word ((natCast_clampNat 0 32768 _).trans (Option.some.inj h))
  | 16, h => exact (clamp_mask (m := 63) _ (by decide)).trans (congrArg word (Option.some.inj h))
  | n + 17, h => simp [clampedWrite] at h

theorem readSlot_writeSlot_same {σ : State} {e : SlotEntry} {f : Nat} {x : Word} {v : Int}
    (h : clampedWrite σ .slotMap f x = some v) : ((readSlot (writeSlot f (unsigned x) e) f : Nat) : Int) = v := by
  match f, h with
  | 0, h | 2, h | 6, h => exact (clamp_flag _).trans (Option.some.inj h)
  | 1, h => exact (natCast_clampNat 0 127 _).trans (Option.some.inj h)
  | 3, h =>
    have small : (chanOf (min (unsigned x) 7)).val = min (unsigned x) 7 := Nat.mod_eq_of_lt (by omega)
    show ((chanOf (min (unsigned x) 7)).val : Int) = v
    rw [small]
    exact (natCast_min 7 _).trans (Option.some.inj h)
  | 4, h => exact (natCast_min 6 _).trans (Option.some.inj h)
  | 5, h => exact (natCast_clampNat 0 7 _).trans (Option.some.inj h)
  | n + 7, h => simp [clampedWrite] at h

theorem readGain_writeGain_same {σ : State} {g : GainSet} {f : Nat} {x : Word} {v : Int}
    (h : clampedWrite σ .gainStaged f x = some v) : ((readGain (writeGain f (unsigned x) g) f : Nat) : Int) = v := by
  match f, h with
  | 0, h | 1, h | 2, h | 3, h | 5, h | 6, h => exact (clamp_word x).symm.trans (Option.some.inj h)
  | 4, h => exact (natCast_clampNat 0 32767 _).trans (Option.some.inj h)
  | n + 7, h => simp [clampedWrite] at h

theorem readSched_writeSched_same {σ : State} {y : Schedule} {f : Nat} {x : Word} {v : Int}
    (h : clampedWrite σ .schedStaged f x = some v) : ((readSched (writeSched f (unsigned x) y) f : Nat) : Int) = v := by
  match f, h with
  | 0, h => exact (natCast_clampNat 1 4 _).trans (Option.some.inj h)
  | 1, h | 2, h | 3, h | 4, h => exact (clamp_word x).symm.trans (Option.some.inj h)
  | 5, h | 6, h | 7, h | 8, h => exact (natCast_min 15 _).trans (Option.some.inj h)
  | n + 9, h => simp [clampedWrite] at h

theorem clamp_to_zero (n : Nat) : (0 : Int) = clamp 0 0 n := by
  unfold clamp
  split_ifs <;> omega

theorem readCounter_clearCounter_same {σ : State} {k : Counters} {f : Nat} {x : Word} {v : Int}
    (h : clampedWrite σ .counters f x = some v) : ((readCounter (clearCounter f k) f : Nat) : Int) = v := by
  match f, h with
  | 0, h | 1, h | 2, h | 3, h | 4, h | 5, h | 6, h | 7, h | 8, h | 9, h =>
    exact (clamp_to_zero _).trans (Option.some.inj h)
  | n + 10, h => simp [clampedWrite] at h

theorem readTraceCfg_writeTraceCfg_same {σ : State} {y : TraceCfg} {f : Nat} {x : Word} {v : Int}
    (h : clampedWrite σ .traceCfg f x = some v) (other : f ≠ 10) :
    ((readTraceCfg (writeTraceCfg f (unsigned x) y) f : Nat) : Int) = v := by
  match f, h, other with
  | 0, h, _ | 2, h, _ | 4, h, _ | 6, h, _ =>
    have small : (chanOf (min (unsigned x) 7)).val = min (unsigned x) 7 := Nat.mod_eq_of_lt (by omega)
    show ((chanOf (min (unsigned x) 7)).val : Int) = v
    rw [small]
    exact (natCast_min 7 _).trans (Option.some.inj h)
  | 1, h, _ | 3, h, _ | 5, h, _ | 7, h, _ => exact (natCast_clampNat 0 13 _).trans (Option.some.inj h)
  | 8, h, _ => exact (natCast_clampNat 1 256 _).trans (Option.some.inj h)
  | 9, h, _ => exact (clamp_flag _).trans (Option.some.inj h)
  | 10, _, other => exact absurd rfl other
  | 11, h, _ => exact (natCast_clampNat 0 3 _).trans (Option.some.inj h)
  | 12, h, _ =>
    have same : unsigned (BitVec.ofNat 16 (unsigned x)) = x.toNat := by unfold unsigned; rw [BitVec.ofNat_toNat]; rfl
    show ((unsigned (BitVec.ofNat 16 (unsigned x)) : Nat) : Int) = v
    rw [same]
    exact (clamp_word x).symm.trans (Option.some.inj h)
  | 13, h, _ => exact (clamp_bits _ (by decide)).trans (Option.some.inj h)
  | n + 14, h, _ => simp [clampedWrite] at h

/-! ## One word written into a table -/

theorem getD_modifyAt {α : Type} {n : Nat} (v : Vector α n) {i k : Nat} (hk : k < n) (f : α → α) (d : α) :
    (modifyAt v i f).toList.getD k d = if i = k then f (v.toList.getD k d) else v.toList.getD k d := by
  unfold modifyAt
  split
  · next hi =>
    rw [Vector.toList_set, List.getD_eq_getElem?_getD, List.getD_eq_getElem?_getD, List.getElem?_set]
    by_cases same : i = k
    · subst same; simp [hk]
    · rw [if_neg same, if_neg same]
  · next hi => rw [if_neg (by omega)]

theorem chanOf_injective {a b : Nat} (ha : a < 8) (hb : b < 8) (h : chanOf a = chanOf b) : a = b := by
  have same := congrArg Fin.val h
  simp only [chanOf] at same
  omega

/-- The fields that are clamped once the whole commit has been written (R125, R171). -/
def ClampsLate (tb : Table) (f : Nat) : Prop := (tb = .station ∧ f = 9) ∨ (tb = .traceCfg ∧ f = 10)

/-- A written field reads the clamped word. -/
theorem readField_writeField_same {s σ : State} {tb : Table} {x : WordWrite} {v : Int}
    (inside : x.entry < tableEntries tb) (h : clampedWrite σ tb x.field x.word = some v)
    (early : ¬ ClampsLate tb x.field) : readField (writeField s tb x) tb x.entry x.field = word v := by
  cases tb with
  | station => exact congrArg word (readStation_writeStation_same h fun e => early (.inl ⟨rfl, e⟩))
  | channel =>
    show readChannel ((s.modChan (chanOf x.entry) _).chan (chanOf x.entry)) x.field = _
    rw [State.modChan_chan_same]
    exact readChannel_writeChannel_same h
  | slotMap =>
    refine congrArg word (Eq.trans ?_ (readSlot_writeSlot_same (e := s.slotMap.toList.getD x.entry {}) h))
    show ((readSlot ((modifyAt s.slotMap x.entry _).toList.getD x.entry {}) x.field : Nat) : Int) = _
    rw [getD_modifyAt (n := 48) _ inside, if_pos rfl]
  | gainStaged =>
    refine congrArg word (Eq.trans ?_ (readGain_writeGain_same (g := s.staged.gains.toList.getD x.entry {}) h))
    show ((readGain ((modifyAt s.staged.gains x.entry _).toList.getD x.entry {}) x.field : Nat) : Int) = _
    rw [getD_modifyAt (n := 16) _ inside, if_pos rfl]
  | schedStaged =>
    refine congrArg word (Eq.trans ?_ (readSched_writeSched_same (y := s.staged.scheds.toList.getD x.entry {}) h))
    show ((readSched ((modifyAt s.staged.scheds x.entry _).toList.getD x.entry {}) x.field : Nat) : Int) = _
    rw [getD_modifyAt (n := 8) _ inside, if_pos rfl]
  | counters => exact congrArg word (readCounter_clearCounter_same h)
  | traceCfg => exact congrArg word (readTraceCfg_writeTraceCfg_same h fun e => early (.inr ⟨rfl, e⟩))
  | gainActive | schedActive | faults | traceData => simp [clampedWrite] at h

theorem readFault_writeChannel (ch : Channel) (f g : Nat) (x : Word) :
    readFault (writeChannel g x ch) f = readFault ch f := by
  rw [show writeChannel g x ch = _ from writeChannel_writes g x ch]
  rfl

/-- A written field leaves the other fields of all tables. -/
theorem readField_writeField_other {s : State} {tb : Table} {x : WordWrite} (inside : x.entry < tableEntries tb)
    {t : Table} {e f : Nat} (he : e < tableEntries t) (other : t = tb → (x.entry, x.field) ≠ (e, f)) :
    readField (writeField s tb x) t e f = readField s t e f := by
  have elsewhere (same : t = tb) : x.entry ≠ e ∨ f ≠ x.field := by
    by_contra both
    push Not at both
    exact other same (by rw [both.1, both.2])
  cases tb with
  | station =>
    cases t with
    | station =>
      have alone : x.entry = e := (Nat.lt_one_iff.1 inside).trans (Nat.lt_one_iff.1 he).symm
      exact congrArg (fun n : Nat => word n) (readStation_writeStation s _ _ _ ((elsewhere rfl).resolve_left (· alone)))
    | _ => rfl
  | channel =>
    have chan (d : Nat) (hd : d < 8) (apart : x.entry ≠ d) :
        (writeField s .channel x).chan (chanOf d) = s.chan (chanOf d) :=
      State.modChan_chan_other s _ fun same => apart (chanOf_injective inside hd same.symm)
    have own : (writeField s .channel x).chan (chanOf x.entry) = writeChannel x.field x.word (s.chan (chanOf x.entry)) :=
      State.modChan_chan_same ..
    cases t with
    | channel =>
      show readChannel ((writeField s .channel x).chan (chanOf e)) f = readChannel (s.chan (chanOf e)) f
      by_cases same : x.entry = e
      · subst same
        rw [own]
        exact readChannel_writeChannel _ _ _ _ ((elsewhere rfl).resolve_left (· rfl))
      · rw [chan e he same]
    | faults =>
      show readFault ((writeField s .channel x).chan (chanOf e)) f = readFault (s.chan (chanOf e)) f
      by_cases same : x.entry = e
      · subst same
        rw [own, readFault_writeChannel]
      · rw [chan e he same]
    | _ => rfl
  | slotMap =>
    cases t with
    | slotMap =>
      show word (readSlot ((modifyAt s.slotMap x.entry _).toList.getD e {}) f) = _
      rw [getD_modifyAt (n := 48) _ he]
      split
      · next same => rw [readSlot_writeSlot _ _ _ _ ((elsewhere rfl).resolve_left (· same))]; rfl
      · rfl
    | _ => rfl
  | gainStaged =>
    cases t with
    | gainStaged =>
      show word (readGain ((modifyAt s.staged.gains x.entry _).toList.getD e {}) f) = _
      rw [getD_modifyAt (n := 16) _ he]
      split
      · next same => rw [readGain_writeGain _ _ _ _ ((elsewhere rfl).resolve_left (· same))]; rfl
      · rfl
    | _ => rfl
  | schedStaged =>
    cases t with
    | schedStaged =>
      show word (readSched ((modifyAt s.staged.scheds x.entry _).toList.getD e {}) f) = _
      rw [getD_modifyAt (n := 8) _ he]
      split
      · next same => rw [readSched_writeSched _ _ _ _ ((elsewhere rfl).resolve_left (· same))]; rfl
      · rfl
    | _ => rfl
  | counters =>
    cases t with
    | counters =>
      have alone : x.entry = e := (Nat.lt_one_iff.1 inside).trans (Nat.lt_one_iff.1 he).symm
      exact congrArg (fun n : Nat => word n) (readCounter_clearCounter _ _ _ ((elsewhere rfl).resolve_left (· alone)))
    | _ => rfl
  | traceCfg =>
    cases t with
    | traceCfg =>
      have alone : x.entry = e := (Nat.lt_one_iff.1 inside).trans (Nat.lt_one_iff.1 he).symm
      exact congrArg (fun n : Nat => word n) (readTraceCfg_writeTraceCfg _ _ _ _ ((elsewhere rfl).resolve_left (· alone)))
    | _ => rfl
  | gainActive | schedActive | faults | traceData => rfl

/-! ## The words of a record -/

/-- The words of a record, before the clamps that wait for all of them. -/
def writeFields (tb : Table) (xs : List WordWrite) (s : State) : State := xs.foldl (fun s x => writeField s tb x) s

theorem writeWords_eq (tb : Table) (xs : List WordWrite) (s : State) :
    writeWords tb xs s = clampAfterWrite tb (writeFields tb xs s) := rfl

theorem readField_writeFields_other {tb : Table} {t : Table} {e f : Nat} (he : e < tableEntries t) (xs : List WordWrite) :
    ∀ s, (∀ x ∈ xs, x.entry < tableEntries tb) → (t = tb → ∀ x ∈ xs, (x.entry, x.field) ≠ (e, f)) →
      readField (writeFields tb xs s) t e f = readField s t e f := by
  induction xs with
  | nil => exact fun _ _ _ => rfl
  | cons x xs ih =>
    intro s inside other
    obtain ⟨here, later⟩ := List.forall_mem_cons.1 inside
    have step := ih (writeField s tb x) later fun same => (List.forall_mem_cons.1 (other same)).2
    exact step.trans (readField_writeField_other here he fun same => (List.forall_mem_cons.1 (other same)).1)

/-- The last word written to a field is the one that stays there. -/
theorem readField_writeFields_last {σ s : State} {tb : Table} {ys zs : List WordWrite} {x : WordWrite} {v : Int}
    (inside : ∀ y ∈ ys ++ x :: zs, y.entry < tableEntries tb)
    (last : ∀ z ∈ zs, (z.entry, z.field) ≠ (x.entry, x.field)) (h : clampedWrite σ tb x.field x.word = some v)
    (early : ¬ ClampsLate tb x.field) :
    readField (writeFields tb (ys ++ x :: zs) s) tb x.entry x.field = word v := by
  obtain ⟨-, from_x⟩ := List.forall_mem_append.1 inside
  obtain ⟨here, later⟩ := List.forall_mem_cons.1 from_x
  have split : writeFields tb (ys ++ x :: zs) s = writeFields tb zs (writeField (writeFields tb ys s) tb x) := by
    unfold writeFields; rw [List.foldl_append]; rfl
  rw [split, readField_writeFields_other here zs _ later fun _ => last]
  exact readField_writeField_same here h early

/-! ## The clamps that wait for the whole record -/

theorem readField_clampAfterWrite {tb t : Table} {f : Nat} (early : t = tb → ¬ ClampsLate tb f) (s : State) (e : Nat) :
    readField (clampAfterWrite tb s) t e f = readField s t e f := by
  cases tb with
  | station =>
    cases t with
    | station =>
      show word (readStation { s with station := clampCycleTol s.station } f) = word (readStation s f)
      have away : f ≠ 9 := fun nine => early rfl (.inl ⟨rfl, nine⟩)
      refine congrArg (fun n : Nat => word n) ?_
      unfold readStation
      split <;> first | rfl | exact absurd rfl away
    | _ => rfl
  | traceCfg =>
    cases t with
    | traceCfg =>
      show word (readTraceCfg (clampPreCount s.trace.cfg) f) = word (readTraceCfg s.trace.cfg f)
      have away : f ≠ 10 := fun ten => early rfl (.inr ⟨rfl, ten⟩)
      refine congrArg (fun n : Nat => word n) ?_
      unfold readTraceCfg
      split <;> first | rfl | exact absurd rfl away
    | _ => rfl
  | channel | slotMap | gainStaged | gainActive | schedStaged | schedActive | faults | counters | traceData => rfl

theorem cycleTol_writeStation {f : Nat} (other : f ≠ 9) (n : Nat) (st : StationSettings) :
    (writeStation f n st).cycleTol = st.cycleTol := by
  unfold writeStation
  split <;> first | rfl | exact absurd rfl other

theorem preCount_writeTraceCfg {f : Nat} (other : f ≠ 10) (n : Nat) (x : TraceCfg) :
    (writeTraceCfg f n x).preCount = x.preCount := by
  unfold writeTraceCfg
  split <;> first | rfl | exact absurd rfl other

theorem cycleTol_writeFields (xs : List WordWrite) : ∀ s, (∀ x ∈ xs, x.field ≠ 9) →
    (writeFields .station xs s).station.cycleTol = s.station.cycleTol := by
  induction xs with
  | nil => exact fun _ _ => rfl
  | cons x xs ih =>
    intro s other
    obtain ⟨here, later⟩ := List.forall_mem_cons.1 other
    exact (ih (writeField s .station x) later).trans (cycleTol_writeStation here _ _)

theorem preCount_writeFields (xs : List WordWrite) : ∀ s, (∀ x ∈ xs, x.field ≠ 10) →
    (writeFields .traceCfg xs s).trace.cfg.preCount = s.trace.cfg.preCount := by
  induction xs with
  | nil => exact fun _ _ => rfl
  | cons x xs ih =>
    intro s other
    obtain ⟨here, later⟩ := List.forall_mem_cons.1 other
    exact (ih (writeField s .traceCfg x) later).trans (preCount_writeTraceCfg here _ _)

/-- A word written to CYCLE_TOL stands there unclamped until the others have been written. -/
theorem cycleTol_writeFields_last {ys zs : List WordWrite} {x : WordWrite} (field : x.field = 9)
    (last : ∀ z ∈ zs, z.field ≠ 9) (s : State) :
    (writeFields .station (ys ++ x :: zs) s).station.cycleTol = x.word.toNat := by
  have split : writeFields .station (ys ++ x :: zs) s =
      writeFields .station zs (writeField (writeFields .station ys s) .station x) := by
    unfold writeFields; rw [List.foldl_append]; rfl
  rw [split, cycleTol_writeFields zs _ last]
  show (writeStation x.field _ _).cycleTol = _
  rw [field]
  rfl

theorem preCount_writeFields_last {ys zs : List WordWrite} {x : WordWrite} (field : x.field = 10)
    (last : ∀ z ∈ zs, z.field ≠ 10) (s : State) :
    (writeFields .traceCfg (ys ++ x :: zs) s).trace.cfg.preCount = x.word.toNat := by
  have split : writeFields .traceCfg (ys ++ x :: zs) s =
      writeFields .traceCfg zs (writeField (writeFields .traceCfg ys s) .traceCfg x) := by
    unfold writeFields; rw [List.foldl_append]; rfl
  rw [split, preCount_writeFields zs _ last]
  show (writeTraceCfg x.field _ _).preCount = _
  rw [field]
  rfl

/-! ## I2T_LIM (R69) -/

/-- What one word makes of the i2t level and foldback of channel `c`. -/
def levelAfter (c : Chan) (level : Nat × Bool) (x : WordWrite) : Nat × Bool :=
  if x.entry = c.val ∧ x.field = 6 ∧ min x.word.toNat 32767 * 65536 < level.1 then
    (min x.word.toNat 32767 * 65536, decide (0 < x.word.toNat))
  else level

theorem writeChannel_level_other {f : Nat} (other : f ≠ 6) (x : Word) (ch : Channel) :
    (writeChannel f x ch).i2t = ch.i2t ∧ (writeChannel f x ch).foldback = ch.foldback := by
  unfold writeChannel
  split <;> first | exact ⟨rfl, rfl⟩ | exact absurd rfl other

theorem writeField_level {x : WordWrite} (inside : x.entry < 8) (s : State) (c : Chan) :
    (((writeField s .channel x).chan c).i2t, ((writeField s .channel x).chan c).foldback) =
      levelAfter c ((s.chan c).i2t, (s.chan c).foldback) x := by
  unfold levelAfter
  by_cases own : x.entry = c.val
  · have chan : (writeField s .channel x).chan c = writeChannel x.field x.word (s.chan c) := by
      have at_c : chanOf x.entry = c := by rw [own, chanOf_val]
      show (s.modChan (chanOf x.entry) _).chan c = _
      rw [at_c, State.modChan_chan_same]
    rw [chan]
    by_cases limit : x.field = 6
    · have written : writeChannel x.field x.word (s.chan c) = writeI2tLim x.word.toNat (s.chan c) := by rw [limit]; rfl
      have above : decide (0 < min x.word.toNat 32767) = decide (0 < x.word.toNat) := by
        rw [decide_eq_decide]; omega
      rw [written, writeI2tLim_eq]
      dsimp only
      by_cases below : min x.word.toNat 32767 * 65536 < (s.chan c).i2t
      · rw [if_pos below, if_pos ⟨own, limit, below⟩, min_eq_right below.le, above]
      · rw [if_neg below, if_neg fun all => below all.2.2, min_eq_left (not_lt.1 below)]
    · obtain ⟨level, foldback⟩ := writeChannel_level_other limit x.word (s.chan c)
      rw [if_neg fun all => limit all.2.1, level, foldback]
  · have chan : (writeField s .channel x).chan c = s.chan c := by
      refine State.modChan_chan_other s _ fun same => own ?_
      rw [same]
      exact (Nat.mod_eq_of_lt inside).symm
    rw [if_neg fun all => own all.1, chan]

theorem writeFields_level (c : Chan) (xs : List WordWrite) : ∀ s, (∀ x ∈ xs, x.entry < 8) →
    (((writeFields .channel xs s).chan c).i2t, ((writeFields .channel xs s).chan c).foldback) =
      xs.foldl (levelAfter c) ((s.chan c).i2t, (s.chan c).foldback) := by
  induction xs with
  | nil => exact fun _ _ => rfl
  | cons x xs ih =>
    intro s inside
    obtain ⟨here, later⟩ := List.forall_mem_cons.1 inside
    rw [List.foldl_cons, ← writeField_level here]
    exact ih (writeField s .channel x) later

/-! ## The commit -/

/-- The commit of a record reads as the state before it, but for FRAMES and SERVICE. -/
theorem readField_atCommit (s : State) (f : FrameCtx) (at_ : Nat) (clears : Bool) (r : List Word) {t : Table}
    (e : Nat) {k : Nat} (other : t ≠ .counters ∨ (k ≠ 0 ∧ k ≠ 8)) :
    readField (afterService s f at_ clears r) t e k = readField s t e k := by
  cases t with
  | counters =>
    obtain ⟨frames, service⟩ := other.resolve_left (· rfl)
    show word (readCounter { s.counters with frames := _, service := _ } k) = word (readCounter s.counters k)
    refine congrArg (fun n : Nat => word n) ?_
    unfold readCounter
    split <;> first | rfl | exact absurd rfl frames | exact absurd rfl service
  | station | channel | slotMap | gainStaged | gainActive | schedStaged | schedActive | faults | traceCfg
  | traceData => rfl

/-- No table shows the Service Unit. -/
theorem readField_service (s : State) (u : ServiceUnit) (t : Table) (e k : Nat) :
    readField { s with service := u } t e k = readField s t e k := by cases t <;> rfl

/-- The bound of PRE_COUNT, by MODE (R171). -/
theorem captureLength_sub_one (x : TraceCfg) : captureLength x - 1 = if x.segmented then 1023 else 4095 := by
  unfold captureLength
  split <;> rfl

/-- After the commit the last word written to a field stands there, clamped (R167). -/
theorem readField_writeWords_last {s σ : State} {tb : Table} {ys zs : List WordWrite} {x : WordWrite} {v : Int}
    (inside : ∀ y ∈ ys ++ x :: zs, y.entry < tableEntries tb)
    (last : ∀ z ∈ zs, (z.entry, z.field) ≠ (x.entry, x.field))
    (station : σ.station = (writeWords tb (ys ++ x :: zs) s).station)
    (cfg : σ.trace.cfg = (writeWords tb (ys ++ x :: zs) s).trace.cfg)
    (h : clampedWrite σ tb x.field x.word = some v) :
    readField (writeWords tb (ys ++ x :: zs) s) tb x.entry x.field = word v := by
  have single {z : WordWrite} (hz : z ∈ zs) (one : tableEntries tb = 1) : z.field ≠ x.field := by
    have zero {y : WordWrite} (hy : y ∈ ys ++ x :: zs) : y.entry = 0 := Nat.lt_one_iff.1 (one ▸ inside y hy)
    exact fun same => last z hz (by rw [zero (by simp [hz]), zero (y := x) (by simp), same])
  by_cases late : ClampsLate tb x.field
  · rcases late with ⟨rfl, field⟩ | ⟨rfl, field⟩
    · have raw := cycleTol_writeFields_last (ys := ys) field (fun z hz => field ▸ single hz rfl) s
      have clamped : clamp 0 (cycleTolBound σ.station : Nat) x.word.toNat = v := by
        rw [field] at h
        refine Eq.trans ?_ (Option.some.inj h)
        rw [cycleTolBound]; push_cast; rfl
      rw [field, ← clamped, ← natCast_min, station, ← raw]
      rfl
    · have raw := preCount_writeFields_last (ys := ys) field (fun z hz => field ▸ single hz rfl) s
      have clamped : clamp 0 (if σ.trace.cfg.segmented then 1023 else 4095) x.word.toNat = v := by
        rw [field] at h; exact Option.some.inj h
      have bound : (if σ.trace.cfg.segmented then 1023 else 4095 : Int) = (captureLength σ.trace.cfg - 1 : Nat) := by
        rw [captureLength_sub_one]; split <;> rfl
      rw [field, ← clamped, bound, ← natCast_min, cfg, ← raw]
      rfl
  · rw [writeWords_eq, readField_clampAfterWrite fun _ => late]
    exact readField_writeFields_last inside last h late

/-- Settles O45. -/
theorem writtenFieldHoldsTheClampedWord : Obligations.WrittenFieldHoldsTheClampedWord := by
  unfold Obligations.WrittenFieldHoldsTheClampedWord
  refine ⟨fun s fr h at_ clears start refused w xs q g hw live accepted => ?_,
    fun s fr h at_ clears w c x q lim g hw table same => ?_⟩
  · obtain ⟨u, v, hu, written, hv, run⟩ := commits_write at_ g hw live
    have inside : ∀ x ∈ xs, x.entry < tableEntries w.table := fun x hx => (accepted x hx).1
    refine ⟨_, run, fun ys zs x value cut last clamped => ?_, fun tb e f he other counters tol pre => ?_,
      fun table away => ?_, fun table away => ?_, fun table c => ⟨?_, ?_⟩⟩
    · rw [readField_service]
      subst hv cut
      exact readField_writeWords_last inside last rfl rfl clamped
    · have early : tb = w.table → ¬ ClampsLate w.table f := by
        rintro rfl (⟨table, field⟩ | ⟨table, field⟩)
        · exact tol ⟨table, field, table⟩
        · exact pre ⟨table, field, table⟩
      rw [readField_service, hv, writeWords_eq, readField_clampAfterWrite early,
        readField_writeFields_other he xs u inside other, hu]
      exact readField_atCommit s fr at_ clears _ e counters
    · have kept := cycleTol_writeFields xs u away
      subst hv
      rw [table]
      show min (writeFields .station xs u).station.cycleTol _ = _
      rw [kept, hu]
      rfl
    · have kept := preCount_writeFields xs u away
      subst hv
      rw [table, ← captureLength_sub_one]
      show min (writeFields .traceCfg xs u).trace.cfg.preCount _ = _
      rw [kept, hu]
      rfl
    · have chan := written.channels c
      rw [hu] at chan
      exact chan
    · have level := writeFields_level c xs u (by rw [table] at inside; exact inside)
      subst hv hu
      rw [table]
      exact level
  · obtain ⟨u, v, hu, -, hv, run⟩ := commits_write at_ g hw (.inl rfl)
    have chans : v = u.modChan c (writeI2tLim x.toNat) := by
      rw [hv, table, writeWords_eq]
      show u.modChan (chanOf c.val) _ = _
      rw [chanOf_val]
      rfl
    refine ⟨_, run, fun d other => ?_, ?_⟩
    · show v.chan d = _
      rw [chans, State.modChan_chan_other u _ other, hu]
      rfl
    · show v.chan c = _
      rw [chans, State.modChan_chan_same, writeI2tLim_eq, ← same, hu]
      rfl

end Sys2Proof.Machine
end

section
/-! The commit of a CYCLE frame (R122, R145): the parts it consists of, its timer, counters and latches, and a
record that the frame carries. -/

namespace Sys2Proof.Machine

open Sys2Proof Relation

/-! ## Work of an instant is not touched -/

theorem foldl_moment {α : Type} {f : State → α → State} (h : ∀ s a, (f s a).moment = s.moment) (l : List α) :
    ∀ s, (l.foldl f s).moment = s.moment := by
  induction l with
  | nil => exact fun _ => rfl
  | cons a l ih => exact fun s => (ih _).trans (h s a)

theorem startRun_moment (c : Chan) (s : State) : (startRun c s).moment = s.moment := by
  unfold startRun
  split <;> rfl

theorem takeEnable_moment (c : Chan) (n : Control) (s : State) : (takeEnable c n s).moment = s.moment := by
  unfold takeEnable
  cases (s.chan c).state with
  | ready =>
    dsimp only
    split
    · exact startRun_moment c s
    · rfl
  | run | hold | off | calibrate | rampdown | fault => rfl

theorem commitStep4_moment (c : Chan) (p n : Control) (s : State) : (commitStep4 c p n s).moment = s.moment := by
  have enabled : (if rising (enableBit p) (enableBit n) then takeEnable c n s else s).moment = s.moment := by
    split
    · exact takeEnable_moment c n s
    · rfl
  unfold commitStep4
  dsimp only
  generalize (if rising (enableBit p) (enableBit n) then takeEnable c n s else s) = s1 at enabled ⊢
  split
  · exact (enterRampdown_moment c false false s1).1.trans enabled
  · exact enabled

theorem commitStep5_moment (c : Chan) (p n : Control) (s : State) : (commitStep5 c p n s).moment = s.moment := by
  unfold commitStep5
  dsimp only
  split <;> split <;> rfl

theorem commitSequence_moment (p n : Chan → Control) (s : State) : (commitSequence p n s).moment = s.moment := by
  unfold commitSequence
  dsimp only
  rw [foldl_moment fun s c => commitStep5_moment c _ _ s, foldl_moment fun s c => commitStep4_moment c _ _ s]
  rfl

theorem commitWrite_moment (start refused : Bool) (xs : List WordWrite) (q : Nat) (s : State) :
    (commitWrite start xs q refused s).state.moment = s.moment := by
  have now : (writeNow start xs q refused s).state.moment = s.moment := by
    unfold writeNow
    split
    · rfl
    · next w _ =>
      show (writeWords w.table xs s).moment = s.moment
      rw [(writeWords_writes w.table xs s).state]
  unfold commitWrite
  split
  · exact now
  · split
    · rfl
    · exact now

theorem applyGroup_channelsOnly (a : GroupAction) (first last : Chan) (s : State) :
    ChannelsOnly s (applyGroup a first last s) := by
  by_cases own : a = .rampdown
  · subst own; exact (foldl_rampedDown first last allChans s).only
  · exact (applyGroup_own own first last s).1

/-- No command of a record begins the work of an instant. -/
theorem executeCmd_moment (cmd : PendCmd) {s : State} (settled : s.moment = none) :
    (executeCmd cmd s).state.moment = none := by
  cases cmd with
  | resetStation =>
    show s.moment.map resetMoment = none
    rw [settled]; rfl
  | write start xs q refused => exact (commitWrite_moment start refused xs q s).trans settled
  | read start n =>
    have now (n p : Nat) : (readNow n p s).state.moment = s.moment := by unfold readNow; split <;> rfl
    show (commitRead start n s).state.moment = none
    rw [← settled]
    unfold commitRead
    split
    · exact now n 0
    · split
      · rfl
      · exact now n _
  | groupAction a first last =>
    show (applyGroup a first last s).moment = none
    rw [applyGroup_channelsOnly a first last s]
    exact settled
  | writeBusy start => cases start <;> exact settled
  | notExecuted | nop | getStatus | setCheck | goOperational | goRefused | leaveOperational | setWindow
  | stopStream | commitBank | copyActiveToStaged | tagFirst | tagLast | traceArm | traceStop | traceTrigger => exact settled

theorem commitRecord_moment (r : TakenRecord) {s : State} (settled : s.moment = none) :
    (commitRecord r s).moment = none := by
  have executed : (executeCmd r.cmd (if r.clearTags then clearTags s else s)).state.moment = none :=
    executeCmd_moment r.cmd (by split <;> exact settled)
  unfold commitRecord keepResult
  split <;> exact executed

/-! ## The parts of a cycle commit -/

/-- The Slot Engine's part changes the channels, gates and capture by the control words, the latches, and the
previous control words. -/
theorem commitSlots_only (xs : List LatchWrite) (s : State) : commitSlots xs s = { s with
    channels := (commitSlots xs s).channels, gates := (commitSlots xs s).gates, trace := (commitSlots xs s).trace,
    latches := (xs.foldl applyLatch s).latches,
    prevControl := Vector.ofFn fun c => ((xs.foldl applyLatch s).latch c).control } := by
  have moment := commitSequence_moment (xs.foldl applyLatch s).prevCtrl (fun c => ((xs.foldl applyLatch s).latch c).control)
    (xs.foldl applyLatch s)
  have keeps := (commitSequence_keeps (xs.foldl applyLatch s).prevCtrl
    (fun c => ((xs.foldl applyLatch s).latch c).control) (xs.foldl applyLatch s)).eq_with
  have latches := applyLatches_only xs s
  unfold commitSlots
  dsimp only
  rw [keeps, moment, latches]

/-- The timer and counters of a frame whose arrival is taken now. -/
def arrived (f : FrameCtx) (h : Header) (at_ : Nat) (s : State) : State :=
  takeArrival (stampCycle h.cycleCount.toNat (closeReception f (s.withNow (max s.now at_))))

theorem arrived_only (f : FrameCtx) (h : Header) (at_ : Nat) (s : State) :
    arrived f h at_ s = { s with
      now := max s.now at_
      port := (closeReception f s).port
      timer := { running := true, lastArrival := max s.now at_,
                 deadline := some (deadlineAfter s.station (max s.now at_)), missCount := 0, missed := false,
                 stamp := h.cycleCount.toNat }
      counters := (arrived f h at_ s).counters } := takeArrival_timer _

theorem cycleCount_of_header {f : FrameCtx} {h : Header} (header : f.header = some h) :
    cycleCountOf f = h.cycleCount.toNat := by unfold cycleCountOf; rw [header]; rfl

/-- The commit of a good CYCLE frame in OPERATIONAL, part by part. -/
theorem commitFrame_cycle {s : State} {f : FrameCtx} {h : Header} (at_ : Nat) (header : f.header = some h)
    (cycle : f.kind = .cycle) (phase : f.phase = .operational) (stays : leaving f = false) :
    commitFrame f (closeReception f (s.withNow (max s.now at_))) =
      commitService f (commitCounters f (commitSlots f.latches (arrived f h at_ s))) := by
  have operational : cycleOperational f = true := by unfold cycleOperational; rw [cycle, phase]; rfl
  have timer (u : State) : commitTimer f u = takeArrival (stampCycle h.cycleCount.toNat u) := by
    unfold commitTimer
    rw [if_pos cycle, if_pos phase, cycleCount_of_header header]
  have slots (u : State) : commitSlotEngine f u = commitSlots f.latches u := if_pos (by simp [operational, stays])
  unfold commitFrame
  rw [timer, slots]
  rfl

theorem commitSlots_moment (xs : List LatchWrite) (s : State) : (commitSlots xs s).moment = s.moment := by
  rw [commitSlots_only]

/-- The end of reception of a good CYCLE frame in OPERATIONAL. -/
theorem endOfReception_cycle {s : State} {f : FrameCtx} {h : Header} (at_ : Nat) (g : GoodCycle s f h) :
    exec (.endOfReception at_ []) s = .next (commitCounters f (commitSlots f.latches (arrived f h at_ s))) := by
  have stays : leaving f = false := by unfold leaving; rw [g.noRecord]
  have service (u : State) : commitService f u = u := by unfold commitService; rw [g.noRecord]
  have settled : (commitCounters f (commitSlots f.latches (arrived f h at_ s))).moment = none := by
    show (commitSlots f.latches (arrived f h at_ s)).moment = none
    rw [commitSlots_moment, arrived_only]
    exact g.settled
  rw [endOfReception_good at_ g.toGoodFrame, commitFrame_cycle at_ g.header g.cycle g.phase stays, service,
    resume_of_none settled]

/-! ## The counters -/

/-- A frame is short when a valid entry resolves beyond its slot words (R140). -/
theorem shortFor_iff (s : State) (n : Nat) :
    shortFor s n = true ↔ ∃ i : Fin 48, s.slotMap[i].valid = true ∧ n ≤ resolves s i := by
  unfold shortFor
  rw [List.any_eq_true]
  constructor
  · rintro ⟨e, member, short⟩
    obtain ⟨i, hi, rfl⟩ := List.mem_iff_getElem.1 member
    rw [Bool.and_eq_true_iff, decide_eq_true_iff] at short
    exact ⟨⟨i, by simpa using hi⟩, short⟩
  · rintro ⟨i, valid, beyond⟩
    refine ⟨s.slotMap[i], by simp, ?_⟩
    rw [Bool.and_eq_true_iff, decide_eq_true_iff]
    exact ⟨valid, beyond⟩

theorem isShort_cycle {s : State} {f : FrameCtx} {h : Header} (header : f.header = some h) (cycle : f.kind = .cycle)
    (phase : f.phase = .operational) : isShort s f = shortFor s h.slotCount.toNat := by
  unfold isShort cycleOperational
  rw [header, cycle, phase]
  rfl

theorem arrived_counters_stopped {s : State} {f : FrameCtx} {h : Header} {at_ : Nat} (stopped : s.timer.running = false) :
    (arrived f h at_ s).counters = s.counters := by
  have still : ((stampCycle h.cycleCount.toNat (closeReception f (s.withNow (max s.now at_)))).timer.running) = false :=
    stopped
  unfold arrived takeArrival
  rw [still]
  rfl

theorem arrived_counters_running {s : State} {f : FrameCtx} {h : Header} {at_ : Nat} (runs : s.timer.running = true) :
    (arrived f h at_ s).counters =
      countArrival (isEarly s.station s.timer (max s.now at_)) s.timer.missed s.counters := by
  have still : ((stampCycle h.cycleCount.toNat (closeReception f (s.withNow (max s.now at_)))).timer.running) = true :=
    runs
  unfold arrived takeArrival
  rw [still]
  rfl

theorem arrived_counters (s : State) (f : FrameCtx) (h : Header) (at_ : Nat) :
    (arrived f h at_ s).counters = { s.counters with
      early := (arrived f h at_ s).counters.early, late := (arrived f h at_ s).counters.late } := by
  cases runs : s.timer.running with
  | true => rw [arrived_counters_running runs]; rfl
  | false => rw [arrived_counters_stopped runs]

theorem isEarly_iff (st : StationSettings) (k : CycleTimer) (t : Nat) : isEarly st k t = true ↔
    (t : Int) < k.lastArrival + st.cycleRatio * (2 * st.carrierH) - st.cycleTol := by
  unfold isEarly cyclePeriod
  rw [decide_eq_true_iff]
  constructor
  · intro early
    have : ((t + st.cycleTol : Nat) : Int) < ((k.lastArrival + st.cycleRatio * (2 * st.carrierH) : Nat) : Int) :=
      Int.ofNat_lt.2 early
    push_cast at this
    linarith
  · intro early
    have : ((t + st.cycleTol : Nat) : Int) < ((k.lastArrival + st.cycleRatio * (2 * st.carrierH) : Nat) : Int) := by
      push_cast; linarith
    exact Int.ofNat_lt.1 this

/-! ## The frame without its record -/

theorem closeReception_eq {s : State} {f : FrameCtx} {h : Header} (g : GoodFrame s f h) (at_ : Nat) :
    closeReception f (s.withNow (max s.now at_)) = { s with
      now := max s.now at_
      port := { s.port with receiving := none, leaving := s.port.leaving ++ [{ f with verdict := .good }] } } := by
  unfold closeReception
  rw [verdictOf_good g]
  rfl

/-- The Cycle Timer's and the Slot Engine's parts do not look at the frame's record, unless it leaves OPERATIONAL. -/
theorem commitSlotEngine_unrecorded {f : FrameCtx} (stays : cycleOperational f = true → leaving f = false) (s : State) :
    commitSlotEngine f s = commitSlotEngine { f with taken := none } s := by
  unfold commitSlotEngine
  cases operational : cycleOperational f with
  | true =>
    have same : cycleOperational { f with taken := none } = true := operational
    rw [stays operational, same]
    rfl
  | false =>
    have same : cycleOperational { f with taken := none } = false := operational
    rw [same]
    rfl

/-- The commit of a frame is that of the frame without its record, with the record counted and committed last. -/
theorem commitFrame_recorded {f : FrameCtx} {r : TakenRecord} (taken : f.taken = some r)
    (stays : cycleOperational f = true → leaving f = false) (s : State) :
    commitFrame f s = commitRecord r ((commitFrame { f with taken := none } s).withCounters
      { (commitFrame { f with taken := none } s).counters with
        service := bump (commitFrame { f with taken := none } s).counters.service
        checkFails := if r.answered && r.checkFail then bump (commitFrame { f with taken := none } s).counters.checkFails
          else (commitFrame { f with taken := none } s).counters.checkFails }) := by
  have slots : commitSlotEngine f (commitTimer f s) = commitSlotEngine { f with taken := none } (commitTimer f s) :=
    commitSlotEngine_unrecorded stays _
  unfold commitFrame
  rw [slots]
  unfold commitService
  rw [taken]
  unfold commitCounters
  rw [taken]
  rfl

/-! ## The commit does not look at the Ring Port -/

theorem foldl_withPort {α : Type} {f : State → α → State} {p : RingPort}
    (h : ∀ s a, f (s.withPort p) a = (f s a).withPort p) (l : List α) :
    ∀ s, l.foldl f (s.withPort p) = (l.foldl f s).withPort p := by
  induction l with
  | nil => exact fun _ => rfl
  | cons a l ih => exact fun s => by rw [List.foldl_cons, h, ih]; rfl

theorem ite_withPort (c : Prop) [Decidable c] (a b : State) (p : RingPort) :
    (if c then a.withPort p else b.withPort p) = (if c then a else b).withPort p := by split <;> rfl

theorem enterRampdown_withPort (c : Chan) (r q : Bool) (s : State) (p : RingPort) :
    enterRampdown c r q (s.withPort p) = (enterRampdown c r q s).withPort p := by
  unfold enterRampdown
  exact ite_withPort (pairedLeader s c && runOrHold ((s.modChan c (toRampdown r q)).chan (partnerOf c)).state)
    ((s.modChan c (toRampdown r q)).modChan (partnerOf c) (toRampdown r false)) (s.modChan c (toRampdown r q)) p

theorem startRun_withPort (c : Chan) (s : State) (p : RingPort) :
    startRun c (s.withPort p) = (startRun c s).withPort p :=
  ite_withPort (pairedLeader s c) (enterRun (partnerOf c) (enterRun c s)) (enterRun c s) p

theorem takeEnable_withPort (c : Chan) (n : Control) (s : State) (p : RingPort) :
    takeEnable c n (s.withPort p) = (takeEnable c n s).withPort p := by
  have chan : (s.withPort p).chan c = s.chan c := rfl
  unfold takeEnable
  rw [chan]
  cases (s.chan c).state with
  | ready =>
    dsimp only
    rw [startRun_withPort]
    exact ite_withPort (runAllowed s c n) (startRun c s) (s.modChan c refuseEnable) p
  | run | hold | off | calibrate | rampdown | fault => rfl

theorem commitStep4_withPort (c : Chan) (x n : Control) (s : State) (p : RingPort) :
    commitStep4 c x n (s.withPort p) = (commitStep4 c x n s).withPort p := by
  have enabled : (if rising (enableBit x) (enableBit n) then takeEnable c n (s.withPort p) else s.withPort p) =
      (if rising (enableBit x) (enableBit n) then takeEnable c n s else s).withPort p := by
    rw [takeEnable_withPort]
    exact ite_withPort _ _ _ p
  unfold commitStep4
  dsimp only
  rw [enabled]
  generalize (if rising (enableBit x) (enableBit n) then takeEnable c n s else s) = s1
  rw [enterRampdown_withPort]
  exact ite_withPort _ _ _ p

theorem commitStep5_withPort (c : Chan) (x n : Control) (s : State) (p : RingPort) :
    commitStep5 c x n (s.withPort p) = (commitStep5 c x n s).withPort p := by
  unfold commitStep5
  dsimp only
  split <;> split <;> rfl

theorem commitSequence_withPort (x n : Chan → Control) (s : State) (p : RingPort) :
    commitSequence x n (s.withPort p) = (commitSequence x n s).withPort p := by
  unfold commitSequence
  dsimp only
  rw [← foldl_withPort fun s c => commitStep5_withPort c _ _ s p, ← foldl_withPort fun s c => commitStep4_withPort c _ _ s p]
  rfl

theorem applyLatch_withPort (s : State) (x : LatchWrite) (p : RingPort) :
    applyLatch (s.withPort p) x = (applyLatch s x).withPort p := by cases x <;> rfl

theorem commitSlots_withPort (xs : List LatchWrite) (s : State) (p : RingPort) :
    commitSlots xs (s.withPort p) = (commitSlots xs s).withPort p := by
  unfold commitSlots
  dsimp only
  rw [foldl_withPort fun s x => applyLatch_withPort s x p]
  generalize xs.foldl applyLatch s = u
  show ({ commitSequence u.prevCtrl (fun c => (u.latch c).control) (u.withPort p) with prevControl := _ } : State) = _
  rw [commitSequence_withPort]
  rfl

theorem takeArrival_withPort (s : State) (p : RingPort) : takeArrival (s.withPort p) = (takeArrival s).withPort p := by
  have counted := ite_withPort s.timer.running
    (s.withCounters (countArrival (isEarly s.station s.timer s.now) s.timer.missed s.counters)) s p
  exact congrArg (fun u : State => u.withTimer (timerArrival s.station s.now s.timer)) counted

theorem commitTimer_withPort (f : FrameCtx) (s : State) (p : RingPort) :
    commitTimer f (s.withPort p) = (commitTimer f s).withPort p := by
  have stamped : stampCycle (cycleCountOf f) (s.withPort p) = (stampCycle (cycleCountOf f) s).withPort p := rfl
  unfold commitTimer
  dsimp only
  rw [stamped, takeArrival_withPort, ite_withPort, ite_withPort]

theorem commitFrame_withPort {f : FrameCtx} (unrecorded : f.taken = none) (s : State) (p : RingPort) :
    commitFrame f (s.withPort p) = (commitFrame f s).withPort p := by
  unfold commitFrame commitService
  rw [unrecorded, commitTimer_withPort]
  generalize commitTimer f s = u
  have slots : commitSlotEngine f (u.withPort p) = (commitSlotEngine f u).withPort p := by
    unfold commitSlotEngine
    rw [commitSlots_withPort]
    exact ite_withPort _ _ _ p
  rw [slots]
  rfl

theorem commitFrame_moment {f : FrameCtx} (unrecorded : f.taken = none) {s : State} (settled : s.moment = none) :
    (commitFrame f s).moment = none := by
  unfold commitFrame commitService commitSlotEngine
  rw [unrecorded]
  have timed : (commitTimer f s).moment = none := by rw [commitTimer_only]; exact settled
  show (commitCounters f (if cycleOperational f && !leaving f then _ else _)).moment = none
  split
  · exact (commitSlots_moment _ _).trans timed
  · exact timed

/-- Settles O24. -/
theorem commitTakesTheArrival : Obligations.CommitTakesTheArrival := by
  unfold Obligations.CommitTakesTheArrival
  refine ⟨fun s f h at_ g => ?_, fun s f h at_ g cycle phase unrecorded => ?_,
    fun s f h at_ r g cycle taken leaves => ?_⟩
  · have short (u : State) : isShort u f = shortFor u h.slotCount.toNat := isShort_cycle g.header g.cycle g.phase
    have frame := commitSlots_only f.latches (arrived f h at_ s)
    have came := arrived_only f h at_ s
    have counters : (commitCounters f (commitSlots f.latches (arrived f h at_ s))).counters =
        countCommit (shortFor s h.slotCount.toNat) none (arrived f h at_ s).counters := by
      unfold commitCounters
      rw [short, g.noRecord, frame, came]
      rfl
    have now : (commitCounters f (commitSlots f.latches (arrived f h at_ s))).now = max s.now at_ := by
      show (commitSlots f.latches (arrived f h at_ s)).now = _
      rw [frame, came]
    refine ⟨_, endOfReception_cycle at_ g, now, ?_, fun stopped => ?_, fun runs => ?_, fun ⟨i, valid, beyond⟩ => ?_,
      fun within => ?_, ?_⟩
    · rw [now]
      show (commitSlots f.latches (arrived f h at_ s)).timer = _
      rw [frame, came]
      rfl
    · rw [counters, arrived_counters_stopped stopped]
      exact ⟨rfl, rfl⟩
    · rw [now, counters, arrived_counters_running runs]
      refine ⟨?_, rfl⟩
      show (if isEarly s.station s.timer (max s.now at_) then bump s.counters.early else s.counters.early) = _
      simp only [isEarly_iff]
    · rw [counters, (shortFor_iff s _).2 ⟨i, valid, beyond⟩, arrived_counters]
      rfl
    · have fits : shortFor s h.slotCount.toNat = false := by
        refine Bool.eq_false_iff.2 fun is_short => ?_
        obtain ⟨i, valid, beyond⟩ := (shortFor_iff s _).1 is_short
        exact absurd (within i valid) (not_lt.2 beyond)
      rw [counters, fits, arrived_counters]
      rfl
    · rw [counters, arrived_counters]
      rfl
  · have slots (u : State) : commitSlotEngine f u = u := by
      unfold commitSlotEngine cycleOperational
      rw [cycle, phase]
      rfl
    have short (u : State) : isShort u f = false := by
      unfold isShort cycleOperational
      rw [g.header, cycle, phase]
      rfl
    have timer (u : State) : commitTimer f u = stampCycle h.cycleCount.toNat u := by
      unfold commitTimer
      rw [if_pos cycle, phase, if_neg (by decide), cycleCount_of_header g.header]
    rw [endOfReception_good at_ g, closeReception_eq g]
    unfold commitFrame commitService commitCounters
    rw [unrecorded, slots, short, timer]
    refine congrArg _ ((resume_of_none ?_).trans ?_)
    · exact g.settled
    · rfl
  · have stays (operational : cycleOperational f = true) : leaving f = false := by
      unfold leaving
      rw [taken]
      refine Bool.eq_false_iff.2 fun leave => ?_
      rw [cycleOperational, leaves (beq_iff_eq.1 leave)] at operational
      simp at operational
    have bare : GoodFrame { s with port := { s.port with receiving := some { f with taken := none } } }
        { f with taken := none } h :=
      ⟨⟨rfl, g.settled, g.kind, g.header, g.noError, g.length⟩, g.crc⟩
    obtain ⟨b, run, settled, port⟩ : ∃ b : State,
        exec (.endOfReception at_ [])
          { s with port := { s.port with receiving := some { f with taken := none } } } =
            .next (resume (commitFrame { f with taken := none } b)) ∧ b.moment = none ∧
        { s with now := max s.now at_,
                 port := { s.port with receiving := none,
                                       leaving := s.port.leaving ++ [{ f with verdict := .good }] } } =
          b.withPort { s.port with receiving := none, leaving := s.port.leaving ++ [{ f with verdict := .good }] } :=
      ⟨_, endOfReception_good at_ bare, g.settled, rfl⟩
    have bare_settled := commitFrame_moment (f := { f with taken := none }) rfl settled
    refine ⟨_, run, ?_⟩
    rw [resume_of_none bare_settled, endOfReception_good at_ g, commitFrame_recorded taken stays, closeReception_eq g,
      port, commitFrame_withPort rfl]
    exact congrArg _ (resume_of_none (commitRecord_moment r bare_settled))

/-! ## The latches (R145) -/

/-- One item of channel `c`: where its latch stands, and which pending values are its own. -/
structure LatchItem (α : Type) (c : Chan) (π : Latches → α) (own : α → LatchWrite) : Prop where
  write : ∀ s v, π ((applyLatch s (own v)).latch c) = v
  other : ∀ s x, (∀ v, x ≠ own v) → π ((applyLatch s x).latch c) = π (s.latch c)

section

variable {α : Type} {c : Chan} {π : Latches → α} {own : α → LatchWrite}

theorem LatchItem.kept (item : LatchItem α c π own) (xs : List LatchWrite) :
    ∀ s, (∀ v, own v ∉ xs) → π ((xs.foldl applyLatch s).latch c) = π (s.latch c) := by
  induction xs with
  | nil => exact fun _ _ => rfl
  | cons x xs ih =>
    intro s away
    refine (ih (applyLatch s x) fun v later => away v (List.mem_cons_of_mem _ later)).trans (item.other s x ?_)
    rintro v rfl
    exact away v List.mem_cons_self

theorem LatchItem.replaced (item : LatchItem α c π own) {v : α} (xs : List LatchWrite) :
    ∀ s, own v ∈ xs ∨ π (s.latch c) = v → (∀ u, own u ∈ xs → u = v) → π ((xs.foldl applyLatch s).latch c) = v := by
  induction xs with
  | nil => exact fun s stands _ => stands.resolve_left (by simp)
  | cons x xs ih =>
    intro s stands same
    refine ih (applyLatch s x) ?_ fun u later => same u (List.mem_cons_of_mem _ later)
    by_cases mine : ∃ u, x = own u
    · obtain ⟨u, rfl⟩ := mine
      exact .inr ((item.write s u).trans (same u List.mem_cons_self))
    · rw [item.other s x fun u e => mine ⟨u, e⟩]
      refine stands.imp_left fun member => (List.mem_cons.1 member).resolve_left fun here => mine ⟨v, here.symm⟩

end

theorem setLatch_latch_same (s : State) (c : Chan) (l : Latches) : (s.setLatch c l).latch c = l := by
  simp [State.setLatch, State.latch]

theorem setLatch_latch_other (s : State) {c d : Chan} (l : Latches) (h : d ≠ c) :
    (s.setLatch d l).latch c = s.latch c := by
  have apart : d.val ≠ c.val := fun e => h (Fin.ext e)
  simp [State.setLatch, State.latch, Vector.getElem_set_ne _ _ apart]

/-- An item's latch takes its own pending values and no other's. -/
theorem latchItem_of_set {α : Type} {c : Chan} {π : Latches → α} {own : α → LatchWrite}
    (write : ∀ s v, ∃ l, applyLatch s (own v) = s.setLatch c l ∧ π l = v)
    (other : ∀ (s : State) x, (∀ v, x ≠ own v) → ∃ d l, applyLatch s x = s.setLatch d l ∧ (d = c → π l = π (s.latch c))) :
    LatchItem α c π own where
  write s v := by
    obtain ⟨l, set, value⟩ := write s v
    rw [set, setLatch_latch_same, value]
  other s x away := by
    obtain ⟨d, l, set, value⟩ := other s x away
    by_cases same : d = c
    · subst same; rw [set, setLatch_latch_same, value rfl]
    · rw [set, setLatch_latch_other s l same]

theorem iqRef_latchItem (c : Chan) : LatchItem _ c Latches.iqRef (.iqRef c) :=
  latchItem_of_set (fun _ _ => ⟨_, rfl, rfl⟩) fun s x away => by
    cases x with
    | iqRef d v => exact ⟨d, _, rfl, fun same => absurd (by rw [same]) (away v)⟩
    | idRef d v | ilimScale d v | yawCorr d v | control d v => exact ⟨d, _, rfl, fun same => by rw [same]⟩

theorem idRef_latchItem (c : Chan) : LatchItem _ c Latches.idRef (.idRef c) :=
  latchItem_of_set (fun _ _ => ⟨_, rfl, rfl⟩) fun s x away => by
    cases x with
    | idRef d v => exact ⟨d, _, rfl, fun same => absurd (by rw [same]) (away v)⟩
    | iqRef d v | ilimScale d v | yawCorr d v | control d v => exact ⟨d, _, rfl, fun same => by rw [same]⟩

theorem ilimScale_latchItem (c : Chan) : LatchItem _ c Latches.ilimScale (.ilimScale c) :=
  latchItem_of_set (fun _ _ => ⟨_, rfl, rfl⟩) fun s x away => by
    cases x with
    | ilimScale d v => exact ⟨d, _, rfl, fun same => absurd (by rw [same]) (away v)⟩
    | iqRef d v | idRef d v | yawCorr d v | control d v => exact ⟨d, _, rfl, fun same => by rw [same]⟩

theorem yawCorr_latchItem (c : Chan) : LatchItem _ c Latches.yawCorr (.yawCorr c) :=
  latchItem_of_set (fun _ _ => ⟨_, rfl, rfl⟩) fun s x away => by
    cases x with
    | yawCorr d v => exact ⟨d, _, rfl, fun same => absurd (by rw [same]) (away v)⟩
    | iqRef d v | idRef d v | ilimScale d v | control d v => exact ⟨d, _, rfl, fun same => by rw [same]⟩

theorem control_latchItem (c : Chan) : LatchItem _ c Latches.control (.control c) :=
  latchItem_of_set (fun _ _ => ⟨_, rfl, rfl⟩) fun s x away => by
    cases x with
    | control d v => exact ⟨d, _, rfl, fun same => absurd (by rw [same]) (away v)⟩
    | iqRef d v | idRef d v | ilimScale d v | yawCorr d v => exact ⟨d, _, rfl, fun same => by rw [same]⟩

/-- Settles O25. -/
theorem commitReplacesTheLatches : Obligations.CommitReplacesTheLatches := by
  unfold Obligations.CommitReplacesTheLatches
  intro s f h at_ g
  refine ⟨_, endOfReception_cycle at_ g, fun c => ?_⟩
  have latch : (commitCounters f (commitSlots f.latches (arrived f h at_ s))).latch c =
      (f.latches.foldl applyLatch (arrived f h at_ s)).latch c := by
    show (commitSlots f.latches (arrived f h at_ s)).latch c = _
    rw [commitSlots_only]
    rfl
  have before : (arrived f h at_ s).latch c = s.latch c := by rw [arrived_only]; rfl
  have prev : (commitCounters f (commitSlots f.latches (arrived f h at_ s))).prevCtrl c =
      ((f.latches.foldl applyLatch (arrived f h at_ s)).latch c).control := by
    show (commitSlots f.latches (arrived f h at_ s)).prevCtrl c = _
    rw [commitSlots_only]
    simp [State.prevCtrl]
  rw [latch, ← before]
  exact ⟨prev, (iqRef_latchItem c).kept _ _, (idRef_latchItem c).kept _ _, (ilimScale_latchItem c).kept _ _,
    (yawCorr_latchItem c).kept _ _, (control_latchItem c).kept _ _,
    fun v pending => (iqRef_latchItem c).replaced _ _ (.inl pending),
    fun v pending => (idRef_latchItem c).replaced _ _ (.inl pending),
    fun v pending => (ilimScale_latchItem c).replaced _ _ (.inl pending),
    fun v pending => (yawCorr_latchItem c).replaced _ _ (.inl pending),
    fun v pending => (control_latchItem c).replaced _ _ (.inl pending)⟩

end Sys2Proof.Machine
end

section
/-! The control words of a cycle commit (R4): what steps 1 to 3 make of a channel, what a turn of step 4 makes of the
state case by case, that the turns of other pairs do not show in a channel, and what step 5 leaves. -/

namespace Sys2Proof.Machine

open Sys2Proof Relation

/-! ## The band at an entry to RUN (R92) -/

theorem riseBand_rises (sch : Schedule) (w n b : Nat) (enough : sch.used ≤ b + n + 1) :
    BandRises sch w b (riseBand sch w n b) := by
  induction n generalizing b with
  | zero => exact ⟨le_refl b, fun j above below => absurd above (not_lt.2 below), fun more => absurd more (by
      show ¬ b + 1 < sch.used; omega)⟩
  | succ n ih =>
    unfold riseBand
    split
    · next rises =>
      obtain ⟨up, steps, stops⟩ := ih (b + 1) (by omega)
      refine ⟨by omega, fun j above below => ?_, stops⟩
      by_cases next : j = b + 1
      · subst next; exact ⟨by omega, rises.2⟩
      · exact steps j (by omega) below
    · next stays =>
      exact ⟨le_refl b, fun j above below => absurd above (not_lt.2 below), fun more =>
        not_le.1 fun high => stays ⟨by omega, high⟩⟩

/-! ## Steps 1 to 3 -/

theorem holdReturn_hold {ch : Channel} (h : ch.state = .hold) : holdReturn ch = { ch with state := .run } := if_pos h

theorem holdReturn_other {ch : Channel} (h : ch.state ≠ .hold) : holdReturn ch = ch := if_neg h

/-- Steps 1 to 3 without an edge of FAULT_ACK or CALIBRATE. -/
theorem commitSteps123_plain (s : State) {prev new : Control} (ack : rising (faultAckBit prev) (faultAckBit new) = false)
    (calibrate : rising (calibrateBit prev) (calibrateBit new) = false) (ch : Channel) :
    commitSteps123 s prev new ch = holdReturn ch := by
  unfold commitSteps123
  simp [ack, calibrate]

theorem commitSteps123_ack (s : State) {prev new : Control} (ack : rising (faultAckBit prev) (faultAckBit new) = true)
    (calibrate : rising (calibrateBit prev) (calibrateBit new) = false) (ch : Channel) :
    commitSteps123 s prev new ch = clearRequest s (holdReturn ch) := by
  unfold commitSteps123
  simp [ack, calibrate]

theorem commitSteps123_calibrate (s : State) {prev new : Control}
    (ack : rising (faultAckBit prev) (faultAckBit new) = false)
    (calibrate : rising (calibrateBit prev) (calibrateBit new) = true) (ch : Channel) :
    commitSteps123 s prev new ch = calibrationRequest (holdReturn ch) := by
  unfold commitSteps123
  simp [ack, calibrate]

theorem rising_of_low {a b : Bool} (h : b = false) : rising a b = false := by simp [rising, h]

theorem rising_self (a : Bool) : rising a a = false := by simp [rising]

theorem rising_iff {a b : Bool} : rising a b = true ↔ a = false ∧ b = true := by simp [rising]

theorem falling_iff {a b : Bool} : falling a b = true ↔ a = true ∧ b = false := by simp [falling]

/-! ## A turn of step 4, case by case -/

section

variable {c : Chan} {p n : Control} {u : State}

/-- A rising ENABLE edge that is allowed. -/
theorem commitStep4_started (ready : (u.chan c).state = .ready) (edge : rising (enableBit p) (enableBit n) = true)
    (allowed : runAllowed u c n = true) : commitStep4 c p n u = startRun c u := by
  have enabled : takeEnable c n u = startRun c u := by
    unfold takeEnable
    rw [ready]
    exact if_pos allowed
  have calm : quickstopBit n = false := by
    unfold runAllowed at allowed
    simp only [Bool.and_eq_true, Bool.not_eq_true'] at allowed
    exact allowed.1.1.2
  have up : falling (enableBit p) (enableBit n) = false := by
    obtain ⟨low, -⟩ := rising_iff.1 edge
    simp [falling, low]
  unfold commitStep4
  rw [if_pos edge, enabled]
  exact if_neg (by simp [calm, up])

/-- A rising ENABLE edge that is refused. -/
theorem commitStep4_refused (ready : (u.chan c).state = .ready) (edge : rising (enableBit p) (enableBit n) = true)
    (forbidden : runAllowed u c n = false) : commitStep4 c p n u = u.modChan c refuseEnable := by
  have refused : takeEnable c n u = u.modChan c refuseEnable := by
    unfold takeEnable
    rw [ready]
    exact if_neg (by simp [forbidden])
  have still : ((u.modChan c refuseEnable).chan c).state = .ready := by
    rw [State.modChan_chan_same]; exact ready
  unfold commitStep4
  rw [if_pos edge, refused]
  refine if_neg fun h => ?_
  rw [still] at h
  cases h.1

/-- In RUN, QUICKSTOP and a falling ENABLE count. -/
theorem commitStep4_runs (runs : (u.chan c).state = .run) : commitStep4 c p n u =
    if quickstopBit n || (falling (enableBit p) (enableBit n) && !pairedFollower u c) then enterRampdown c false false u
    else u := by
  have still : (if rising (enableBit p) (enableBit n) then takeEnable c n u else u) = u := by
    split
    · unfold takeEnable; rw [runs]
    · rfl
  unfold commitStep4
  rw [still]
  simp only [runs, true_and]

/-- In OFF, CALIBRATE, RAMPDOWN and FAULT a rising ENABLE edge is refused and nothing else happens. -/
theorem commitStep4_rests (ready : (u.chan c).state ≠ .ready) (roh : runOrHold (u.chan c).state = false) :
    commitStep4 c p n u = if rising (enableBit p) (enableBit n) then u.modChan c refuseEnable else u := by
  have not_run : (u.chan c).state ≠ .run := fun e => by rw [e] at roh; cases roh
  have refused : takeEnable c n u = u.modChan c refuseEnable := by
    unfold takeEnable
    cases state : (u.chan c).state with
    | ready => exact absurd state ready
    | run | hold => rw [state] at roh; cases roh
    | off | calibrate | rampdown | fault => rfl
  unfold commitStep4
  rw [refused]
  split
  · have still : ((u.modChan c refuseEnable).chan c).state ≠ .run := by
      rw [State.modChan_chan_same]; exact not_run
    exact if_neg fun h => still h.1
  · exact if_neg fun h => not_run h.1

/-- Without a rising ENABLE edge, a channel outside RUN is left alone. -/
theorem commitStep4_idle (edge : rising (enableBit p) (enableBit n) = false) (not_run : (u.chan c).state ≠ .run) :
    commitStep4 c p n u = u := by
  unfold commitStep4
  rw [edge]
  exact if_neg fun h => not_run h.1

theorem startRun_alone (alone : pairedLeader u c = false) : startRun c u = enterRun c u := by
  unfold startRun
  rw [alone]
  rfl

theorem enterRampdown_alone (alone : pairedLeader u c = false) (r q : Bool) :
    enterRampdown c r q u = u.modChan c (toRampdown r q) := by
  unfold enterRampdown
  rw [alone]
  rfl

/-- The turn of a channel that is no paired leader touches no other channel. -/
theorem commitStep4_own (alone : pairedLeader u c = false) {d : Chan} (other : d ≠ c) :
    (commitStep4 c p n u).chan d = u.chan d ∧ (commitStep4 c p n u).gate d = u.gate d := by
  have enabled : ((takeEnable c n u).chan d = u.chan d ∧ (takeEnable c n u).gate d = u.gate d) ∧
      pairedLeader (takeEnable c n u) c = false := by
    have refused : ((u.modChan c refuseEnable).chan d = u.chan d ∧ (u.modChan c refuseEnable).gate d = u.gate d) ∧
        pairedLeader (u.modChan c refuseEnable) c = false := ⟨⟨State.modChan_chan_other u _ other, rfl⟩, alone⟩
    unfold takeEnable
    cases (u.chan c).state with
    | ready =>
      dsimp only
      split
      · rw [startRun_alone alone]
        exact ⟨⟨enterRun_chan_other u other, enterRun_gate_other u other⟩, alone⟩
      · exact refused
    | run | hold => exact ⟨⟨rfl, rfl⟩, alone⟩
    | off | calibrate | rampdown | fault => exact refused
  have first : ((if rising (enableBit p) (enableBit n) then takeEnable c n u else u).chan d = u.chan d ∧
      (if rising (enableBit p) (enableBit n) then takeEnable c n u else u).gate d = u.gate d) ∧
      pairedLeader (if rising (enableBit p) (enableBit n) then takeEnable c n u else u) c = false := by
    split
    · exact enabled
    · exact ⟨⟨rfl, rfl⟩, alone⟩
  unfold commitStep4
  dsimp only
  generalize (if rising (enableBit p) (enableBit n) then takeEnable c n u else u) = v at first ⊢
  obtain ⟨same, alone⟩ := first
  split
  · rw [enterRampdown_alone alone]
    exact ⟨(State.modChan_chan_other v _ other).trans same.1, same.2⟩
  · exact same

end

/-! ## Turns of other pairs -/

theorem enterRun_pairOnly {p : Fin 4} {c : Chan} (h : pairOf c = p) (s : State) : PairOnly p s (enterRun c s) :=
  (modChan_pairOnly h _ s).trans (modGate_pairOnly h _ _)

theorem takeEnable_pairOnly {p : Fin 4} {c : Chan} (h : pairOf c = p) (n : Control) (s : State) :
    PairOnly p s (takeEnable c n s) := by
  have started : PairOnly p s (startRun c s) := by
    unfold startRun
    split
    · exact (enterRun_pairOnly h s).trans (enterRun_pairOnly ((pairOf_partnerOf c).trans h) _)
    · exact enterRun_pairOnly h s
  unfold takeEnable
  cases (s.chan c).state with
  | ready =>
    dsimp only
    split
    · exact started
    · exact modChan_pairOnly h _ s
  | run | hold => exact .refl p s
  | off | calibrate | rampdown | fault => exact modChan_pairOnly h _ s

theorem commitStep4_pairOnly (c : Chan) (x n : Control) (s : State) : PairOnly (pairOf c) s (commitStep4 c x n s) := by
  have enabled : PairOnly (pairOf c) s (if rising (enableBit x) (enableBit n) then takeEnable c n s else s) := by
    split
    · exact takeEnable_pairOnly rfl n s
    · exact .refl _ s
  unfold commitStep4
  dsimp only
  generalize (if rising (enableBit x) (enableBit n) then takeEnable c n s else s) = s1 at enabled ⊢
  split
  · exact enabled.trans (enterRampdown_pairOnly rfl _ _ s1)
  · exact enabled

/-- At pair position `p` the states agree. -/
def SamePair (p : Fin 4) (s t : State) : Prop := ∀ d, pairOf d = p → t.chan d = s.chan d ∧ t.gate d = s.gate d

theorem foldl_otherPairs {step : State → Chan → State} (only : ∀ s d, PairOnly (pairOf d) s (step s d)) {p : Fin 4}
    (l : List Chan) (others : ∀ d ∈ l, pairOf d ≠ p) : ∀ s, SampleKeeps s (l.foldl step s) ∧ SamePair p s (l.foldl step s) := by
  induction l with
  | nil => exact fun s => ⟨.refl s, fun _ _ => ⟨rfl, rfl⟩⟩
  | cons d l ih =>
    intro s
    obtain ⟨here, later⟩ := List.forall_mem_cons.1 others
    obtain ⟨keeps, same⟩ := ih later (step s d)
    have own := only s d
    refine ⟨own.keeps.trans keeps, fun e he => ?_⟩
    have apart : pairOf e ≠ pairOf d := fun eq => here (eq.symm.trans he)
    exact ⟨(same e he).1.trans (own.chan e apart), (same e he).2.trans (own.gate e apart)⟩

/-- In ascending order the two channels of a pair position have their turns one after the other. -/
theorem allChans_pair (p : Fin 4) : ∃ before later, allChans = before ++ evenOf p :: oddOf p :: later ∧
    (∀ d ∈ before, pairOf d ≠ p) ∧ ∀ d ∈ later, pairOf d ≠ p :=
  ⟨allChans.take (2 * p.val), allChans.drop (2 * p.val + 2), by revert p; decide⟩

/-- Of turns that stay within a pair, a pair shows those of its own two channels. -/
theorem foldl_pair {step : State → Chan → State} (only : ∀ s d, PairOnly (pairOf d) s (step s d)) (p : Fin 4) (s : State) :
    ∃ u, SampleKeeps s u ∧ SamePair p s u ∧
      SamePair p (step (step u (evenOf p)) (oddOf p)) (allChans.foldl step s) := by
  obtain ⟨before, later, split, first, last⟩ := allChans_pair p
  obtain ⟨keeps, same⟩ := foldl_otherPairs only before first s
  refine ⟨before.foldl step s, keeps, same, ?_⟩
  rw [split, List.foldl_append]
  exact (foldl_otherPairs only later last _).2

/-! ## Step 5 -/

/-- A channel after step 5, with or without a NOTICE_ACK edge. -/
def noticed (edge : Bool) (ch : Channel) : Channel := if edge then ackNotice ch else ch

theorem noticed_eq (edge : Bool) (ch : Channel) : noticed edge ch = { ch with
    noticeArmed := ch.noticeArmed || edge, noticePending := ch.noticePending && !edge } := by
  cases edge with
  | true => simp [noticed, ackNotice]
  | false => simp [noticed]

theorem commitStep5_chan (c : Chan) (p n : Control) (s : State) (d : Chan) : (commitStep5 c p n s).chan d =
    if d = c then noticed (rising (noticeAckBit p) (noticeAckBit n)) (s.chan d) else s.chan d := by
  have acked : (if rising (noticeAckBit p) (noticeAckBit n) then s.modChan c ackNotice else s).chan d =
      if d = c then noticed (rising (noticeAckBit p) (noticeAckBit n)) (s.chan d) else s.chan d := by
    by_cases same : d = c
    · subst same
      rw [if_pos rfl]
      unfold noticed
      split
      · exact State.modChan_chan_same ..
      · rfl
    · rw [if_neg same]
      split
      · exact State.modChan_chan_other s _ same
      · rfl
  unfold commitStep5
  dsimp only
  rw [← acked]
  split <;> rfl

theorem commitStep5_gate (c : Chan) (p n : Control) (s : State) (d : Chan) : (commitStep5 c p n s).gate d = s.gate d := by
  unfold commitStep5
  dsimp only
  split <;> split <;> rfl

theorem noticed_noticed (edge : Bool) (ch : Channel) : noticed edge (noticed edge ch) = noticed edge ch := by
  cases edge <;> rfl

theorem foldl_step5_chan (p n : Chan → Control) (d : Chan) (l : List Chan) : ∀ s,
    (l.foldl (fun s c => commitStep5 c (p c) (n c) s) s).chan d =
      if d ∈ l then noticed (rising (noticeAckBit (p d)) (noticeAckBit (n d))) (s.chan d) else s.chan d := by
  induction l with
  | nil => exact fun s => (if_neg (by simp)).symm
  | cons c l ih =>
    intro s
    rw [List.foldl_cons, ih, commitStep5_chan]
    by_cases same : d = c
    · subst same
      rw [if_pos rfl, noticed_noticed, ite_self, if_pos List.mem_cons_self]
    · rw [if_neg same]
      simp [same]

theorem foldl_step5_gate (p n : Chan → Control) (d : Chan) (l : List Chan) : ∀ s,
    (l.foldl (fun s c => commitStep5 c (p c) (n c) s) s).gate d = s.gate d := by
  induction l with
  | nil => exact fun _ => rfl
  | cons c l ih => exact fun s => (ih _).trans (commitStep5_gate c _ _ s d)

/-! ## The sequence at one pair -/

/-- What the commit sequence makes of the two channels of a pair position. -/
theorem commitSequence_pair (p n : Chan → Control) (q : Fin 4) (s : State) : ∃ u v, SampleKeeps s u ∧
    (∀ d, pairOf d = q → u.chan d = commitSteps123 s (p d) (n d) (s.chan d) ∧ u.gate d = s.gate d) ∧
    v = commitStep4 (oddOf q) (p (oddOf q)) (n (oddOf q)) (commitStep4 (evenOf q) (p (evenOf q)) (n (evenOf q)) u) ∧
    ∀ d, pairOf d = q →
      (commitSequence p n s).chan d = noticed (rising (noticeAckBit (p d)) (noticeAckBit (n d))) (v.chan d) ∧
      (commitSequence p n s).gate d = v.gate d := by
  obtain ⟨u, keeps, same, turns⟩ := foldl_pair (step := fun s c => commitStep4 c (p c) (n c) s)
    (fun s c => commitStep4_pairOnly c (p c) (n c) s) q (s.mapChans fun c ch => commitSteps123 s (p c) (n c) ch)
  refine ⟨u, _, (mapChans_keeps s _).trans keeps, fun d hd => ?_, rfl, fun d hd => ?_⟩
  · obtain ⟨chan, gate⟩ := same d hd
    exact ⟨chan.trans (State.mapChans_chan ..), gate⟩
  · obtain ⟨chan, gate⟩ := turns d hd
    constructor
    · rw [← chan]
      exact (foldl_step5_chan p n d allChans _).trans (if_pos (mem_allChans d))
    · rw [← gate]
      exact foldl_step5_gate p n d allChans _

theorem paired_of_pairOf {s : State} {c d : Chan} (h : pairOf d = pairOf c) : paired s d = paired s c := by
  unfold paired
  simp only [h]

/-- What the commit sequence makes of a channel outside any pair. -/
theorem commitSequence_unpaired (p n : Chan → Control) {c : Chan} {s : State} (unpaired : paired s c = false) :
    ∃ u, SampleKeeps s u ∧ u.chan c = commitSteps123 s (p c) (n c) (s.chan c) ∧ u.gate c = s.gate c ∧
      (commitSequence p n s).chan c =
        noticed (rising (noticeAckBit (p c)) (noticeAckBit (n c))) ((commitStep4 c (p c) (n c) u).chan c) ∧
      (commitSequence p n s).gate c = (commitStep4 c (p c) (n c) u).gate c := by
  obtain ⟨u, v, keeps, before, turns, after⟩ := commitSequence_pair p n (pairOf c) s
  have alone (w : State) (kept : SampleKeeps s w) (d : Chan) (hd : pairOf d = pairOf c) : pairedLeader w d = false := by
    have same : paired w d = paired s c := (paired_of_pairs kept.pairs d).trans (paired_of_pairOf hd)
    unfold pairedLeader
    rw [same, unpaired]
    rfl
  obtain ⟨chan, gate⟩ := before c rfl
  obtain ⟨chan', gate'⟩ := after c rfl
  rcases even_or_odd c with e | o
  · have apart : c ≠ oddOf (pairOf c) := fun o => by
      have := partnerOf_ne (oddOf (pairOf c))
      rw [partnerOf_oddOf, ← e, ← o] at this
      exact this rfl
    have leaves := commitStep4_own (p := p (oddOf (pairOf c))) (n := n (oddOf (pairOf c)))
      (alone _ (keeps.trans (commitStep4_keeps c (p c) (n c) u)) _ (pairOf_oddOf _)) apart
    rw [← e] at turns
    rw [turns, leaves.1] at chan'
    rw [turns, leaves.2] at gate'
    exact ⟨u, keeps, chan, gate, chan', gate'⟩
  · have apart : c ≠ evenOf (pairOf c) := fun e => by
      have := partnerOf_ne (evenOf (pairOf c))
      rw [partnerOf_evenOf, ← o, ← e] at this
      exact this rfl
    have leaves := commitStep4_own (p := p (evenOf (pairOf c))) (n := n (evenOf (pairOf c)))
      (alone _ keeps _ (pairOf_evenOf _)) apart
    rw [← o] at turns
    rw [turns] at chan' gate'
    exact ⟨commitStep4 (evenOf (pairOf c)) (p (evenOf (pairOf c))) (n (evenOf (pairOf c))) u,
      keeps.trans (commitStep4_keeps ..), leaves.1.trans chan, leaves.2.trans gate, chan', gate'⟩

/-! ## The state in which the control words are handed on -/

/-- The state of a cycle commit as its control words are handed on: the arrival taken, the latches replaced. -/
structure HandsOn (s u : State) : Prop where
  chan : ∀ c, u.chan c = s.chan c
  gate : ∀ c, u.gate c = s.gate c
  trace : u.trace = s.trace
  phase : u.phase = s.phase
  bus : u.bus = s.bus
  inhnLow : u.inhnLow = s.inhnLow
  pairs : u.pairs = s.pairs
  active : u.active = s.active
  missCount : u.timer.missCount = 0

/-- The control word that a cycle commit hands on to a channel. -/
def handed (xs : List LatchWrite) (s : State) (c : Chan) : Control := ((xs.foldl applyLatch s).latch c).control

theorem handed_replaced {s : State} {c : Chan} {v : Control} {xs : List LatchWrite} (pending : .control c v ∈ xs)
    (same : ∀ u, .control c u ∈ xs → u = v) : handed xs s c = v :=
  (control_latchItem c).replaced xs s (.inl pending) same

theorem handed_kept {s : State} {c : Chan} {xs : List LatchWrite} (away : ∀ v, .control c v ∉ xs) :
    handed xs s c = (s.latch c).control := (control_latchItem c).kept xs s away

theorem handed_single (s : State) (c : Chan) (n : Control) : handed [.control c n] s c = n :=
  handed_replaced List.mem_cons_self fun u h => by simpa using h

theorem handed_other (s : State) {c d : Chan} (n : Control) (h : d ≠ c) :
    handed [.control c n] s d = (s.latch d).control :=
  handed_kept fun v member => h (by simp at member; exact member.1)

/-- The latches after pending values depend on the latches before alone. -/
theorem applyLatches_latches {a b : State} (h : a.latches = b.latches) (xs : List LatchWrite) :
    (xs.foldl applyLatch a).latches = (xs.foldl applyLatch b).latches := by
  have step (a b : State) (h : a.latches = b.latches) (x : LatchWrite) :
      (applyLatch a x).latches = (applyLatch b x).latches := by
    cases x <;> simp [applyLatch, State.setLatch, State.latch, h]
  induction xs generalizing a b with
  | nil => exact h
  | cons x xs ih => exact ih (step a b h x)

/-- A good CYCLE frame in OPERATIONAL: the commit sequence from the previous control words to those handed on. -/
theorem endOfReception_sequence {s : State} {f : FrameCtx} {h : Header} (at_ : Nat) (g : GoodCycle s f h) :
    ∃ t u, exec (.endOfReception at_ []) s = .next t ∧ HandsOn s u ∧
      t.trace = (commitSequence s.prevCtrl (handed f.latches s) u).trace ∧
      ∀ c, t.chan c = (commitSequence s.prevCtrl (handed f.latches s) u).chan c ∧
        t.gate c = (commitSequence s.prevCtrl (handed f.latches s) u).gate c := by
  have latched := applyLatches_only f.latches (arrived f h at_ s)
  have came := arrived_only f h at_ s
  refine ⟨_, f.latches.foldl applyLatch (arrived f h at_ s), endOfReception_cycle at_ g, ?_, ?_⟩
  · rw [latched, came]
    exact ⟨fun _ => rfl, fun _ => rfl, rfl, rfl, rfl, rfl, rfl, rfl, rfl⟩
  · have before (c : Chan) : (f.latches.foldl applyLatch (arrived f h at_ s)).prevCtrl c = s.prevCtrl c := by
      rw [latched, came]; rfl
    have words (c : Chan) :
        ((f.latches.foldl applyLatch (arrived f h at_ s)).latch c).control = handed f.latches s c := by
      have latches : (arrived f h at_ s).latches = s.latches := by rw [came]
      unfold handed State.latch
      simp only [applyLatches_latches latches]
    have same : commitSlots f.latches (arrived f h at_ s) =
        { commitSequence s.prevCtrl (handed f.latches s) (f.latches.foldl applyLatch (arrived f h at_ s)) with
          prevControl := Vector.ofFn fun c => handed f.latches s c } := by
      unfold commitSlots
      dsimp only
      rw [funext before, funext words]
    refine ⟨?_, fun c => ⟨?_, ?_⟩⟩
    · show (commitSlots f.latches (arrived f h at_ s)).trace = _
      rw [same]
    · show (commitSlots f.latches (arrived f h at_ s)).chan c = _
      rw [same]
      rfl
    · show (commitSlots f.latches (arrived f h at_ s)).gate c = _
      rw [same]
      rfl

/-! ## An unpaired channel -/

/-- The state in which an unpaired channel has its turn of step 4, and what the frame leaves of the channel. -/
theorem unpaired_cycle {s : State} {f : FrameCtx} {h : Header} (at_ : Nat) (g : GoodCycle s f h) {c : Chan} {n : Control}
    (word : f.latches = [.control c n]) (unpaired : paired s c = false) : ∃ t w u a b,
    exec (.endOfReception at_ []) s = .next t ∧ HandsOn s w ∧ SampleKeeps w u ∧ paired u c = false ∧
      u.chan c = commitSteps123 w (s.prevCtrl c) n (s.chan c) ∧ u.gate c = s.gate c ∧
      t.chan c = { (commitStep4 c (s.prevCtrl c) n u).chan c with noticeArmed := a, noticePending := b } ∧
      t.gate c = (commitStep4 c (s.prevCtrl c) n u).gate c := by
  obtain ⟨t, w, run, hands, -, result⟩ := endOfReception_sequence at_ g
  have alone : paired w c = false := (paired_of_pairs hands.pairs c).trans unpaired
  obtain ⟨u, keeps, chan, gate, chan', gate'⟩ := commitSequence_unpaired s.prevCtrl (handed f.latches s) alone
  have mine : handed f.latches s c = n := by rw [word]; exact handed_single s c n
  rw [mine] at chan chan' gate'
  rw [hands.chan] at chan
  rw [hands.gate] at gate
  rw [noticed_eq] at chan'
  exact ⟨t, w, u, _, _, run, hands, keeps, (paired_of_pairs keeps.pairs c).trans alone, chan, gate,
    (result c).1.trans chan', (result c).2.trans gate'⟩

/-- The conditions of R5 for an unpaired channel in OPERATIONAL. -/
theorem runAllowed_unpaired {s w u : State} (hands : HandsOn s w) (keeps : SampleKeeps w u) {c : Chan} {n : Control}
    (phase : s.phase = .operational) (unpaired : paired u c = false)
    (count : (u.chan c).invalidCount = (s.chan c).invalidCount) : runAllowed u c n = true ↔
      s.bus.state = .normal ∧ (s.chan c).invalidCount = 0 ∧ s.inhnLow = false ∧ n.getLsbD 1 = false := by
  unfold runAllowed pairedFollower pairedLeader
  rw [unpaired, keeps.phase, hands.phase, phase, keeps.bus, hands.bus, keeps.inhnLow, hands.inhnLow, count]
  simp [quickstopBit, and_assoc]

section

variable {c : Chan} {p n : Control} {u : State}

theorem unpaired_leads (unpaired : paired u c = false) : pairedLeader u c = false := by simp [pairedLeader, unpaired]

theorem unpaired_follows (unpaired : paired u c = false) : pairedFollower u c = false := by
  simp [pairedFollower, unpaired]

/-- An unpaired channel in RUN leaves it by QUICKSTOP or a falling ENABLE. -/
theorem unpaired_stops (unpaired : paired u c = false) (runs : (u.chan c).state = .run)
    (stops : n.getLsbD 1 = true ∨ p.getLsbD 0 = true ∧ n.getLsbD 0 = false) :
    (commitStep4 c p n u).chan c = toRampdown false false (u.chan c) ∧
      (commitStep4 c p n u).gate c = u.gate c := by
  have test : (quickstopBit n || (falling (enableBit p) (enableBit n) && !pairedFollower u c)) = true := by
    rw [unpaired_follows unpaired, Bool.or_eq_true_iff]
    exact stops.imp id fun down => Bool.and_eq_true_iff.2 ⟨falling_iff.2 down, rfl⟩
  rw [commitStep4_runs runs, if_pos test, enterRampdown_alone (unpaired_leads unpaired)]
  exact ⟨State.modChan_chan_same .., rfl⟩

/-- A channel in RUN that neither stops stays there. -/
theorem commitStep4_stays (runs : (u.chan c).state = .run)
    (on : ¬ (n.getLsbD 1 = true ∨ p.getLsbD 0 = true ∧ n.getLsbD 0 = false)) : commitStep4 c p n u = u := by
  rw [commitStep4_runs runs]
  refine if_neg fun test => on ?_
  rw [Bool.or_eq_true_iff, Bool.and_eq_true_iff] at test
  exact test.imp id fun down => falling_iff.1 down.1

/-- A channel in OFF, CALIBRATE, RAMPDOWN or FAULT only notes that it was refused. -/
theorem commitStep4_rests_chan (ready : (u.chan c).state ≠ .ready) (roh : runOrHold (u.chan c).state = false) :
    (commitStep4 c p n u).chan c = { u.chan c with
      enableRefused := (u.chan c).enableRefused || rising (enableBit p) (enableBit n) } ∧
    (commitStep4 c p n u).gate c = u.gate c := by
  rw [commitStep4_rests ready roh]
  split
  · next edge =>
    rw [State.modChan_chan_same, edge, Bool.or_true]
    exact ⟨rfl, rfl⟩
  · next still =>
    rw [Bool.eq_false_iff.2 still, Bool.or_false]
    exact ⟨rfl, rfl⟩

end

theorem rising_enable_iff {p n : Control} :
    rising (enableBit p) (enableBit n) = true ↔ p.getLsbD 0 = false ∧ n.getLsbD 0 = true := rising_iff

/-- A channel in RUN or HOLD is in RUN after step 1. -/
theorem holdReturn_runs {ch : Channel} (roh : runOrHold ch.state = true) : holdReturn ch = { ch with state := .run } := by
  cases state : ch.state with
  | run => rw [holdReturn_other (by rw [state]; nofun), ← state]
  | hold => exact holdReturn_hold state
  | off | calibrate | ready | rampdown | fault => rw [state] at roh; cases roh

section

variable {s w u : State} {c : Chan} {n : Control}

/-- The turn of an unpaired channel in READY at a rising ENABLE edge, allowed or not. -/
theorem unpaired_ready (hands : HandsOn s w) (keeps : SampleKeeps w u) (alone : paired u c = false)
    (phase : s.phase = .operational) (ready : (u.chan c).state = .ready)
    (count : (u.chan c).invalidCount = (s.chan c).invalidCount)
    (edge : rising (enableBit (s.prevCtrl c)) (enableBit n) = true) :
    (s.bus.state = .normal ∧ (s.chan c).invalidCount = 0 ∧ s.inhnLow = false ∧ n.getLsbD 1 = false →
      (commitStep4 c (s.prevCtrl c) n u).chan c = toRun s.active.scheds[c] (u.chan c) ∧
      (commitStep4 c (s.prevCtrl c) n u).gate c = gateEnable (u.gate c)) ∧
    (¬ (s.bus.state = .normal ∧ (s.chan c).invalidCount = 0 ∧ s.inhnLow = false ∧ n.getLsbD 1 = false) →
      (commitStep4 c (s.prevCtrl c) n u).chan c = refuseEnable (u.chan c) ∧
      (commitStep4 c (s.prevCtrl c) n u).gate c = u.gate c) := by
  have conditions := runAllowed_unpaired (n := n) hands keeps phase alone count
  refine ⟨fun allowed => ?_, fun forbidden => ?_⟩
  · rw [commitStep4_started ready edge (conditions.2 allowed), startRun_alone (unpaired_leads alone),
      enterRun_chan_same, enterRun_gate_same, keeps.active, hands.active]
    exact ⟨rfl, rfl⟩
  · have refused : runAllowed u c n = false := Bool.eq_false_iff.2 fun allowed => forbidden (conditions.1 allowed)
    rw [commitStep4_refused ready edge refused, State.modChan_chan_same]
    exact ⟨rfl, rfl⟩

end

/-! ## FAULT_ACK -/

/-- At a cycle commit REF_LOSS is always clearable (R79), the others by their conditions. -/
theorem allClearable_handed {s w : State} (hands : HandsOn s w) (phase : s.phase = .operational) (ch : Channel) :
    allClearable w ch = true ↔
      (recorded ch .angleLost = true → ch.invalidCount = 0) ∧
      (recorded ch .busUnder = true ∨ recorded ch .busOver = true → s.bus.state = .normal) ∧
      (recorded ch .inhibit = true → s.inhnLow = false) := by
  rw [allClearable_iff, hands.bus, hands.inhnLow, hands.phase, phase, hands.missCount]
  simp

/-- What no turn of step 4 changes in a channel. -/
structure ClearKept (a b : Channel) : Prop where
  fault : b.fault = a.fault
  clearRefused : b.clearRefused = a.clearRefused
  calibrated : b.calibrated = a.calibrated
  offA : b.offA = a.offA
  offB : b.offB = a.offB
  calCount : b.calCount = a.calCount
  sumA : b.sumA = a.sumA
  sumB : b.sumB = a.sumB
  noticeArmed : b.noticeArmed = a.noticeArmed
  noticePending : b.noticePending = a.noticePending
  calibrate : a.state ≠ .calibrate → b.state ≠ .calibrate

theorem ClearKept.refl (a : Channel) : ClearKept a a := ⟨rfl, rfl, rfl, rfl, rfl, rfl, rfl, rfl, rfl, rfl, id⟩

theorem ClearKept.trans {a b c : Channel} (h : ClearKept a b) (k : ClearKept b c) : ClearKept a c :=
  ⟨k.fault.trans h.fault, k.clearRefused.trans h.clearRefused, k.calibrated.trans h.calibrated, k.offA.trans h.offA,
    k.offB.trans h.offB, k.calCount.trans h.calCount, k.sumA.trans h.sumA, k.sumB.trans h.sumB,
    k.noticeArmed.trans h.noticeArmed, k.noticePending.trans h.noticePending, fun x => k.calibrate (h.calibrate x)⟩

theorem modChan_clearKept {f : Channel → Channel} (kept : ∀ ch, ClearKept ch (f ch)) (s : State) (c d : Chan) :
    ClearKept (s.chan d) ((s.modChan c f).chan d) := by
  by_cases same : d = c
  · subst same; rw [State.modChan_chan_same]; exact kept _
  · rw [State.modChan_chan_other s f same]; exact .refl _

theorem enterRun_clearKept (c : Chan) (s : State) (d : Chan) : ClearKept (s.chan d) ((enterRun c s).chan d) := by
  unfold enterRun
  rw [State.modGate_chan]
  exact modChan_clearKept (f := toRun s.active.scheds[c])
    (fun _ => ⟨rfl, rfl, rfl, rfl, rfl, rfl, rfl, rfl, rfl, rfl, fun _ => nofun⟩) s c d

theorem enterRampdown_clearKept (c : Chan) (r q : Bool) (s : State) (d : Chan) :
    ClearKept (s.chan d) ((enterRampdown c r q s).chan d) := by
  have ramped (r q : Bool) (ch : Channel) : ClearKept ch (toRampdown r q ch) :=
    ⟨rfl, rfl, rfl, rfl, rfl, rfl, rfl, rfl, rfl, rfl, fun _ => nofun⟩
  unfold enterRampdown
  dsimp only
  split
  · exact (modChan_clearKept (ramped r q) s c d).trans (modChan_clearKept (ramped r false) _ _ d)
  · exact modChan_clearKept (ramped r q) s c d

theorem takeEnable_clearKept (c : Chan) (n : Control) (s : State) (d : Chan) :
    ClearKept (s.chan d) ((takeEnable c n s).chan d) := by
  have refused : ClearKept (s.chan d) ((s.modChan c refuseEnable).chan d) :=
    modChan_clearKept (f := refuseEnable) (fun _ => ⟨rfl, rfl, rfl, rfl, rfl, rfl, rfl, rfl, rfl, rfl, id⟩) s c d
  unfold takeEnable
  cases (s.chan c).state with
  | ready =>
    dsimp only
    split
    · unfold startRun
      split
      · exact (enterRun_clearKept c s d).trans (enterRun_clearKept _ _ d)
      · exact enterRun_clearKept c s d
    · exact refused
  | run | hold => exact .refl _
  | off | calibrate | rampdown | fault => exact refused

theorem commitStep4_clearKept (c : Chan) (p n : Control) (s : State) (d : Chan) :
    ClearKept (s.chan d) ((commitStep4 c p n s).chan d) := by
  have enabled : ClearKept (s.chan d) ((if rising (enableBit p) (enableBit n) then takeEnable c n s else s).chan d) := by
    split
    · exact takeEnable_clearKept c n s d
    · exact .refl _
  unfold commitStep4
  dsimp only
  generalize (if rising (enableBit p) (enableBit n) then takeEnable c n s else s) = s1 at enabled ⊢
  split
  · exact enabled.trans (enterRampdown_clearKept c _ _ s1 d)
  · exact enabled

/-! ## NOTICE_ACK and TRACE_TRIG -/

theorem commitSteps123_notice (s : State) (p n : Control) (ch : Channel) :
    (commitSteps123 s p n ch).noticeArmed = ch.noticeArmed ∧
      (commitSteps123 s p n ch).noticePending = ch.noticePending := by
  have held : (holdReturn ch).noticeArmed = ch.noticeArmed ∧ (holdReturn ch).noticePending = ch.noticePending := by
    unfold holdReturn; split <;> exact ⟨rfl, rfl⟩
  have cleared (ch : Channel) : (clearRequest s ch).noticeArmed = ch.noticeArmed ∧
      (clearRequest s ch).noticePending = ch.noticePending := by
    unfold clearRequest
    split
    · split
      · split <;> exact ⟨rfl, rfl⟩
      · exact ⟨rfl, rfl⟩
    · exact ⟨rfl, rfl⟩
  have calibrating (ch : Channel) : (calibrationRequest ch).noticeArmed = ch.noticeArmed ∧
      (calibrationRequest ch).noticePending = ch.noticePending := by
    unfold calibrationRequest
    split <;> exact ⟨rfl, rfl⟩
  unfold commitSteps123
  dsimp only
  split <;> split <;> simp only [calibrating, cleared, held, and_self]

theorem commitSequence_notice (p n : Chan → Control) (s : State) (c : Chan) :
    ((commitSequence p n s).chan c).noticeArmed =
      ((s.chan c).noticeArmed || rising (noticeAckBit (p c)) (noticeAckBit (n c))) ∧
    ((commitSequence p n s).chan c).noticePending =
      ((s.chan c).noticePending && !rising (noticeAckBit (p c)) (noticeAckBit (n c))) := by
  obtain ⟨u, v, -, before, turns, after⟩ := commitSequence_pair p n (pairOf c) s
  have steps := commitSteps123_notice s (p c) (n c) (s.chan c)
  rw [← (before c rfl).1] at steps
  have kept : ClearKept (u.chan c) (v.chan c) := by
    rw [turns]
    exact (commitStep4_clearKept ..).trans (commitStep4_clearKept ..)
  rw [(after c rfl).1, noticed_eq]
  exact ⟨by rw [kept.noticeArmed, steps.1], by rw [kept.noticePending, steps.2]⟩

theorem commitStep4_trace (c : Chan) (p n : Control) (s : State) : (commitStep4 c p n s).trace = s.trace := by
  have enabled : (if rising (enableBit p) (enableBit n) then takeEnable c n s else s).trace = s.trace := by
    split
    · unfold takeEnable startRun
      cases (s.chan c).state with
      | ready => dsimp only; split <;> [split <;> rfl; rfl]
      | run | hold | off | calibrate | rampdown | fault => rfl
    · rfl
  unfold commitStep4
  dsimp only
  generalize (if rising (enableBit p) (enableBit n) then takeEnable c n s else s) = s1 at enabled ⊢
  split
  · exact (enterRampdown_moment c false false s1).2.trans enabled
  · exact enabled

/-- A TRACE_TRIG edge of channel `c` reaches the capture. -/
def EdgeTriggers (p n : Chan → Control) (u : TraceUnit) (c : Chan) : Prop :=
  rising (traceTrigBit (p c)) (traceTrigBit (n c)) = true ∧ u.armedCfg.source = 3 ∧
    u.armedCfg.sourceArg.getLsbD c.val = true

theorem commitStep5_trace {p n : Chan → Control} (c : Chan) (s : State) :
    (EdgeTriggers p n s.trace c → (commitStep5 c (p c) (n c) s).trace = takeTrigger s.trace) ∧
      (¬ EdgeTriggers p n s.trace c → (commitStep5 c (p c) (n c) s).trace = s.trace) := by
  have acked : (if rising (noticeAckBit (p c)) (noticeAckBit (n c)) then s.modChan c ackNotice else s).trace = s.trace := by
    split <;> rfl
  unfold commitStep5
  dsimp only
  refine ⟨fun ⟨edge, source, mask⟩ => ?_, fun off => ?_⟩
  · rw [if_pos edge]
    show controlTrigger c (if _ then _ else _ : State).trace = _
    rw [acked]
    exact if_pos ⟨source, mask⟩
  · split
    · next edge =>
      show controlTrigger c (if _ then _ else _ : State).trace = _
      rw [acked]
      exact if_neg fun both => off ⟨edge, both⟩
    · exact acked

theorem foldl_step5_trace (p n : Chan → Control) (l : List Chan) : ∀ s,
    ((∃ c ∈ l, EdgeTriggers p n s.trace c) →
      (l.foldl (fun s c => commitStep5 c (p c) (n c) s) s).trace = takeTrigger s.trace) ∧
    ((∀ c ∈ l, ¬ EdgeTriggers p n s.trace c) →
      (l.foldl (fun s c => commitStep5 c (p c) (n c) s) s).trace = s.trace) := by
  induction l with
  | nil => exact fun s => ⟨fun ⟨c, member, _⟩ => absurd member (by simp), fun _ => rfl⟩
  | cons c l ih =>
    intro s
    obtain ⟨triggers, leaves⟩ := commitStep5_trace (p := p) (n := n) c s
    obtain ⟨ih_triggers, ih_leaves⟩ := ih (commitStep5 c (p c) (n c) s)
    by_cases here : EdgeTriggers p n s.trace c
    · rw [triggers here] at ih_triggers ih_leaves
      refine ⟨fun _ => ?_, fun off => absurd here (off c List.mem_cons_self)⟩
      by_cases later : ∃ d ∈ l, EdgeTriggers p n (takeTrigger s.trace) d
      · exact (ih_triggers later).trans (takeTrigger_idem _)
      · exact ih_leaves fun d member edge => later ⟨d, member, edge⟩
    · rw [leaves here] at ih_triggers ih_leaves
      refine ⟨fun ⟨d, member, edge⟩ => ih_triggers ⟨d, ?_, edge⟩, fun off =>
        ih_leaves fun d member => off d (List.mem_cons_of_mem _ member)⟩
      refine (List.mem_cons.1 member).resolve_left ?_
      rintro rfl
      exact here edge

theorem commitSequence_trace (p n : Chan → Control) (s : State) :
    ((∃ c, EdgeTriggers p n s.trace c) → (commitSequence p n s).trace = takeTrigger s.trace) ∧
      ((∀ c, ¬ EdgeTriggers p n s.trace c) → (commitSequence p n s).trace = s.trace) := by
  have turns (l : List Chan) : ∀ u, (l.foldl (fun s c => commitStep4 c (p c) (n c) s) u).trace = u.trace := by
    induction l with
    | nil => exact fun _ => rfl
    | cons c l ih => exact fun u => (ih _).trans (commitStep4_trace c _ _ u)
  have steps := foldl_step5_trace p n allChans (allChans.foldl (fun s c => commitStep4 c (p c) (n c) s)
    (s.mapChans fun c ch => commitSteps123 s (p c) (n c) ch))
  rw [turns] at steps
  exact ⟨fun ⟨c, edge⟩ => steps.1 ⟨c, mem_allChans c, edge⟩, fun off => steps.2 fun c _ => off c⟩

/-- Settles O26. -/
theorem controlWordMovesAnUnpairedChannel : Obligations.ControlWordMovesAnUnpairedChannel := by
  unfold Obligations.ControlWordMovesAnUnpairedChannel
  refine ⟨fun s f h at_ c n g word unpaired phase ack cal => ?_,
    fun s f h at_ c n recd ok starts g word unpaired phase low_ack ack cal fault isRecorded isOk isStart => ?_,
    fun s f h at_ c n g word unpaired phase ack low_cal cal => ?_, fun s f h at_ c n g word phase => ?_⟩
  · obtain ⟨t, w, u, a, b, run, hands, keeps, alone, chan, gate, result, gates⟩ := unpaired_cycle at_ g word unpaired
    rw [commitSteps123_plain w (rising_of_low ack) (rising_of_low cal)] at chan
    refine ⟨t, run, fun ready low high => ?_, fun roh => ?_, fun rest => ?_⟩
    · rw [holdReturn_other (by rw [ready]; nofun)] at chan
      obtain ⟨started, refused⟩ := unpaired_ready (n := n) hands keeps alone phase (by rw [chan]; exact ready)
        (by rw [chan]) (rising_enable_iff.2 ⟨low, high⟩)
      rw [chan, gate] at started refused
      refine ⟨fun allowed => ?_, fun forbidden => ?_⟩
      · rw [(started allowed).1] at result
        rw [(started allowed).2] at gates
        rw [result, gates]
        exact ⟨rfl, rfl, rfl, rfl, rfl, rfl, rfl, rfl, rfl, rfl, rfl, rfl, fun four => riseBand_rises _ _ 3 0 four⟩
      · rw [(refused forbidden).1] at result
        rw [(refused forbidden).2] at gates
        rw [result]
        exact ⟨ready, rfl, gates⟩
    · rw [holdReturn_runs roh] at chan
      have runs : (u.chan c).state = .run := by rw [chan]
      refine ⟨fun stops => ?_, fun on => ?_⟩
      · obtain ⟨ramped, kept⟩ := unpaired_stops alone runs stops
        rw [ramped, chan] at result
        rw [kept, gate] at gates
        rw [result]
        exact ⟨rfl, rfl, rfl, rfl, Bool.or_false _, Bool.or_false _, gates⟩
      · rw [commitStep4_stays runs on, chan] at result
        rw [result]
        exact ⟨rfl, rfl, rfl, rfl⟩
    · have idle : (s.chan c).state ≠ .ready ∧ runOrHold (s.chan c).state = false ∧ (s.chan c).state ≠ .hold := by
        rcases rest with e | e | e | e <;> rw [e] <;> exact ⟨nofun, rfl, nofun⟩
      obtain ⟨ready, roh, hold⟩ := idle
      rw [holdReturn_other hold] at chan
      obtain ⟨rests, -⟩ := commitStep4_rests_chan (p := s.prevCtrl c) (n := n) (u := u) (by rw [chan]; exact ready)
        (by rw [chan]; exact roh)
      rw [rests, chan] at result
      rw [result]
      exact ⟨rfl, rfl⟩
  · obtain ⟨t, w, u, a, b, run, hands, keeps, alone, chan, gate, result, -⟩ := unpaired_cycle at_ g word unpaired
    rw [commitSteps123_ack w (rising_iff.2 ⟨low_ack, ack⟩) (rising_of_low cal),
      holdReturn_other (by rw [fault]; nofun)] at chan
    have kept := commitStep4_clearKept c (s.prevCtrl c) n u c
    have records (k : Cause) : recd k ↔ recorded (s.chan c) k = true := (isRecorded k).trans (recorded_iff _ k).symm
    have clearables : ok ↔ allClearable w (s.chan c) = true := by
      rw [isOk, allClearable_handed hands phase]
      simp only [records]
    have rested (state : (u.chan c).state = .off ∨ (u.chan c).state = .fault) :
        ((commitStep4 c (s.prevCtrl c) n u).chan c).state = (u.chan c).state := by
      refine (congrArg Channel.state (commitStep4_rests_chan ?_ ?_).1).trans rfl <;>
        rcases state with e | e <;> rw [e] <;> first | rfl | nofun
    refine ⟨t, run, ?_⟩
    rw [result]
    by_cases cleared : ok
    · obtain ⟨off, ready⟩ := clearRequest_cleared fault (clearables.1 cleared)
      by_cases range : recd .offsetRange
      · rw [off ((records _).1 range)] at chan
        rw [chan] at kept rested
        exact ⟨kept.fault, fun no => absurd cleared no, fun _ => kept.clearRefused,
          fun _ _ => ⟨rested (.inl rfl), kept.calibrated, kept.offA, kept.offB⟩, fun _ no => absurd range no⟩
      · rw [ready (Bool.eq_false_iff.2 fun set => range ((records _).2 set))] at chan
        have started (edge : starts) := unpaired_ready (n := n) hands keeps alone phase (by rw [chan]) (by rw [chan])
          (rising_enable_iff.2 (isStart.1 edge))
        have waits (no : ¬ starts) : commitStep4 c (s.prevCtrl c) n u = u :=
          commitStep4_idle (Bool.eq_false_iff.2 fun edge => no (isStart.2 (rising_enable_iff.1 edge))) (by rw [chan]; nofun)
        rw [chan] at kept
        refine ⟨kept.fault, fun no => absurd cleared no, fun _ => kept.clearRefused, fun _ yes => absurd yes range,
          fun _ _ => ⟨kept.calibrated, kept.offA, kept.offB, fun ⟨edge, allowed⟩ => ?_, fun no => ?_, fun edge ready => ?_⟩⟩
        · rw [((started edge).1 allowed).1]
          rfl
        · by_cases edge : starts
          · rw [((started edge).2 fun allowed => no ⟨edge, allowed⟩).1, chan]
            rfl
          · rw [waits edge, chan]
        · by_cases allowed : s.bus.state = .normal ∧ (s.chan c).invalidCount = 0 ∧ s.inhnLow = false ∧ n.getLsbD 1 = false
          · rw [((started edge).1 allowed).1] at ready
            cases ready
          · rw [((started edge).2 allowed).1]
            rfl
    · rw [clearRequest_refused fault fun yes => cleared (clearables.2 yes)] at chan
      rw [chan] at kept rested
      exact ⟨kept.fault, fun _ => ⟨(rested (.inr fault)).trans fault, kept.clearRefused⟩, fun yes => absurd yes cleared,
        fun yes => absurd yes cleared, fun yes => absurd yes cleared⟩
  · obtain ⟨t, w, u, a, b, run, hands, keeps, alone, chan, gate, result, -⟩ := unpaired_cycle at_ g word unpaired
    rw [commitSteps123_calibrate w (rising_of_low ack) (rising_iff.2 ⟨low_cal, cal⟩)] at chan
    have kept := commitStep4_clearKept c (s.prevCtrl c) n u c
    refine ⟨t, run, fun rests => ?_, fun off ready => ?_⟩
    · have hold : (s.chan c).state ≠ .hold := by rcases rests with e | e <;> rw [e] <;> nofun
      rw [holdReturn_other hold, calibrationRequest_taken rests] at chan
      obtain ⟨rest, -⟩ := commitStep4_rests_chan (p := s.prevCtrl c) (n := n) (u := u) (by rw [chan]; nofun)
        (by rw [chan]; rfl)
      rw [rest, chan] at result
      rw [result]
      exact ⟨rfl, rfl, rfl, rfl, rfl, rfl, rfl, rfl⟩
    · have still : ¬ ((holdReturn (s.chan c)).state = .off ∨ (holdReturn (s.chan c)).state = .ready) := by
        unfold holdReturn
        split
        · nofun
        · exact fun both => both.elim off ready
      have returned : ClearKept (s.chan c) (holdReturn (s.chan c)) := by
        unfold holdReturn
        split
        · exact ⟨rfl, rfl, rfl, rfl, rfl, rfl, rfl, rfl, rfl, rfl, fun _ => nofun⟩
        · exact .refl _
      rw [calibrationRequest_kept still] at chan
      rw [chan] at kept
      have all := returned.trans kept
      rw [result]
      exact ⟨all.calibrated, all.calCount, all.sumA, all.sumB, all.calibrate⟩
  · obtain ⟨t, w, run, hands, trace, result⟩ := endOfReception_sequence at_ g
    have mine : handed f.latches s c = n := by rw [word]; exact handed_single s c n
    have notice := commitSequence_notice s.prevCtrl (handed f.latches s) w c
    rw [mine, hands.chan, ← (result c).1] at notice
    obtain ⟨triggers, leaves⟩ := commitSequence_trace s.prevCtrl (handed f.latches s) w
    rw [hands.trace, ← trace] at triggers leaves
    refine ⟨t, run, notice.1, notice.2, fun armed source mask _ low high => ?_, fun off => ?_⟩
    · rw [triggers ⟨c, rising_iff.2 ⟨low, by rw [mine]; exact high⟩, source, mask⟩]
      exact triggered_takeTrigger armed
    · by_cases edge : ∃ d, EdgeTriggers s.prevCtrl (handed f.latches s) s.trace d
      · rw [triggers edge]
        obtain ⟨d, up, source, mask⟩ := edge
        obtain ⟨low, high⟩ := rising_iff.1 up
        refine takeTrigger_unarmed (off.resolve_right ?_)
        rintro (other | ⟨own, others⟩)
        · exact other source
        · by_cases same : d = c
          · subst same
            rw [mine] at high
            rcases own with before | after | unmasked
            · exact Bool.false_ne_true (low.symm.trans before)
            · exact Bool.false_ne_true (after.symm.trans high)
            · rw [unmasked] at mask; cases mask
          · rw [word, handed_other s n same] at high
            rcases others d same with before | after
            · exact Bool.false_ne_true (low.symm.trans before)
            · exact Bool.false_ne_true (after.symm.trans high)
      · exact leaves fun d is => edge ⟨d, is⟩

end Sys2Proof.Machine
end

section
/-! ENABLE and QUICKSTOP of a configured pair at a cycle commit (R109, R110). -/

namespace Sys2Proof.Machine

open Sys2Proof Relation

/-- A pair at a cycle commit: `u` before the turns of its channels, `v` after them, `t` at the end. -/
structure PairCycle (s t u v : State) (p : Fin 4) (leads follows : Control) : Prop where
  configured : u.pairs[p] = true
  leader : u.chan (evenOf p) = holdReturn (s.chan (evenOf p)) ∧ u.gate (evenOf p) = s.gate (evenOf p)
  follower : u.chan (oddOf p) = holdReturn (s.chan (oddOf p)) ∧ u.gate (oddOf p) = s.gate (oddOf p)
  turns : v = commitStep4 (oddOf p) (s.prevCtrl (oddOf p)) follows
    (commitStep4 (evenOf p) (s.prevCtrl (evenOf p)) leads u)
  leader_end : t.chan (evenOf p) =
    noticed (rising (noticeAckBit (s.prevCtrl (evenOf p))) (noticeAckBit leads)) (v.chan (evenOf p))
  leader_gate : t.gate (evenOf p) = v.gate (evenOf p)
  follower_end : t.chan (oddOf p) =
    noticed (rising (noticeAckBit (s.prevCtrl (oddOf p))) (noticeAckBit follows)) (v.chan (oddOf p))
  follower_gate : t.gate (oddOf p) = v.gate (oddOf p)

/-- A cycle commit at a pair whose control words bring no edge of FAULT_ACK or CALIBRATE. -/
theorem pair_cycle {s : State} {f : FrameCtx} {h : Header} (at_ : Nat) (g : GoodCycle s f h) {p : Fin 4}
    (configured : s.pairs[p] = true) {n m : Control} (leads : handed f.latches s (evenOf p) = n)
    (follows : handed f.latches s (oddOf p) = m)
    (ackL : rising (faultAckBit (s.prevCtrl (evenOf p))) (faultAckBit n) = false)
    (calL : rising (calibrateBit (s.prevCtrl (evenOf p))) (calibrateBit n) = false)
    (ackF : rising (faultAckBit (s.prevCtrl (oddOf p))) (faultAckBit m) = false)
    (calF : rising (calibrateBit (s.prevCtrl (oddOf p))) (calibrateBit m) = false) :
    ∃ t w u v, exec (.endOfReception at_ []) s = .next t ∧ HandsOn s w ∧ SampleKeeps w u ∧ PairCycle s t u v p n m := by
  obtain ⟨t, w, run, hands, -, result⟩ := endOfReception_sequence at_ g
  obtain ⟨u, v, keeps, before, turns, after⟩ := commitSequence_pair s.prevCtrl (handed f.latches s) p w
  obtain ⟨chanL, gateL⟩ := before _ (pairOf_evenOf p)
  obtain ⟨chanF, gateF⟩ := before _ (pairOf_oddOf p)
  obtain ⟨endL, endGateL⟩ := after _ (pairOf_evenOf p)
  obtain ⟨endF, endGateF⟩ := after _ (pairOf_oddOf p)
  rw [leads, commitSteps123_plain w ackL calL, hands.chan] at chanL
  rw [follows, commitSteps123_plain w ackF calF, hands.chan] at chanF
  rw [hands.gate] at gateL gateF
  rw [leads, follows] at turns
  rw [leads, ← (result _).1] at endL
  rw [follows, ← (result _).1] at endF
  rw [← (result _).2] at endGateL endGateF
  have paired : u.pairs[p] = true := by rw [keeps.pairs, hands.pairs]; exact configured
  exact ⟨t, w, u, v, run, hands, keeps,
    ⟨paired, ⟨chanL, gateL⟩, ⟨chanF, gateF⟩, turns, endL, endGateL, endF, endGateF⟩⟩

section

variable {u : State} {p : Fin 4}

theorem leads_of_configured (configured : u.pairs[p] = true) : pairedLeader u (evenOf p) = true := by
  rw [pairedLeader_evenOf, configured]

theorem follows_of_configured (configured : u.pairs[p] = true) : pairedFollower u (oddOf p) = true := by
  rw [pairedFollower_oddOf, configured]

/-- The conditions of R5 for a paired leader in OPERATIONAL. -/
theorem runAllowed_leader {s w : State} {n : Control} (hands : HandsOn s w) (keeps : SampleKeeps w u)
    (configured : u.pairs[p] = true) (phase : s.phase = .operational) : runAllowed u (evenOf p) n = true ↔
      s.bus.state = .normal ∧ (u.chan (evenOf p)).invalidCount = 0 ∧ s.inhnLow = false ∧ n.getLsbD 1 = false ∧
        (u.chan (oddOf p)).state = .ready ∧ (u.chan (oddOf p)).invalidCount = 0 := by
  have leads := leads_of_configured configured
  unfold runAllowed
  rw [leads, pairedLeader_not_follower leads, keeps.phase, hands.phase, phase, keeps.bus, hands.bus, keeps.inhnLow,
    hands.inhnLow, partnerOf_evenOf]
  simp [quickstopBit, and_assoc]

/-- A follower never starts by its own ENABLE (R109). -/
theorem runAllowed_follower (configured : u.pairs[p] = true) (n : Control) : runAllowed u (oddOf p) n = false := by
  unfold runAllowed
  rw [follows_of_configured configured]
  simp

/-- An allowed start takes leader and follower into RUN. -/
theorem startRun_pair (configured : u.pairs[p] = true) :
    (startRun (evenOf p) u).chan (evenOf p) = toRun u.active.scheds[evenOf p] (u.chan (evenOf p)) ∧
    (startRun (evenOf p) u).chan (oddOf p) = toRun u.active.scheds[oddOf p] (u.chan (oddOf p)) ∧
    (startRun (evenOf p) u).gate (evenOf p) = gateEnable (u.gate (evenOf p)) ∧
    (startRun (evenOf p) u).gate (oddOf p) = gateEnable (u.gate (oddOf p)) := by
  have apart := evenOf_ne_oddOf p p
  have active : (enterRun (evenOf p) u).active = u.active := (enterRun_keeps (evenOf p) u).active
  unfold startRun
  rw [leads_of_configured configured, if_pos rfl, partnerOf_evenOf, enterRun_chan_other _ apart, enterRun_chan_same,
    enterRun_chan_same, enterRun_chan_other _ apart.symm, enterRun_gate_other _ apart, enterRun_gate_same,
    enterRun_gate_same, enterRun_gate_other _ apart.symm, active]
  exact ⟨rfl, rfl, rfl, rfl⟩

/-- The turn of a follower in RUN: its QUICKSTOP counts, its falling ENABLE does not. -/
theorem commitStep4_follower_runs (configured : u.pairs[p] = true) (runs : (u.chan (oddOf p)).state = .run)
    (x m : Control) : (commitStep4 (oddOf p) x m u).chan (oddOf p) =
      (if m.getLsbD 1 then toRampdown false false (u.chan (oddOf p)) else u.chan (oddOf p)) ∧
    (commitStep4 (oddOf p) x m u).gate (oddOf p) = u.gate (oddOf p) := by
  have test : (quickstopBit m || (falling (enableBit x) (enableBit m) && !pairedFollower u (oddOf p))) = m.getLsbD 1 := by
    rw [follows_of_configured configured]
    simp [quickstopBit]
  rw [commitStep4_runs runs, test, enterRampdown_alone (pairedLeader_oddOf u p)]
  split
  · exact ⟨State.modChan_chan_same .., rfl⟩
  · exact ⟨rfl, rfl⟩

/-- The turn of a follower outside RUN and HOLD: its ENABLE is refused. -/
theorem commitStep4_follower_rests (configured : u.pairs[p] = true) (rests : runOrHold (u.chan (oddOf p)).state = false)
    (x m : Control) : (commitStep4 (oddOf p) x m u).chan (oddOf p) = { u.chan (oddOf p) with
      enableRefused := (u.chan (oddOf p)).enableRefused || rising (enableBit x) (enableBit m) } ∧
    (commitStep4 (oddOf p) x m u).gate (oddOf p) = u.gate (oddOf p) := by
  by_cases ready : (u.chan (oddOf p)).state = .ready
  · cases edge : rising (enableBit x) (enableBit m) with
    | true =>
      rw [commitStep4_refused ready edge (runAllowed_follower configured m), State.modChan_chan_same, Bool.or_true]
      exact ⟨rfl, rfl⟩
    | false =>
      rw [commitStep4_idle edge (by rw [ready]; nofun), Bool.or_false]
      exact ⟨rfl, rfl⟩
  · exact commitStep4_rests_chan ready rests

/-- The turn of a follower shows in no other channel. -/
theorem commitStep4_follower_own (x m : Control) : (commitStep4 (oddOf p) x m u).chan (evenOf p) = u.chan (evenOf p) ∧
    (commitStep4 (oddOf p) x m u).gate (evenOf p) = u.gate (evenOf p) :=
  commitStep4_own (pairedLeader_oddOf u p) (evenOf_ne_oddOf p p)

/-- A leader in RUN that stops takes its follower in RUN or HOLD along (R110). -/
theorem commitStep4_leader_stops (configured : u.pairs[p] = true) (runs : (u.chan (evenOf p)).state = .run) {x n : Control}
    (stops : n.getLsbD 1 = true ∨ x.getLsbD 0 = true ∧ n.getLsbD 0 = false) :
    (commitStep4 (evenOf p) x n u).chan (evenOf p) = toRampdown false false (u.chan (evenOf p)) ∧
    (runOrHold (u.chan (oddOf p)).state = true →
      (commitStep4 (evenOf p) x n u).chan (oddOf p) = toRampdown false false (u.chan (oddOf p))) ∧
    (runOrHold (u.chan (oddOf p)).state = false →
      (commitStep4 (evenOf p) x n u).chan (oddOf p) = u.chan (oddOf p)) := by
  have test : (quickstopBit n || (falling (enableBit x) (enableBit n) && !pairedFollower u (evenOf p))) = true := by
    rw [pairedLeader_not_follower (leads_of_configured configured), Bool.or_eq_true_iff]
    exact stops.imp id fun down => Bool.and_eq_true_iff.2 ⟨falling_iff.2 down, rfl⟩
  obtain ⟨own, along, others⟩ := enterRampdown_chans (evenOf p) false u
  rw [commitStep4_runs runs, if_pos test]
  refine ⟨own, along _ (follows_of_configured configured) (partnerOf_oddOf p), fun rests => ?_⟩
  exact others _ (evenOf_ne_oddOf p p).symm fun ⟨_, _, roh⟩ => by rw [rests] at roh; cases roh

end

/-! ## Control words of a pair -/

theorem handed_leader {s : State} (p : Fin 4) (n m : Control) :
    handed [.control (evenOf p) n, .control (oddOf p) m] s (evenOf p) = n :=
  handed_replaced List.mem_cons_self fun v member => by
    rcases List.mem_cons.1 member with e | e
    · cases e; rfl
    · exact absurd (by simpa using e : evenOf p = oddOf p ∧ v = m).1 (evenOf_ne_oddOf p p)

theorem handed_follower {s : State} (p : Fin 4) (n m : Control) :
    handed [.control (evenOf p) n, .control (oddOf p) m] s (oddOf p) = m :=
  handed_replaced (by simp) fun v member => by
    rcases List.mem_cons.1 member with e | e
    · exact absurd (by simpa using e : oddOf p = evenOf p ∧ v = n).1 (evenOf_ne_oddOf p p).symm
    · simpa using e

theorem runOrHold_of_rests {x : ChState} (h : x = .off ∨ x = .calibrate ∨ x = .ready ∨ x = .rampdown ∨ x = .fault) :
    runOrHold x = false ∧ x ≠ .hold := by
  rcases h with e | e | e | e | e <;> rw [e] <;> exact ⟨rfl, nofun⟩

theorem holdReturn_rests {ch : Channel} (h : runOrHold ch.state = false) : holdReturn ch = ch :=
  holdReturn_other fun hold => by rw [hold] at h; cases h

theorem holdReturn_ready_iff (ch : Channel) : (holdReturn ch).state = .ready ↔ ch.state = .ready := by
  unfold holdReturn
  split
  · next hold => rw [hold]; exact ⟨nofun, nofun⟩
  · rfl

theorem holdReturn_invalidCount (ch : Channel) : (holdReturn ch).invalidCount = ch.invalidCount := by
  unfold holdReturn
  split <;> rfl

theorem noticed_same (n : Control) (ch : Channel) : noticed (rising (noticeAckBit n) (noticeAckBit n)) ch = ch := by
  rw [rising_self]; rfl

/-- The leader's turn with a control word that has no edge and no QUICKSTOP. -/
theorem commitStep4_same {c : Chan} {n : Control} {u : State} (calm : n.getLsbD 1 = false) : commitStep4 c n n u = u := by
  by_cases runs : (u.chan c).state = .run
  · exact commitStep4_stays runs fun stops => stops.elim (fun q => by rw [calm] at q; cases q) fun ⟨a, b⟩ => by
      rw [a] at b; cases b
  · exact commitStep4_idle (rising_self _) runs

/-- Settles O27. -/
theorem followerEntersRunWithItsLeader : Obligations.FollowerEntersRunWithItsLeader := by
  unfold Obligations.FollowerEntersRunWithItsLeader
  refine ⟨fun s f h at_ p n m ld fl allowed g hld hfl configured phase words ack cal ack' cal' ready low high isAllowed => ?_,
    fun s f h at_ p m ld fl g hld hfl configured phase word ack cal same calm => ?_,
    fun s f h at_ p n ld fl g hld hfl configured phase word ack cal same roh stops => ?_⟩
  · subst hld hfl
    obtain ⟨t, w, u, v, run, hands, keeps, paired, ⟨chanL, gateL⟩, ⟨chanF, gateF⟩, turns, tL, tgL, tF, tgF⟩ :=
      pair_cycle at_ g configured (words ▸ handed_leader p n m) (words ▸ handed_follower p n m) (rising_of_low ack)
        (rising_of_low cal) (rising_of_low ack') (rising_of_low cal')
    rw [holdReturn_other (by rw [ready]; nofun)] at chanL
    rw [noticed_eq] at tL tF
    have edge : rising (enableBit (s.prevCtrl (evenOf p))) (enableBit n) = true := rising_enable_iff.2 ⟨low, high⟩
    have ready' : (u.chan (evenOf p)).state = .ready := by rw [chanL]; exact ready
    have conditions : runAllowed u (evenOf p) n = true ↔ allowed := by
      rw [runAllowed_leader hands keeps paired phase, isAllowed, chanL, chanF, holdReturn_ready_iff,
        holdReturn_invalidCount]
    refine ⟨t, run, fun yes => ?_, fun no => ?_⟩
    · rw [commitStep4_started ready' edge (conditions.2 yes)] at turns
      obtain ⟨startL, startF, enableL, enableF⟩ := startRun_pair paired
      have still : (startRun (evenOf p) u).pairs[p] = true := by rw [(startRun_keeps (evenOf p) u).pairs]; exact paired
      obtain ⟨ownL, gownL⟩ := commitStep4_follower_own (u := startRun (evenOf p) u) (p := p) (s.prevCtrl (oddOf p)) m
      obtain ⟨ownF, gownF⟩ := commitStep4_follower_runs still (by rw [startF]; rfl) (s.prevCtrl (oddOf p)) m
      rw [turns, ownL, startL] at tL
      rw [turns, ownF, startF] at tF
      rw [turns, gownL, enableL] at tgL
      rw [turns, gownF, enableF] at tgF
      rw [tL, tgL, tgF, tF]
      cases m.getLsbD 1 <;> exact ⟨rfl, rfl, rfl, rfl, rfl, rfl, rfl, rfl, rfl, rfl, rfl, rfl⟩
    · have forbidden : runAllowed u (evenOf p) n = false := Bool.eq_false_iff.2 fun yes => no (conditions.1 yes)
      rw [commitStep4_refused ready' edge forbidden] at turns
      obtain ⟨ownL, gownL⟩ := commitStep4_follower_own (u := u.modChan (evenOf p) refuseEnable) (p := p)
        (s.prevCtrl (oddOf p)) m
      rw [turns, ownL, State.modChan_chan_same, chanL] at tL
      have gate : t.gate (evenOf p) = s.gate (evenOf p) := by rw [tgL, turns, gownL]; exact gateL
      rw [tL]
      refine ⟨ready, rfl, gate, fun rests => ?_⟩
      obtain ⟨calm, hold⟩ := runOrHold_of_rests rests
      have alone : (u.modChan (evenOf p) refuseEnable).chan (oddOf p) = s.chan (oddOf p) := by
        rw [State.modChan_chan_other u _ (evenOf_ne_oddOf p p).symm, chanF, holdReturn_other hold]
      obtain ⟨ownF, gownF⟩ := commitStep4_follower_rests (u := u.modChan (evenOf p) refuseEnable) paired
        (by rw [alone]; exact calm) (s.prevCtrl (oddOf p)) m
      have gate : t.gate (oddOf p) = s.gate (oddOf p) := by rw [tgF, turns, gownF]; exact gateF
      rw [turns, ownF, alone] at tF
      rw [tF]
      exact ⟨rfl, gate, rfl⟩
  · subst hld hfl
    have wordL : handed f.latches s (evenOf p) = s.prevCtrl (evenOf p) := by
      rw [word, handed_other s m (evenOf_ne_oddOf p p), same]
    obtain ⟨t, w, u, v, run, hands, keeps, paired, ⟨chanL, -⟩, ⟨chanF, -⟩, turns, tL, -, tF, -⟩ :=
      pair_cycle at_ g configured wordL (word ▸ handed_single s _ m) (rising_self _) (rising_self _) (rising_of_low ack)
        (rising_of_low cal)
    rw [commitStep4_same (by rw [same]; exact calm)] at turns
    obtain ⟨ownL, -⟩ := commitStep4_follower_own (u := u) (p := p) (s.prevCtrl (oddOf p)) m
    rw [noticed_same, turns, ownL, chanL] at tL
    rw [noticed_eq, turns] at tF
    refine ⟨t, run, fun hold => ?_, fun other => ?_, fun ready => ?_, fun roh stops => ?_, fun roh on => ?_⟩
    · rw [tL, holdReturn_hold hold]
    · rw [tL, holdReturn_other other]
    · rw [holdReturn_other (by rw [ready]; nofun)] at chanF
      rw [(commitStep4_follower_rests paired (by rw [chanF, ready]; rfl) _ m).1, chanF] at tF
      rw [tF]
      exact ⟨ready, rfl⟩
    · rw [holdReturn_runs roh] at chanF
      rw [(commitStep4_follower_runs paired (by rw [chanF]) _ m).1, stops, if_pos rfl, chanF] at tF
      rw [tF]
      exact ⟨rfl, rfl, rfl, rfl, Bool.or_false _, Bool.or_false _⟩
    · rw [holdReturn_runs roh] at chanF
      rw [(commitStep4_follower_runs paired (by rw [chanF]) _ m).1, on, if_neg (by simp), chanF] at tF
      rw [tF]
      exact ⟨rfl, rfl⟩
  · subst hld hfl
    have wordF : handed f.latches s (oddOf p) = s.prevCtrl (oddOf p) := by
      rw [word, handed_other s n (evenOf_ne_oddOf p p).symm, same]
    obtain ⟨t, w, u, v, run, hands, keeps, paired, ⟨chanL, -⟩, ⟨chanF, -⟩, turns, tL, -, tF, -⟩ :=
      pair_cycle at_ g configured (word ▸ handed_single s _ n) wordF (rising_of_low ack) (rising_of_low cal)
        (rising_self _) (rising_self _)
    rw [holdReturn_runs roh] at chanL
    obtain ⟨stopL, along, apart⟩ := commitStep4_leader_stops paired (by rw [chanL]) stops
    obtain ⟨ownL, -⟩ := commitStep4_follower_own
      (u := commitStep4 (evenOf p) (s.prevCtrl (evenOf p)) n u) (p := p) (s.prevCtrl (oddOf p)) (s.prevCtrl (oddOf p))
    rw [noticed_eq, turns, ownL, stopL, chanL] at tL
    rw [noticed_same] at tF
    have idle (rests : runOrHold ((commitStep4 (evenOf p) (s.prevCtrl (evenOf p)) n u).chan (oddOf p)).state = false) :
        t.chan (oddOf p) = (commitStep4 (evenOf p) (s.prevCtrl (evenOf p)) n u).chan (oddOf p) := by
      rw [tF, turns, commitStep4_idle (rising_self _) fun e => by rw [e] at rests; cases rests]
    have left : (t.chan (evenOf p)).state = .rampdown ∧ (t.chan (evenOf p)).rampD = (s.chan (evenOf p)).lastRefD ∧
        (t.chan (evenOf p)).rampQ = (s.chan (evenOf p)).lastRefQ ∧ (t.chan (evenOf p)).rampComplete = false ∧
        (t.chan (evenOf p)).pendRefLoss = (s.chan (evenOf p)).pendRefLoss ∧
        (t.chan (evenOf p)).pendPartner = (s.chan (evenOf p)).pendPartner := by
      rw [tL]
      exact ⟨rfl, rfl, rfl, rfl, Bool.or_false _, Bool.or_false _⟩
    obtain ⟨ramp, d, q, complete, refLoss, partner⟩ := left
    refine ⟨t, run, ramp, d, q, complete, refLoss, partner, fun follows => ?_, fun rests => ?_⟩
    · rw [holdReturn_runs follows] at chanF
      have taken := along (by rw [chanF]; rfl)
      rw [idle (by rw [taken]; rfl), taken, chanF]
      exact ⟨rfl, rfl, rfl, rfl, Bool.or_false _, Bool.or_false _⟩
    · rw [holdReturn_rests rests] at chanF
      have stays := apart (by rw [chanF]; exact rests)
      rw [idle (by rw [stays, chanF]; exact rests), stays, chanF]

end Sys2Proof.Machine
end

section
/-! Frames as they are received (R116 to R118, R121, R123): bytes that are no whole part, frames that are dropped,
and whole parts brought by END_OF_RECEPTION. -/

namespace Sys2Proof.Machine

open Sys2Proof Relation

/-! ## Bytes that are no whole part -/

/-- The bytes left are no whole part, by the part that would come next. -/
def NoPart (f : FrameCtx) (rest : List Byte) : Prop :=
  nextPart f = .plain ∨ rest.length < partLength (nextPart f)

theorem noPart_nil (f : FrameCtx) : NoPart f [] := .inr (lt_of_lt_of_le (by decide) (two_le_partLength (nextPart f)))

theorem noPart_of_endsWithin {f : FrameCtx} {rest : List Byte} (h : EndsWithin f rest) : NoPart f rest := by
  rcases h with plain | ⟨header, short⟩ | ⟨record, short⟩ | ⟨w, slot, short⟩
  · exact .inl plain
  · exact .inr (by rw [header]; exact short)
  · exact .inr (by rw [record]; exact short)
  · exact .inr (by rw [slot]; exact short)

theorem noPart_foreign {f : FrameCtx} (foreign : f.kind = .foreign) (rest : List Byte) : NoPart f rest :=
  .inl (by unfold nextPart; rw [foreign])

theorem nextPart_badHeader {f : FrameCtx} {h : Header} (kind : f.kind ≠ .foreign) (header : f.header = some h) :
    nextPart f = if f.badHeader then .plain else partAfterHeader h f.rx.length := by
  unfold nextPart
  cases k : f.kind with
  | foreign => exact absurd k kind
  | cycle | service => rw [header]

theorem receivePlain_receiving {s : State} {f : FrameCtx} (receiving : s.port.receiving = some f) (bs : List Byte) :
    receivePlain bs s = withReceiving s (pushPlain bs f) := by unfold receivePlain; rw [receiving]

theorem receiveRest_noPart {s : State} {f : FrameCtx} {rest : List Byte} (receiving : s.port.receiving = some f)
    (ends : NoPart f rest) (n : Nat) : receiveRest n rest s = withReceiving s (pushPlain rest f) := by
  cases n with
  | zero => exact receivePlain_receiving receiving rest
  | succ n =>
    unfold receiveRest
    rw [receiving]
    exact (if_pos ends).trans (receivePlain_receiving receiving rest)

/-- The end of reception with bytes that are no whole part. -/
theorem endOfReception_noPart {s : State} {f : FrameCtx} {rest : List Byte} (at_ : Nat)
    (receiving : s.port.receiving = some f) (settled : s.moment = none) (ends : NoPart f rest) :
    exec (.endOfReception at_ rest) s = .next (resume (settleFrame (pushPlain rest f)
      (withReceiving (s.withNow (max s.now at_)) (pushPlain rest f)))) := by
  show Host.Outcome.next (endReception at_ rest s) = _
  rw [endReception_settled at_ rest receiving settled,
    receiveRest_noPart (s := s.withNow (max s.now at_)) receiving ends]
  rfl

/-! ## Dropped frames (R117, R121, R123) -/

theorem settleFrame_dropped {f : FrameCtx} (dropped : verdictOf f ≠ .good) (s : State) :
    settleFrame f s = (closeReception f s).withCounters (countDropped f s.counters) := if_neg dropped

/-- A frame that does not commit leaves its counters and its own passage. -/
theorem endOfReception_dropped {s : State} {f : FrameCtx} {rest : List Byte} {v : Verdict} (at_ : Nat)
    (receiving : s.port.receiving = some f) (settled : s.moment = none) (ends : NoPart f rest)
    (verdict : verdictOf (pushPlain rest f) = v) (dropped : v ≠ .good) :
    exec (.endOfReception at_ rest) s = .next { s with
      now := max s.now at_
      port := { s.port with
        receiving := none, leaving := s.port.leaving ++ [{ f with rx := f.rx ++ rest, verdict := v }] }
      counters := countDropped (pushPlain rest f) s.counters } := by
  subst verdict
  rw [endOfReception_noPart at_ receiving settled ends, settleFrame_dropped dropped]
  exact congrArg _ (resume_of_none settled)

/-- The length test of R118 in the statements' words. -/
theorem frameLength_eq (h : Header) :
    frameLength h = 8 + (if h.servicePresent = 1 then 26 else 0) + 2 * h.slotCount.toNat := by
  unfold frameLength slotStart hasRecord slotCountOf
  by_cases e : h.servicePresent = 1
  · simp only [e, beq_self_eq_true, if_true]; omega
  · simp only [beq_iff_eq, e, if_false]; omega

theorem formatError_whole {s : State} {f : FrameCtx} {h : Header} (g : WholeFrame s f h) : formatError f = false := by
  have length := g.length
  rw [← frameLength_eq] at length
  have long : ¬ f.rx.length < 8 := by rw [length, frameLength_eq]; omega
  unfold formatError
  rw [g.header]
  simp [g.noError, length]
  rw [← length]
  omega

theorem formatError_badHeader {f : FrameCtx} {h : Header} (header : f.header = some h) (bad : f.badHeader = true) :
    formatError f = true := by
  unfold formatError
  rw [header]
  simp [bad]

theorem formatError_short {f : FrameCtx} (header : f.header = none) : formatError f = true := by
  unfold formatError
  rw [header]

theorem formatError_length {f : FrameCtx} {h : Header} (header : f.header = some h)
    (length : f.rx.length ≠ frameLength h) : formatError f = true := by
  unfold formatError
  rw [header]
  simp [length]

/-- Settles O28. -/
theorem discardedFramesTakeNoEffect : Obligations.DiscardedFramesTakeNoEffect := by
  unfold Obligations.DiscardedFramesTakeNoEffect
  refine ⟨fun s f h at_ g crc => ?_, fun s f at_ rest receiving settled kind wrong => ?_⟩
  · have sound : formatError (pushPlain [] f) = false := by rw [pushPlain_nil]; exact formatError_whole g
    have bad : crcGood (pushPlain [] f) = false := by
      rw [pushPlain_nil]
      unfold crcGood trailerIn
      exact beq_eq_false_iff_ne.2 crc
    have verdict : verdictOf (pushPlain [] f) = .void := by
      have kind : (pushPlain [] f).kind ≠ .foreign := g.kind
      unfold verdictOf
      rw [if_neg kind, sound, bad]
      rfl
    rw [endOfReception_dropped at_ g.receiving g.settled (noPart_nil f) verdict nofun, List.append_nil]
    unfold countDropped
    rw [if_neg (show (pushPlain [] f).kind ≠ .foreign from g.kind), sound]
    rfl
  · have error : formatError (pushPlain rest f) = true := by
      rcases wrong with ⟨h, header, bad⟩ | ⟨-, header⟩ | ⟨rfl, h, header, length⟩
      · exact formatError_badHeader header bad
      · exact formatError_short header
      · rw [pushPlain_nil]
        exact formatError_length header (by rw [frameLength_eq]; exact length)
    have ends : NoPart f rest := by
      rcases wrong with ⟨h, header, bad⟩ | ⟨rfl, -⟩ | ⟨rfl, -⟩
      · exact .inl (by rw [nextPart_badHeader kind header, bad, if_pos rfl])
      · exact noPart_nil f
      · exact noPart_nil f
    have verdict : verdictOf (pushPlain rest f) = .void := by
      unfold verdictOf
      rw [if_neg (show (pushPlain rest f).kind ≠ .foreign from kind), error]
      rfl
    rw [endOfReception_dropped at_ receiving settled ends verdict nofun]
    unfold countDropped
    rw [if_neg (show (pushPlain rest f).kind ≠ .foreign from kind), error]
    rfl

/-! ## Parts of a frame do not look at the time -/

theorem takeWords_withNow (s : State) (n : Nat) (w : Window) (xs : List Word) :
    ∀ p, takeWords (s.withNow n) w p xs = takeWords s w p xs := by
  have writable (e f : Nat) : fieldWritable (s.withNow n) w.table e f = fieldWritable s w.table e f := rfl
  induction xs with
  | nil => exact fun _ => rfl
  | cons x xs ih =>
    intro p
    unfold takeWords
    simp only [writable, ih]

theorem judgeWords_withNow (s : State) (n : Nat) (w : Window) (start : Bool) (p : Nat) (b : RecordBody) :
    judgeWords (s.withNow n) w start p b = judgeWords s w start p b := by
  unfold judgeWords
  rw [takeWords_withNow]

theorem judgeCommand_withNow (s : State) (n : Nat) (c : Command) (b : RecordBody) :
    judgeCommand (s.withNow n) c b = judgeCommand s c b := by
  have busy : commitBusy (s.withNow n) = commitBusy s := rfl
  cases c with
  | writeStart =>
    show judgeWriteStart (s.withNow n) b = judgeWriteStart s b
    unfold judgeWriteStart
    simp only [judgeWords_withNow, busy]
    rfl
  | writeContinue =>
    show judgeWriteContinue (s.withNow n) b = judgeWriteContinue s b
    unfold judgeWriteContinue
    simp only [judgeWords_withNow, busy]
    rfl
  | _ => rfl

theorem judge_withNow (s : State) (n : Nat) (phase : Phase) (broadcast : Bool) (code : Byte) (b : RecordBody) :
    judge (s.withNow n) phase broadcast code b = judge s phase broadcast code b := by
  unfold judge
  simp only [judgeCommand_withNow]
  rfl

theorem closeIf_withNow (c : Bool) (s : State) (n : Nat) : closeIf c (s.withNow n) = (closeIf c s).withNow n := by
  cases c <;> rfl

theorem answerRecord_withNow (code : Byte) (b : RecordBody) (f : FrameCtx) (s : State) (n : Nat) :
    answerRecord code b f (s.withNow n) = (answerRecord code b f s).withNow n := by
  unfold answerRecord answerFlags answerTaken
  rw [← closeIf_withNow, judge_withNow]
  rfl

theorem broadcastRecord_withNow (code : Byte) (b : RecordBody) (f : FrameCtx) (s : State) (n : Nat) :
    broadcastRecord code b f (s.withNow n) = (broadcastRecord code b f s).withNow n := by
  unfold broadcastRecord broadcastFlags broadcastTaken broadcastActs broadcastRuns
  rw [← closeIf_withNow, judge_withNow]
  rfl

theorem receiveRecord_withNow (code : Byte) (b : RecordBody) (s : State) (n : Nat) :
    receiveRecord code b (s.withNow n) = (receiveRecord code b s).withNow n := by
  have receiving : (s.withNow n).port.receiving = s.port.receiving := rfl
  unfold receiveRecord
  rw [receiving]
  cases s.port.receiving with
  | none => rfl
  | some f =>
    dsimp only
    cases nextPart f with
    | record =>
      have handled : handling (s.withNow n) b = handling s b := rfl
      dsimp only
      rw [handled]
      cases handling s b with
      | answer => exact answerRecord_withNow code b f s n
      | broadcast => exact broadcastRecord_withNow code b f s n
      | pass => rfl
    | plain | header | slot w => rfl

/-! ## Whole parts (R118, R131, R139, R153) -/

theorem receiveHeader_of_next {s : State} {f : FrameCtx} (receiving : s.port.receiving = some f)
    (next : nextPart f = .header) (h : Header) : receiveHeader h s = withReceiving s (takeHeader h f) := by
  unfold receiveHeader
  rw [receiving]
  dsimp only
  rw [next]

theorem receiveSlotWord_of_next {s : State} {f : FrameCtx} {w : Nat} (receiving : s.port.receiving = some f)
    (next : nextPart f = .slot w) (x : Word) : receiveSlotWord x s = withReceiving s (takeSlotWord s w x f) := by
  unfold receiveSlotWord
  rw [receiving]
  dsimp only
  rw [next]

/-- `t` goes on with the frame being received in `s`, at the same time. -/
structure GoesOn (s t : State) : Prop where
  now : t.now = s.now
  moment : t.moment = s.moment
  receiving : ∃ g, t.port.receiving = some g

theorem closeIf_goesOn (c : Bool) {s t : State} (h : GoesOn s t) : GoesOn s (closeIf c t) := by
  obtain ⟨now, moment, receiving⟩ := h
  cases c <;> exact ⟨now, moment, receiving⟩

theorem withReceiving_goesOn (s : State) (f : FrameCtx) : GoesOn s (withReceiving s f) := ⟨rfl, rfl, f, rfl⟩

theorem receiveRecord_goesOn {s : State} {f : FrameCtx} (receiving : s.port.receiving = some f)
    (next : nextPart f = .record) (code : Byte) (b : RecordBody) : GoesOn s (receiveRecord code b s) := by
  unfold receiveRecord
  rw [receiving]
  dsimp only
  rw [next]
  dsimp only
  cases handling s b with
  | answer => exact closeIf_goesOn _ (withReceiving_goesOn s _)
  | broadcast => exact closeIf_goesOn _ (withReceiving_goesOn s _)
  | pass => exact withReceiving_goesOn s _

/-- A row that receives the part that comes next, and END_OF_RECEPTION that brings its bytes, do the same. -/
theorem receivesPart_spec {i : Instr} {s : State} {f : FrameCtx} {bytes : List Byte}
    (receiving : s.port.receiving = some f) (part : ReceivesPart i f bytes) :
    ∃ t, exec i s = .next t ∧ GoesOn s t ∧ nextPart f ≠ .plain ∧ bytes.length = partLength (nextPart f) ∧
      ∀ n, receivePart (nextPart f) bytes (s.withNow n) = t.withNow n := by
  rcases part with ⟨h, rfl, next, rfl⟩ | ⟨code, b, row, wf, next, rfl⟩ | ⟨x, w, rfl, next, rfl⟩ <;> rw [next]
  · have taken := receiveHeader_of_next receiving next h
    refine ⟨_, congrArg Host.Outcome.next taken, withReceiving_goesOn s _, nofun, length_headerBytes h, fun n => ?_⟩
    show receiveHeader (headerOf (headerBytes h)) (s.withNow n) = _
    rw [headerOf_headerBytes]
    exact receiveHeader_of_next (s := s.withNow n) receiving next h
  · refine ⟨_, exec_record row wf s, receiveRecord_goesOn receiving next code b, nofun, length_recordBytes code b,
      fun n => ?_⟩
    show receiveRecord (recordCode (recordBytes code b)) (recordBody (recordBytes code b)) (s.withNow n) = _
    rw [recordCode_recordBytes, recordBody_recordBytes, receiveRecord_withNow]
  · have taken := receiveSlotWord_of_next receiving next x
    refine ⟨_, congrArg Host.Outcome.next taken, withReceiving_goesOn s _, nofun, length_wordBytes x, fun n => ?_⟩
    show receiveSlotWord (bytesWord ((wordBytes x).getD 0 0) ((wordBytes x).getD 1 0)) (s.withNow n) = _
    rw [bytesWord_wordBytes]
    exact receiveSlotWord_of_next (s := s.withNow n) receiving next x

/-- END_OF_RECEPTION receives a whole part before the bytes that follow it. -/
theorem endOfReception_part {i : Instr} {s : State} {f : FrameCtx} {bytes : List Byte} (at_ : Nat) (more : List Byte)
    (receiving : s.port.receiving = some f) (settled : s.moment = none) (part : ReceivesPart i f bytes) :
    ∃ t, exec i s = .next t ∧ exec (.endOfReception at_ (bytes ++ more)) s = exec (.endOfReception at_ more) t := by
  obtain ⟨t, run, goes, whole, length, same⟩ := receivesPart_spec receiving part
  obtain ⟨g, receiving'⟩ := goes.receiving
  refine ⟨t, run, ?_⟩
  have first := receiveRest_part (s := s.withNow (max s.now at_)) bytes more receiving whole length
  rw [same] at first
  show Host.Outcome.next (endReception at_ (bytes ++ more) s) = Host.Outcome.next (endReception at_ more t)
  rw [endReception_settled at_ _ receiving settled, first,
    endReception_settled at_ more receiving' (goes.moment.trans settled), goes.now]

/-! ## Frames open, headers are checked, FOREIGN frames pass -/

theorem startFrame_open {s : State} (released : s.resetLow = false) (idle : s.port.waiting = false)
    (free : s.port.receiving = none) (kind : Byte) : startFrame kind s = withReceiving s (openFrame s.phase kind) := by
  unfold startFrame
  rw [released, idle, free]
  rfl

theorem startFrame_busy {s : State} {f : FrameCtx} (receiving : s.port.receiving = some f) (kind : Byte) :
    startFrame kind s = s := by
  unfold startFrame
  rw [receiving]
  exact ite_self s

theorem headerBad_iff (kind : FrameKind) (h : Header) : headerBad kind h = true ↔ 128 < h.slotCount.toNat ∨
    (h.servicePresent ≠ 0 ∧ h.servicePresent ≠ 1) ∨
    (kind = .service ∧ (h.slotCount ≠ 0 ∨ h.servicePresent ≠ 1)) := by
  have count : h.slotCount.toNat ≠ 0 ↔ h.slotCount ≠ 0 :=
    not_congr ⟨fun e => BitVec.eq_of_toNat_eq e, fun e => by rw [e]; rfl⟩
  unfold headerBad hasRecord slotCountOf
  simp only [Bool.or_eq_true, Bool.and_eq_true, decide_eq_true_iff, bne_iff_ne, Bool.not_eq_true', beq_eq_false_iff_ne,
    beq_iff_eq, count, or_assoc]

/-- Settles O29. -/
theorem framesOpenAreCheckedAndForeignOnesPass : Obligations.FramesOpenAreCheckedAndForeignOnesPass := by
  unfold Obligations.FramesOpenAreCheckedAndForeignOnesPass
  refine ⟨fun kind s released idle free => ?_, fun kind s f receiving => ?_,
    fun s f at_ rest receiving settled foreign => ?_, fun s f h receiving kind header length => ?_,
    fun s f rest leaving foreign => ?_, fun i s f at_ bytes more receiving settled part =>
      endOfReception_part at_ more receiving settled part, fun s f at_ rest receiving settled ends => ?_⟩
  · exact congrArg Host.Outcome.next (startFrame_open released idle free kind)
  · exact congrArg Host.Outcome.next (startFrame_busy receiving kind)
  · have verdict : verdictOf (pushPlain rest f) = .foreign := if_pos foreign
    rw [endOfReception_dropped at_ receiving settled (noPart_foreign foreign rest) verdict nofun]
    unfold countDropped
    rw [if_pos (show (pushPlain rest f).kind = .foreign from foreign)]
  · have next : nextPart f = .header := by
      unfold nextPart
      cases k : f.kind with
      | foreign => exact absurd k kind
      | cycle | service => rw [header]; exact if_pos length
    exact ⟨_, takeHeader h f, congrArg Host.Outcome.next (receiveHeader_of_next receiving next h), rfl, rfl,
      headerBad_iff f.kind h⟩
  · show Host.Outcome.next (sendTrailer s) = _
    unfold sendTrailer framesOut
    rw [leaving]
    simp only [foreign, if_true]
    rfl
  · have bytes := endOfReception_noPart (f := pushPlain rest f) (rest := []) at_
      (s := { s with port := { s.port with receiving := some { f with rx := f.rx ++ rest } } }) rfl settled
      (noPart_nil _)
    rw [pushPlain_nil] at bytes
    rw [bytes, endOfReception_noPart at_ receiving settled (noPart_of_endsWithin ends)]
    rfl

/-! ## Bytes 0 and 1 (R120) -/

theorem atTxl_leaving {s : State} {f : FrameCtx} {rest : List FrameCtx} (leaving : s.port.leaving = f :: rest)
    (g : FrameCtx → FrameCtx) : atTxl g s = s.withPort { s.port with leaving := g f :: rest } := by
  unfold atTxl
  rw [leaving]

theorem atTxl_receiving {s : State} {f : FrameCtx} (leaving : s.port.leaving = []) (receiving : s.port.receiving = some f)
    (g : FrameCtx → FrameCtx) : atTxl g s = s.withPort { s.port with receiving := some (g f) } := by
  unfold atTxl
  rw [leaving, receiving]
  rfl

theorem mayLeave_ended {f : FrameCtx} (h : f.verdict ≠ .arriving) : mayLeave f = f.rx.length - 2 :=
  if_pos (bne_iff_ne.2 h)

theorem mayLeave_arriving {f : FrameCtx} (h : f.verdict = .arriving) : f.rx.length + 2 - 26 ≤ mayLeave f := by
  have : ended f = false := by unfold ended; rw [h]; rfl
  unfold mayLeave
  rw [this, if_neg (by simp)]
  have := two_le_partLength (nextPart f)
  omega

theorem summaryOut_eq (s : State) (f : FrameCtx) (b : Byte) : summaryOut s f b =
    if f.kind = .cycle ∧ f.badHeader = false ∧ s.phase = .operational ∧ ∃ c, (s.chan c).state = .fault then b ||| 1
    else b := by
  unfold summaryOut
  simp only [anyChan_iff, Bool.not_eq_true', beq_iff_eq]

/-- Settles O30. -/
theorem summaryByteShowsFaultPresent : Obligations.SummaryByteShowsFaultPresent := by
  unfold Obligations.SummaryByteShowsFaultPresent
  intro s f kind b more rx tx
  have sent (may : 2 ≤ mayLeave f) : sendSummary s f =
      { f with tx := [kind, summaryOut s f b], crcOut := crcBytes f.crcOut [kind, summaryOut s f b] } := by
    have head : headOut s f = [kind, summaryOut s f b] := by unfold headOut; rw [rx]
    unfold sendSummary sendBytes
    rw [if_pos ⟨tx, may⟩, head, tx]
    rfl
  refine ⟨_, rfl, fun rest leaving ended long => ?_, fun leaving receiving long => ?_⟩ <;> rw [← summaryOut_eq]
  · have may : 2 ≤ mayLeave f := by
      rw [mayLeave_ended ended, rx]
      simp only [List.length_cons]
      omega
    show Host.Outcome.next (atTxl (sendSummary s) s) = _
    rw [atTxl_leaving leaving, sent may]
    rfl
  · have may : 2 ≤ mayLeave f := by
      have length : f.rx.length = more.length + 2 := by rw [rx]; rfl
      by_cases arriving : f.verdict = .arriving
      · have := mayLeave_arriving arriving
        omega
      · rw [mayLeave_ended arriving]
        omega
    show Host.Outcome.next (atTxl (sendSummary s) s) = _
    rw [atTxl_receiving leaving receiving, sent may]
    rfl

end Sys2Proof.Machine
end

section
/-! Frames as they leave (R116, R119 to R121, R139, R148): the slot words, the bytes before the trailer, and the
trailer. -/

namespace Sys2Proof.Machine

open Sys2Proof Relation

/-! ## Bytes that leave -/

theorem sendBytes_nil (f : FrameCtx) : sendBytes [] f = f := by
  unfold sendBytes
  rw [List.append_nil]
  rfl

/-- A frame that has left up to a position sends nothing more up to it. -/
theorem sendTo_of_left (s : State) {bound : Nat} {f : FrameCtx} (left : bound ≤ f.tx.length) : sendTo s bound f = f := by
  have rest (g : FrameCtx) (h : bound ≤ g.tx.length) : sendBytes (((bytesOut g).take bound).drop g.tx.length) g = g := by
    rw [List.drop_eq_nil_of_le ((List.length_take_le _ _).trans h), sendBytes_nil]
  have first : (if f.tx = [] then sendBytes ((headOut s f).take bound) f else f) = f := by
    split
    · next empty =>
      have zero : bound = 0 := by rw [empty] at left; exact Nat.le_zero.1 left
      rw [zero, List.take_zero, sendBytes_nil]
    · rfl
  unfold sendTo
  rw [first]
  exact rest f left

theorem slotStart_eq (h : Header) : slotStart h = 6 + (if h.servicePresent = 1 then 26 else 0) := by
  unfold slotStart hasRecord
  by_cases e : h.servicePresent = 1
  · rw [if_pos (beq_iff_eq.2 e), if_pos e]
  · rw [if_neg (fun t => e (beq_iff_eq.1 t)), if_neg e]

/-- A slot word leaves next when everything before it has left. -/
theorem sendWord_next {s : State} {h : Header} {f : FrameCtx} {w : Nat} (count : w < h.slotCount.toNat)
    (tx : f.tx.length = slotStart h + 2 * w) (may : slotStart h + 2 * w + 2 ≤ mayLeave f) :
    sendWord s h f = sendBytes (wordOut s f h w) f := by
  have next : nextWordOut h f = w := by unfold nextWordOut; rw [tx]; omega
  unfold sendWord
  rw [next]
  rw [if_pos ⟨count, may⟩, sendTo_of_left s tx.ge]

/-! ## What a slot word leaves as (R148, R150) -/

theorem matches_iff (st : StationSettings) (status : Word) : matches_ st status = true ↔
    (st.matchCare.getLsbD 0 = true → status.toNat % 8 = st.matchState) ∧
    (st.matchCare.getLsbD 1 = true → status.getLsbD 4 = st.matchFlags.getLsbD 1) ∧
    (st.matchCare.getLsbD 2 = true → status.getLsbD 5 = st.matchFlags.getLsbD 2) ∧
    (st.matchCare.getLsbD 3 = true → status.getLsbD 6 = st.matchFlags.getLsbD 3) ∧
    (st.matchCare.getLsbD 4 = true → status.getLsbD 7 = st.matchFlags.getLsbD 4) ∧
    (st.matchCare.getLsbD 5 = true → status.getLsbD 15 = st.matchFlags.getLsbD 5) := by
  have implies (a b : Bool) : (!a || b) = true ↔ (a = true → b = true) := by cases a <;> simp
  unfold matches_
  simp only [Bool.and_eq_true, implies, beq_iff_eq, and_assoc]

theorem matchWord_bit (s : State) (i : Nat) : (matchWord s).getLsbD i = true ↔
    ∃ c : Chan, matches_ s.station (s.chan c).last.status = true ∧ c.val = i := by
  unfold matchWord
  rw [foldl_mask fun c => matches_ s.station (s.chan c).last.status]
  simp [mem_allChans]

theorem matchWord_lt (s : State) : (matchWord s).toNat < 256 := by
  refine Nat.lt_pow_two_of_testBit (n := 8) _ fun i high => Bool.eq_false_iff.2 fun set => ?_
  obtain ⟨c, -, rfl⟩ := (matchWord_bit s i).1 set
  exact absurd c.isLt (by omega)

theorem matchWord_chan (s : State) (c : Chan) :
    (matchWord s).getLsbD c.val = true ↔ matches_ s.station (s.chan c).last.status = true := by
  rw [matchWord_bit]
  exact ⟨fun ⟨d, is, same⟩ => Fin.val_injective same ▸ is, fun is => ⟨c, is, rfl⟩⟩

/-- The word of a produce entry, item by item (R148, R150). -/
theorem produceValue_spec (s : State) (e : SlotEntry) :
    (e.item.val = 0 → produceValue s e = word (rshift e.shift (s.chan e.channel).last.iq)) ∧
    (e.item.val = 1 → produceValue s e = word (rshift e.shift (s.chan e.channel).last.id)) ∧
    (e.item.val = 2 → produceValue s e = (s.chan e.channel).last.status) ∧
    (e.item.val = 3 → produceValue s e = word (rshift e.shift (s.chan e.channel).last.speed)) ∧
    (e.item.val = 4 → produceValue s e = word (rshift e.shift (rshift 16 (s.chan e.channel).last.i2t))) ∧
    (e.item.val = 5 → produceValue s e = word (rshift e.shift (s.chan e.channel).last.vbus)) ∧
    (e.item.val = 6 → produceValue s e = matchWord s) := by
  obtain ⟨valid, offset, produce, channel, item, shift, increment⟩ := e
  refine ⟨fun k => ?_, fun k => ?_, fun k => ?_, fun k => ?_, fun k => ?_, fun k => ?_, fun k => ?_⟩
  · obtain rfl : item = 0 := Fin.ext k
    rfl
  · obtain rfl : item = 1 := Fin.ext k
    rfl
  · obtain rfl : item = 2 := Fin.ext k
    rfl
  · obtain rfl : item = 3 := Fin.ext k
    rfl
  · obtain rfl : item = 4 := Fin.ext k
    rfl
  · obtain rfl : item = 5 := Fin.ext k
    rfl
  · obtain rfl : item = 6 := Fin.ext k
    rfl

theorem take_two {l : List Byte} {n : Nat} (long : n + 2 ≤ l.length) :
    (l.drop n).take 2 = [l.getD n 0, l.getD (n + 1) 0] := by
  rw [List.drop_eq_getElem_cons (by omega), List.drop_eq_getElem_cons (i := n + 1) (by omega), List.take_succ_cons,
    List.take_succ_cons, List.take_zero]
  simp [List.getD_eq_getElem?_getD, List.getElem?_eq_getElem (show n < l.length by omega),
    List.getElem?_eq_getElem (show n + 1 < l.length by omega)]

theorem wordLeavesAs_wordOut {s : State} {f : FrameCtx} {h : Header} {w : Nat} (cycle : f.kind = .cycle)
    (sound : f.badHeader = false) (tx : f.tx.length = slotStart h + 2 * w) (long : f.tx.length + 2 ≤ f.rx.length) :
    WordLeavesAs s f w (wordOut s f h w) := by
  refine ⟨fun bare unnamed => ?_, fun i e r names he produce operational hr => ?_⟩
  · have bytes : bytesOut f = f.rx := by unfold bytesOut; rw [bare]
    have received : ((bytesOut f).drop (slotStart h + 2 * w)).take 2 =
        [f.rx.getD f.tx.length 0, f.rx.getD (f.tx.length + 1) 0] := by
      rw [bytes, ← tx, take_two long]
    unfold wordOut
    dsimp only
    rw [received]
    split
    · next processed =>
      cases found : findEntry s w with
      | none => rfl
      | some e =>
        obtain ⟨i, names, rfl⟩ := findEntry_eq_some_iff.1 found
        rcases unnamed with config | none
        · simp [slotsProcessed, config] at processed
        · exact if_neg (by rw [none i names]; simp)
    · rfl
  · subst he hr
    have processed : slotsProcessed f = true := by simp [slotsProcessed, cycle, sound, operational]
    have out : wordOut s f h w = wordBytes (produceValue s s.slotMap[i]) := by
      unfold wordOut
      rw [processed, findEntry_eq_some_iff.2 ⟨i, names, rfl⟩]
      exact (if_pos rfl).trans (if_pos produce)
    obtain ⟨iq, id, status, speed, i2t, vbus, match_⟩ := produceValue_spec s s.slotMap[i]
    refine ⟨_, out, iq, id, status, speed, i2t, vbus, fun item => ?_⟩
    rw [match_ item]
    exact ⟨matchWord_lt s, fun c => (matchWord_chan s c).trans (matches_iff _ _)⟩

theorem sendNextWord_cycle {s : State} {f : FrameCtx} {h : Header} (cycle : f.kind = .cycle)
    (header : f.header = some h) (sound : f.badHeader = false) : sendNextWord s f = sendWord s h f := by
  unfold sendNextWord
  rw [cycle, header]
  simp [sound]

/-- Settles O32. -/
theorem produceWordWritesTheMeasuredValue : Obligations.ProduceWordWritesTheMeasuredValue := by
  unfold Obligations.ProduceWordWritesTheMeasuredValue
  intro s f h w cycle header sound count tx
  rw [← slotStart_eq] at tx
  have sends (may : slotStart h + 2 * w + 2 ≤ mayLeave f) :
      sendNextWord s f = sendBytes (wordOut s f h w) f := by
    rw [sendNextWord_cycle cycle header sound, sendWord_next count tx may]
  refine ⟨fun rest leaving ended length => ?_, fun leaving receiving arriving long => ?_⟩
  · have length : f.rx.length = 2 + slotStart h + 2 * h.slotCount.toNat := by rw [length, slotStart_eq]; omega
    refine ⟨_, wordLeavesAs_wordOut cycle sound tx (by omega), ?_⟩
    show Host.Outcome.next (atTxl (sendNextWord s) s) = _
    rw [atTxl_leaving leaving, sends (by rw [mayLeave_ended ended]; omega)]
    rfl
  · have may := mayLeave_arriving arriving
    refine ⟨_, wordLeavesAs_wordOut cycle sound tx (by omega), ?_⟩
    show Host.Outcome.next (atTxl (sendNextWord s) s) = _
    rw [atTxl_receiving leaving receiving, sends (by omega)]
    rfl

/-! ## The trailer (R121) -/

/-- The frame leaves with everything before its trailer, and the trailer. -/
theorem exec_trailerSent {s : State} {f : FrameCtx} {rest : List FrameCtx} (leaving : s.port.leaving = f :: rest)
    (ended : f.verdict = .good ∨ f.verdict = .void) (long : 2 ≤ f.rx.length) :
    exec .trailerSent s = .next { s with port := { s.port with
      leaving := rest, lastSent := (sendAll s f).tx ++ wordBytes (trailerOut (sendAll s f)) } } := by
  have own : f.verdict ≠ .foreign := by rcases ended with e | e <;> rw [e] <;> nofun
  have out : framesOut s f = (sendAll s f).tx ++ wordBytes (trailerOut (sendAll s f)) := by
    unfold framesOut
    rw [if_neg own, if_neg (by omega)]
  show Host.Outcome.next (sendTrailer s) = _
  unfold sendTrailer
  rw [leaving]
  dsimp only
  rw [out, if_neg (by omega)]
  rfl

theorem mayLeave_closed {f : FrameCtx} (closed : f.verdict = .good ∨ f.verdict = .void) : mayLeave f = f.rx.length - 2 :=
  mayLeave_ended (by rcases closed with e | e <;> rw [e] <;> nofun)

/-- No slot word leaves any more once everything that may leave has left. -/
theorem sendWord_of_left {s : State} {h : Header} {f : FrameCtx} (left : mayLeave f ≤ f.tx.length) :
    sendWord s h f = f := by
  unfold sendWord
  refine if_neg fun ⟨_, fits⟩ => ?_
  unfold nextWordOut at fits
  omega

theorem sendWords_of_stuck {s : State} {h : Header} {f : FrameCtx} (stuck : sendWord s h f = f) (n : Nat) :
    sendWords s h n f = f := by
  induction n with
  | zero => rfl
  | succ n ih => unfold sendWords; rw [stuck, ih]

/-- Everything before the trailer leaves at once in a frame without slot words of its own to replace. -/
theorem sendAll_plain {s : State} {f : FrameCtx} (plain : f.kind = .service ∨ ∃ h, f.header = some h ∧ h.slotCount = 0) :
    sendAll s f = sendTo s (mayLeave f) f := by
  unfold sendAll
  cases kind : f.kind with
  | service | foreign => rfl
  | cycle =>
    obtain ⟨h, header, count⟩ := plain.resolve_left (by rw [kind]; nofun)
    have none : slotCountOf h = 0 := by unfold slotCountOf; rw [count]; rfl
    rw [header]
    dsimp only
    rw [none]
    exact ite_self _

theorem sendAll_of_left {s : State} {f : FrameCtx} (left : mayLeave f ≤ f.tx.length) : sendAll s f = f := by
  have all := sendTo_of_left s left
  unfold sendAll
  cases f.kind with
  | service | foreign => exact all
  | cycle =>
    cases f.header with
    | none => exact all
    | some h =>
      dsimp only
      rw [sendWords_of_stuck (sendWord_of_left left), all]
      exact ite_self _

theorem crcBytes_append (r : Word) (a b : List Byte) : crcBytes r (a ++ b) = crcBytes (crcBytes r a) b :=
  List.foldl_append

/-! ## Slot words that leave early (R116) -/

/-- A CYCLE frame, wholly received, whose slot words are processed as they leave. -/
structure WholeCycle (f : FrameCtx) (h : Header) : Prop where
  cycle : f.kind = .cycle
  header : f.header = some h
  sound : f.badHeader = false
  closed : f.verdict = .good ∨ f.verdict = .void
  length : f.rx.length = slotStart h + 2 * slotCountOf h + 2
  record : ∀ r, f.recordOut = some r → r.length = 26 ∧ h.servicePresent = 1

section

variable {s : State} {f : FrameCtx} {h : Header}

theorem WholeCycle.sent (w : WholeCycle f h) {g : FrameCtx} (sent : SentOnly f g) : WholeCycle g h := by
  obtain ⟨cycle, header, sound, closed, length, record⟩ := w
  unfold SentOnly at sent
  rw [sent]
  exact ⟨cycle, header, sound, closed, length, record⟩

theorem WholeCycle.length_bytesOut (w : WholeCycle f h) : (bytesOut f).length = f.rx.length := by
  unfold bytesOut
  cases out : f.recordOut with
  | none => rfl
  | some r =>
    obtain ⟨length, present⟩ := w.record r out
    have long := w.length
    rw [slotStart_eq, if_pos present] at long
    simp only [List.length_append, List.length_take, List.length_drop, length]
    omega

theorem WholeCycle.mayLeave (w : WholeCycle f h) : Machine.mayLeave f = slotStart h + 2 * slotCountOf h := by
  rw [mayLeave_closed w.closed, w.length]
  rfl

theorem six_le_slotStart (h : Header) : 6 ≤ slotStart h := by rw [slotStart_eq]; omega

theorem length_headOut (s : State) (long : 2 ≤ f.rx.length) : (headOut s f).length = 2 := by
  unfold headOut
  match e : f.rx with
  | [] | [_] => rw [e] at long; simp at long
  | _ :: _ :: _ => rfl

theorem length_sendTo (long : 2 ≤ f.rx.length) {bound : Nat} (low : 2 ≤ bound) (inside : bound ≤ (bytesOut f).length) :
    (sendTo s bound f).tx.length = max f.tx.length bound := by
  have rest (g : FrameCtx) (bytes : bytesOut g = bytesOut f) :
      (sendBytes (((bytesOut g).take bound).drop g.tx.length) g).tx.length = max g.tx.length bound := by
    unfold sendBytes
    simp only [List.length_append, List.length_drop, List.length_take, bytes]
    omega
  unfold sendTo
  dsimp only
  split
  · next empty =>
    have head : ((headOut s f).take bound).length = 2 := by
      rw [List.length_take, length_headOut s long]; omega
    rw [rest (sendBytes ((headOut s f).take bound) f) rfl]
    unfold sendBytes
    simp only [List.length_append, head, empty, List.length_nil]
    omega
  · exact rest f rfl

theorem length_wordOut {w : Nat} (inside : slotStart h + 2 * w + 2 ≤ (bytesOut f).length) :
    (wordOut s f h w).length = 2 := by
  have received : (((bytesOut f).drop (slotStart h + 2 * w)).take 2).length = 2 := by
    rw [List.length_take, List.length_drop]; omega
  unfold wordOut
  dsimp only
  split
  · split
    · split
      · rfl
      · exact received
    · exact received
  · exact received

/-- A slot word leaves, or no slot word leaves any more. -/
theorem WholeCycle.sendWord_cases (w : WholeCycle f h) : sendWord s h f = f ∨
    (nextWordOut h f < slotCountOf h ∧ nextWordOut h (sendWord s h f) = nextWordOut h f + 1) := by
  by_cases fits : nextWordOut h f < slotCountOf h ∧ slotStart h + 2 * nextWordOut h f + 2 ≤ Machine.mayLeave f
  · refine .inr ⟨fits.1, ?_⟩
    have six := six_le_slotStart h
    obtain ⟨count, fit⟩ := fits
    rw [w.mayLeave] at fit
    have length := w.length
    have bytes := w.length_bytesOut
    have long : 2 ≤ f.rx.length := by omega
    have low : 2 ≤ slotStart h + 2 * nextWordOut h f := by omega
    have inside : slotStart h + 2 * nextWordOut h f ≤ (bytesOut f).length := by omega
    have sent := sendTo_sentOnly s (slotStart h + 2 * nextWordOut h f) f
    have reached := length_sendTo (s := s) long low inside
    have bytes' := (w.sent sent).length_bytesOut
    have rx : (sendTo s (slotStart h + 2 * nextWordOut h f) f).rx = f.rx := by rw [sent]
    have word := length_wordOut (s := s) (h := h) (w := nextWordOut h f)
      (f := sendTo s (slotStart h + 2 * nextWordOut h f) f) (by rw [bytes', rx]; omega)
    have tx : (sendWord s h f).tx.length = max f.tx.length (slotStart h + 2 * nextWordOut h f) + 2 := by
      unfold sendWord
      rw [w.mayLeave, if_pos ⟨count, fit⟩]
      unfold sendBytes
      rw [List.length_append, reached, word]
    unfold nextWordOut at tx ⊢
    rw [tx]
    omega
  · exact .inl (if_neg fits)

theorem sendWords_sendWord (s : State) (h : Header) (n : Nat) : ∀ f,
    sendWords s h n (sendWord s h f) = sendWord s h (sendWords s h n f) := by
  induction n with
  | zero => exact fun _ => rfl
  | succ n ih => exact fun f => ih (sendWord s h f)

/-- As many slot words as a frame has are all that leave. -/
theorem WholeCycle.sendWord_sendWords (n : Nat) : ∀ f, WholeCycle f h → slotCountOf h ≤ nextWordOut h f + n →
    sendWord s h (sendWords s h n f) = sendWords s h n f := by
  induction n with
  | zero => exact fun f _ enough => if_neg fun fits => absurd (show nextWordOut h f < slotCountOf h from fits.1) (by omega)
  | succ n ih =>
    intro f w enough
    rcases w.sendWord_cases (s := s) with stuck | ⟨-, next⟩
    · rw [sendWords_of_stuck stuck, stuck]
    · exact ih (sendWord s h f) (w.sent (sendWord_sentOnly s h f)) (by omega)

theorem WholeCycle.sendAll (w : WholeCycle f h) : Machine.sendAll s f =
    sendTo s (slotStart h + 2 * slotCountOf h) (sendWords s h (slotCountOf h) f) := by
  unfold Machine.sendAll
  rw [w.cycle, w.header, w.mayLeave]
  simp [w.sound]

/-- A slot word that has left by its row leaves nothing else different. -/
theorem WholeCycle.sendAll_sendWord (w : WholeCycle f h) : Machine.sendAll s (sendWord s h f) = Machine.sendAll s f := by
  rw [(w.sent (sendWord_sentOnly s h f)).sendAll, w.sendAll, sendWords_sendWord,
    WholeCycle.sendWord_sendWords _ f w (by omega)]

/-- Bytes 0 and 1 that have left early leave the same as with the bytes after them. -/
theorem sendTo_sendSummary {bound : Nat} (low : 2 ≤ bound) (f : FrameCtx) (long : 2 ≤ f.rx.length) :
    sendTo s bound (sendSummary s f) = sendTo s bound f := by
  unfold sendSummary
  split
  · next leaves =>
    have head : (headOut s f).take bound = headOut s f := List.take_of_length_le (by rw [length_headOut s long]; exact low)
    have sent : (sendBytes (headOut s f) f).tx ≠ [] := by
      intro empty
      have := congrArg List.length empty
      unfold sendBytes at this
      rw [List.length_append, length_headOut s long] at this
      simp at this
    unfold sendTo
    dsimp only
    rw [if_neg sent, if_pos leaves.1, head]
  · rfl

theorem sendSummary_sent (s : State) (f : FrameCtx) (h : Header) (long : 2 ≤ f.rx.length) :
    nextWordOut h (sendSummary s f) = nextWordOut h f ∧ mayLeave (sendSummary s f) = mayLeave f := by
  unfold sendSummary
  split
  · next leaves =>
    have tx : (sendBytes (headOut s f) f).tx.length = 2 := by
      unfold sendBytes
      rw [List.length_append, length_headOut s long, leaves.1]
      rfl
    have six := six_le_slotStart h
    have zero : f.tx.length = 0 := by rw [leaves.1]; rfl
    refine ⟨?_, rfl⟩
    unfold nextWordOut
    rw [tx, zero]
    omega
  · exact ⟨rfl, rfl⟩

theorem sendWords_sendSummary (long : 2 ≤ f.rx.length) (n : Nat) {bound : Nat} (low : 2 ≤ bound) :
    sendTo s bound (sendWords s h n (sendSummary s f)) = sendTo s bound (sendWords s h n f) := by
  cases n with
  | zero => exact sendTo_sendSummary low f long
  | succ n =>
    obtain ⟨next, may⟩ := sendSummary_sent s f h long
    have six := six_le_slotStart h
    by_cases fits : nextWordOut h f < slotCountOf h ∧ slotStart h + 2 * nextWordOut h f + 2 ≤ mayLeave f
    · have same : sendWord s h (sendSummary s f) = sendWord s h f := by
        unfold sendWord
        rw [next, may, if_pos fits, if_pos fits, sendTo_sendSummary (by omega) f long]
      unfold sendWords
      rw [same]
    · have stuck : sendWord s h (sendSummary s f) = sendSummary s f := by
        unfold sendWord
        rw [next, may, if_neg fits]
      rw [sendWords_of_stuck stuck, sendWords_of_stuck (show sendWord s h f = f from if_neg fits)]
      exact sendTo_sendSummary low f long

theorem WholeCycle.sendAll_sendSummary (w : WholeCycle f h) :
    Machine.sendAll s (sendSummary s f) = Machine.sendAll s f := by
  have six := six_le_slotStart h
  have length := w.length
  rw [(w.sent (sendSummary_sentOnly s f)).sendAll, w.sendAll]
  exact sendWords_sendSummary (by omega) _ (by omega)

end

/-! ## What leaves does not depend on the other frames -/

theorem sendWords_withPort (s : State) (p : RingPort) (h : Header) (n : Nat) : ∀ f,
    sendWords (s.withPort p) h n f = sendWords s h n f := by
  induction n with
  | zero => exact fun _ => rfl
  | succ n ih => exact fun f => ih (sendWord s h f)

theorem sendAll_withPort (s : State) (p : RingPort) (f : FrameCtx) : sendAll (s.withPort p) f = sendAll s f := by
  have bytes (n : Nat) (g : FrameCtx) : sendTo (s.withPort p) n g = sendTo s n g := rfl
  unfold sendAll
  simp only [sendWords_withPort, bytes]

/-- A row by which bytes leave early changes nothing of what the trailer closes. -/
theorem trailerSent_after {i : Instr} {s : State} {f : FrameCtx} {h : Header} {rest : List FrameCtx} {g : FrameCtx → FrameCtx}
    (row : exec i s = .next (atTxl g s)) (leaving : s.port.leaving = f :: rest) (w : WholeCycle f h)
    (sent : SentOnly f (g f)) (same : sendAll s (g f) = sendAll s f) :
    ∃ t, exec i s = .next t ∧ exec .trailerSent t = exec .trailerSent s := by
  refine ⟨_, row, ?_⟩
  have long : 2 ≤ f.rx.length := by have := w.length; omega
  have rx : (g f).rx = f.rx := by rw [sent]
  rw [atTxl_leaving leaving, exec_trailerSent leaving w.closed long,
    exec_trailerSent (s := s.withPort { s.port with leaving := g f :: rest }) rfl (w.sent sent).closed (by rw [rx]; exact long),
    sendAll_withPort, same]
  rfl

/-- Settles O33. -/
theorem trailerCarriesTheOutgoingCrc : Obligations.TrailerCarriesTheOutgoingCrc := by
  unfold Obligations.TrailerCarriesTheOutgoingCrc
  refine ⟨fun s f rest leaving closed left crc => ?_,
    fun s f rest bytes sent leaving closed long started crc plain bare record hsent => ?_,
    fun i s f h rest leaving row closed cycle header sound length record => ?_⟩
  · have all : sendAll s f = f := sendAll_of_left (by rw [mayLeave_closed closed]; omega)
    rw [exec_trailerSent leaving closed (by omega), all]
    unfold trailerOut
    rw [crc]
  · have out : bytesOut f = bytes := by
      unfold bytesOut
      cases r : f.recordOut with
      | none => exact (bare r).symm
      | some r' => exact (record r' r).symm
    have all : sendAll s f = sendBytes ((bytes.take (f.rx.length - 2)).drop f.tx.length) f := by
      rw [sendAll_plain plain, mayLeave_closed closed]
      unfold sendTo
      rw [if_neg started]
      dsimp only
      rw [out]
    rw [exec_trailerSent leaving closed long, all]
    unfold trailerOut sendBytes
    rw [crc, hsent]
    unfold crc16
    rw [crcBytes_append]
  · have w : WholeCycle f h := ⟨cycle, header, sound, closed, by rw [length, slotStart_eq, slotCountOf]; omega, record⟩
    rcases row with rfl | rfl
    · exact trailerSent_after rfl leaving w (sendSummary_sentOnly s f) w.sendAll_sendSummary
    · refine trailerSent_after rfl leaving w (sendNextWord_sentOnly s f) ?_
      rw [sendNextWord_cycle cycle header sound, w.sendAll_sendWord]

end Sys2Proof.Machine
end

section
/-! The sample event of a period start, item by item (R25, R28, R70 to R72): what one item makes of each channel, in
which order the items come, and how a sample event ends. -/

namespace Sys2Proof.Machine

open Sys2Proof Relation

/-! ## Findings (R28, R70, R71) -/

theorem overrangeFinding_iff (x : SenseIn) : overrangeFinding x = true ↔ IsOverrange x := by
  simp [overrangeFinding, overrangeCode, signed, IsOverrange, or_assoc]

theorem overcurrentFinding_iff (ch : Channel) (x : SenseIn) :
    overcurrentFinding ch.record.trip (phaseCurrent x.aRaw ch.offA) (phaseCurrent x.bRaw ch.offB) = true ↔
      IsOvercurrent ch x := by
  have magnitude (n : Nat) (y : Int) : n < y.natAbs ↔ (n : Int) < |y| := by rw [Int.abs_eq_natAbs]; omega
  unfold overcurrentFinding IsOvercurrent
  simp only [Bool.or_eq_true, decide_eq_true_eq, magnitude, or_assoc]
  rfl

theorem angleReached_iff (x : SenseIn) (ch : Channel) :
    angleReached x ch = true ↔ x.valid = false ∧ ch.invalidCount = 2 := by
  simp [angleReached]

/-- A sample without a finding makes the ANGLE_LOST of its channel due (R71). -/
structure LosesAngle (s : State) (c : Chan) : Prop where
  state : drives (s.chan c).state = true ∨ (s.chan c).state = .fault
  free : ¬ HasFinding (s.chan c) s.sense[c]
  invalid : s.sense[c].valid = false
  third : (s.chan c).invalidCount = 2

/-- The first cause of a sample with a finding (R72). -/
def foundCause (x : SenseIn) : Cause := if overrangeFinding x then .overrange else .overcurrent

/-- The findings below the first cause (R72). -/
def alsoFound (ch : Channel) (x : SenseIn) : Word :=
  causeIf (overrangeFinding x && overcurrentFinding ch.record.trip (phaseCurrent x.aRaw ch.offA)
    (phaseCurrent x.bRaw ch.offB)) .overcurrent ||| causeIf (angleReached x ch) .angleLost

/-- A sample with a finding takes its channel into FAULT (R70, R72). -/
theorem sampleChannel_finding (v : Nat) {c : Chan} {s : State} (found : HasFinding (s.chan c) s.sense[c]) :
    sampleChannel v c s = enterFault c (foundCause s.sense[c]) (alsoFound (s.chan c) s.sense[c])
      (phaseCurrent s.sense[c].aRaw (s.chan c).offA) (phaseCurrent s.sense[c].bRaw (s.chan c).offB) v
      (s.setChan c (sampledChannel s v c)) := by
  obtain ⟨drv, which⟩ := found
  rw [← overrangeFinding_iff, ← overcurrentFinding_iff] at which
  unfold sampleChannel foundCause alsoFound
  cases range : overrangeFinding s.sense[c] with
  | true => simp only [drv, range, Bool.and_self, Bool.true_and, if_true]
  | false =>
    have trip := which.resolve_left (by rw [range]; nofun)
    simp only [drv, range, trip, Bool.and_false, Bool.and_true, Bool.false_eq_true, if_false, if_true]
    rw [show causeIf false .overcurrent = 0#16 from rfl, BitVec.zero_or]

/-- A sample without a finding takes its channel to its new context, and may make an ANGLE_LOST due. -/
theorem sampleChannel_free (v : Nat) {c : Chan} {s : State} (free : ¬ HasFinding (s.chan c) s.sense[c]) :
    (LosesAngle s c → sampleChannel v c s = markAngle c (s.setChan c (sampledChannel s v c))) ∧
      (¬ LosesAngle s c → sampleChannel v c s = s.setChan c (sampledChannel s v c)) := by
  have no : ¬ (drives (s.chan c).state && overrangeFinding s.sense[c]) = true ∧
      ¬ (drives (s.chan c).state && overcurrentFinding (s.chan c).record.trip
        (phaseCurrent s.sense[c].aRaw (s.chan c).offA) (phaseCurrent s.sense[c].bRaw (s.chan c).offB)) = true := by
    rw [Bool.and_eq_true, Bool.and_eq_true, overrangeFinding_iff, overcurrentFinding_iff]
    exact ⟨fun h => free ⟨h.1, .inl h.2⟩, fun h => free ⟨h.1, .inr h.2⟩⟩
  have due : ((drives (s.chan c).state || (s.chan c).state == .fault) && angleReached s.sense[c] (s.chan c)) = true ↔
      LosesAngle s c := by
    rw [Bool.and_eq_true, Bool.or_eq_true, beq_iff_eq, angleReached_iff]
    exact ⟨fun ⟨state, invalid, third⟩ => ⟨state, free, invalid, third⟩, fun h => ⟨h.state, h.invalid, h.third⟩⟩
  unfold sampleChannel
  dsimp only
  rw [if_neg no.1, if_neg no.2]
  exact ⟨fun loses => if_pos (due.2 loses), fun keeps => if_neg (mt due.1 keeps)⟩

theorem sampleChannel_free_view (v : Nat) {c : Chan} {s : State} (free : ¬ HasFinding (s.chan c) s.sense[c]) :
    (∀ d, (sampleChannel v c s).chan d = (s.setChan c (sampledChannel s v c)).chan d) ∧
      (∀ d, (sampleChannel v c s).gate d = s.gate d) ∧ (sampleChannel v c s).trace = s.trace := by
  obtain ⟨loses, keeps⟩ := sampleChannel_free v free
  by_cases h : LosesAngle s c
  · rw [loses h]; exact ⟨fun _ => rfl, fun _ => rfl, rfl⟩
  · rw [keeps h]; exact ⟨fun _ => rfl, fun _ => rfl, rfl⟩

/-- What is found in a later state of a sample event would have been found before. -/
theorem walk_findings {a b : Channel × Gate} (chain : ReflTransGen WalkTurn a b) {x : SenseIn}
    (found : HasFinding b.1 x) : HasFinding a.1 x := by
  have kept : (drives b.1.state = true → drives a.1.state = true) ∧ b.1.offA = a.1.offA ∧ b.1.offB = a.1.offB ∧
      b.1.record = a.1.record := by
    refine keeps_of_chain (p := fun y : Channel × Gate => (drives y.1.state = true → drives a.1.state = true) ∧
      y.1.offA = a.1.offA ∧ y.1.offB = a.1.offB ∧ y.1.record = a.1.record) (fun turn h => ?_) chain
      ⟨id, rfl, rfl, rfl⟩
    obtain ⟨drv, offA, offB, record⟩ := h
    cases turn with
    | sampled e x ch g =>
      have state := sampled_state e x ch
      have before := beforeReferences_state x ch
      rw [beforeReferences_frame] at state ⊢
      exact ⟨fun h => drv (by rw [state] at h; exact h), offA, offB, record⟩
    | faulted => exact ⟨nofun, offA, offB, record⟩
    | later | pended => exact ⟨drv, offA, offB, record⟩
    | ramped r q ch g rOH => exact ⟨fun _ => drv (drives_of_runOrHold rOH), offA, offB, record⟩
  obtain ⟨drv, offA, offB, record⟩ := kept
  obtain ⟨now, which⟩ := found
  refine ⟨drv now, ?_⟩
  unfold IsOvercurrent at which ⊢
  rw [offA, offB, record] at which
  exact which

theorem walkTurned_findings {s t : State} (w : WalkTurned s t) {d : Chan}
    (found : HasFinding (t.chan d) t.sense[d]) : HasFinding (s.chan d) s.sense[d] := by
  have sense := w.keeps.sense
  have found := walk_findings (w.turns d) found
  simp only [sense] at found
  exact found

/-! ## Items of other channels -/

theorem Reaction.keeps {a b : Channel × Gate} (r : Reaction a b) :
    b.2 = a.2 ∧ b.1 = { a.1 with
      state := b.1.state, rampD := b.1.rampD, rampQ := b.1.rampQ, rampComplete := b.1.rampComplete
      pendRefLoss := b.1.pendRefLoss, pendPartner := b.1.pendPartner, fault := b.1.fault } := by
  cases r <;> exact ⟨rfl, rfl⟩

/-- Reactions leave everything of a channel but its state, its ramp, its pending causes and its fault record. -/
theorem reactions_keep {a b : Channel × Gate} (chain : ReflTransGen Reaction a b) :
    b.2 = a.2 ∧ b.1 = { a.1 with
      state := b.1.state, rampD := b.1.rampD, rampQ := b.1.rampQ, rampComplete := b.1.rampComplete
      pendRefLoss := b.1.pendRefLoss, pendPartner := b.1.pendPartner, fault := b.1.fault } := by
  induction chain with
  | refl => exact ⟨rfl, rfl⟩
  | tail _ r ih =>
    obtain ⟨gate, chan⟩ := r.keeps
    obtain ⟨gate', chan'⟩ := ih
    exact ⟨gate.trans gate', by rw [chan, chan']⟩

theorem sampleChannel_other_reactions (v : Nat) {c d : Chan} {s : State} (other : d ≠ c) :
    ReflTransGen Reaction (s.chan d, s.gate d) ((sampleChannel v c s).chan d, (sampleChannel v c s).gate d) := by
  have taken : (s.setChan c (sampledChannel s v c)).chan d = s.chan d := State.setChan_chan_other s _ other
  by_cases found : HasFinding (s.chan c) s.sense[c]
  · rw [sampleChannel_finding v found]
    generalize foundCause s.sense[c] = k
    generalize alsoFound (s.chan c) s.sense[c] = m
    generalize phaseCurrent s.sense[c].aRaw (s.chan c).offA = ia
    generalize phaseCurrent s.sense[c].bRaw (s.chan c).offB = ib
    have chan : (enterFaultAlone c k m ia ib v (s.setChan c (sampledChannel s v c))).chan d = s.chan d :=
      (enterFaultAlone_chan_other _ other ..).trans taken
    have gate : (enterFaultAlone c k m ia ib v (s.setChan c (sampledChannel s v c))).gate d = s.gate d :=
      enterFaultAlone_gate_other _ other ..
    unfold enterFault tellPartner
    split
    · have told := partnerReact_reactions (partnerOf c) (enterFaultAlone c k m ia ib v (s.setChan c (sampledChannel s v c))) d
      rw [chan, gate] at told
      exact told
    · rw [chan, gate]
  · obtain ⟨chans, gates, -⟩ := sampleChannel_free_view v found
    rw [chans, gates, taken]

/-- The items of a sample event, one after the other. -/
def takeItems (v : Nat) (l : List WalkItem) (s : State) : State := l.foldl (fun s i => takeItem v i s) s

theorem takeItems_append (v : Nat) (l₁ l₂ : List WalkItem) (s : State) :
    takeItems v (l₁ ++ l₂) s = takeItems v l₂ (takeItems v l₁ s) := List.foldl_append

theorem takeItems_turned (v : Nat) (l : List WalkItem) (s : State) : WalkTurned s (takeItems v l s) := by
  induction l generalizing s with
  | nil => exact .refl s
  | cons i l ih => exact (takeItem_turned v i s).trans (ih _)

/-- The items of other channels reach a channel by reactions alone. -/
theorem takeItems_reactions (v : Nat) {l : List WalkItem} {c : Chan} (absent : .sample c ∉ l) (s : State) :
    ReflTransGen Reaction (s.chan c, s.gate c) ((takeItems v l s).chan c, (takeItems v l s).gate c) := by
  induction l generalizing s with
  | nil => exact .refl
  | cons i l ih =>
    obtain ⟨ne, absent⟩ := not_or.1 (mt List.mem_cons.2 absent)
    refine ReflTransGen.trans ?_ (ih absent (takeItem v i s))
    cases i with
    | record => exact .refl
    | sample d => exact sampleChannel_other_reactions v fun e => ne (by rw [e])

/-- They do not reach it while its partner is not among them, is not paired with it, or has no finding. -/
theorem takeItems_apart (v : Nat) {l : List WalkItem} {c : Chan} (absent : .sample c ∉ l) {s : State}
    (calm : .sample (partnerOf c) ∈ l → paired s c = true → ¬ HasFinding (s.chan (partnerOf c)) s.sense[partnerOf c]) :
    (takeItems v l s).chan c = s.chan c ∧ (takeItems v l s).gate c = s.gate c := by
  induction l generalizing s with
  | nil => exact ⟨rfl, rfl⟩
  | cons i l ih =>
    obtain ⟨ne, absent⟩ := not_or.1 (mt List.mem_cons.2 absent)
    have turned := takeItem_turned v i s
    have first : (takeItem v i s).chan c = s.chan c ∧ (takeItem v i s).gate c = s.gate c := by
      cases i with
      | record => exact ⟨rfl, rfl⟩
      | sample d =>
        have other : c ≠ d := fun e => ne (by rw [e])
        by_cases free : HasFinding (s.chan d) s.sense[d]
        · refine sampleChannel_apart v other fun isPair e => ?_
          obtain rfl : d = partnerOf c := by rw [e, partnerOf_partnerOf]
          refine calm List.mem_cons_self ?_ free
          rw [← isPair]
          simp only [paired, pairOf_partnerOf]
        · obtain ⟨chans, gates, -⟩ := sampleChannel_free_view v free
          exact ⟨(chans c).trans (State.setChan_chan_other s _ other), gates c⟩
    obtain ⟨chan, gate⟩ := ih absent (s := takeItem v i s) fun mem isPair found =>
      calm (List.mem_cons_of_mem _ mem) ((paired_of_pairs turned.keeps.pairs c).symm.trans isPair)
        (walkTurned_findings turned found)
    exact ⟨chan.trans first.1, gate.trans first.2⟩

/-! ## The order of the items (R72, R113) -/

/-- A channel comes before its partner in the order named. -/
def OwnFirst (o : SampleOrder) (c : Chan) : Prop := c.val % 2 = 1 ↔ o.oddFirst.getLsbD (pairOf c).val = true

/-- The items of one pair position. -/
def pairItems (o : SampleOrder) (p : Fin 4) : List WalkItem :=
  if o.oddFirst.getLsbD p.val then [.sample (oddOf p), .sample (evenOf p)] else [.sample (evenOf p), .sample (oddOf p)]

theorem sample_mem_pairItems {o : SampleOrder} {p : Fin 4} {d : Chan} (h : .sample d ∈ pairItems o p) : pairOf d = p := by
  unfold pairItems at h
  have either : d = oddOf p ∨ d = evenOf p := by
    split at h <;> simpa [or_comm] using h
  rcases either with rfl | rfl
  · exact pairOf_oddOf p
  · exact pairOf_evenOf p

theorem pair_sides (c : Chan) : c.val % 2 = 0 ∧ c = evenOf (pairOf c) ∧ partnerOf c = oddOf (pairOf c) ∨
    c.val % 2 = 1 ∧ c = oddOf (pairOf c) ∧ partnerOf c = evenOf (pairOf c) := by revert c; decide

theorem pairItems_order (o : SampleOrder) (c : Chan) :
    (OwnFirst o c → pairItems o (pairOf c) = [.sample c, .sample (partnerOf c)]) ∧
      (¬ OwnFirst o c → pairItems o (pairOf c) = [.sample (partnerOf c), .sample c]) := by
  unfold OwnFirst pairItems
  rcases pair_sides c with ⟨parity, own, partner⟩ | ⟨parity, own, partner⟩ <;>
    cases o.oddFirst.getLsbD (pairOf c).val <;> simp [parity, ← own, ← partner]

/-- A channel and its partner follow each other, once each, between the items of the other pair positions. -/
theorem walkOf_split (o : SampleOrder) (c : Chan) : ∃ before after,
    walkOf o = before ++ pairItems o (pairOf c) ++ after ∧
      ∀ d, pairOf d = pairOf c → .sample d ∉ before ∧ .sample d ∉ after := by
  obtain ⟨ps, qs, all, notPs, notQs⟩ := allPairs_split (pairOf c)
  have absent {l : List (Fin 4)} (out : pairOf c ∉ l) {d : Chan} (same : pairOf d = pairOf c) :
      .sample d ∉ l.flatMap (pairItems o) := by
    intro mem
    obtain ⟨p, inL, here⟩ := List.mem_flatMap.1 mem
    exact out (by rw [← same, sample_mem_pairItems here]; exact inL)
  have items : walkOf o = if o.recordFirst then .record :: allPairs.flatMap (pairItems o)
      else allPairs.flatMap (pairItems o) ++ [.record] := rfl
  rw [all, List.flatMap_append, List.flatMap_cons] at items
  cases first : o.recordFirst with
  | true =>
    refine ⟨.record :: ps.flatMap (pairItems o), qs.flatMap (pairItems o), ?_, fun d same => ⟨?_, absent notQs same⟩⟩
    · rw [items, first]; simp
    · rw [List.mem_cons, not_or]; exact ⟨nofun, absent notPs same⟩
  | false =>
    refine ⟨ps.flatMap (pairItems o), qs.flatMap (pairItems o) ++ [.record], ?_, fun d same => ⟨absent notPs same, ?_⟩⟩
    · rw [items, first]; simp
    · rw [List.mem_append, not_or]; exact ⟨absent notQs same, by simp⟩

/-- The item of a channel comes once. -/
theorem walkOf_once (o : SampleOrder) (c : Chan) : ∃ before after,
    walkOf o = before ++ .sample c :: after ∧ .sample c ∉ before ∧ .sample c ∉ after := by
  obtain ⟨before, after, items, apart⟩ := walkOf_split o c
  obtain ⟨notBefore, notAfter⟩ := apart c rfl
  have ne : WalkItem.sample c ≠ .sample (partnerOf c) := fun e => partnerOf_ne c (WalkItem.sample.inj e).symm
  obtain ⟨own, second⟩ := pairItems_order o c
  by_cases first : OwnFirst o c
  · rw [own first] at items
    exact ⟨before, .sample (partnerOf c) :: after, by rw [items]; simp, notBefore,
      by rw [List.mem_cons, not_or]; exact ⟨ne, notAfter⟩⟩
  · rw [second first] at items
    exact ⟨before ++ [.sample (partnerOf c)], after, by rw [items]; simp,
      by rw [List.mem_append, List.mem_singleton, not_or]; exact ⟨notBefore, ne⟩, notAfter⟩

theorem once_split {α : Type} {x : α} {l₁ l₂ m₁ m₂ : List α} (same : l₁ ++ x :: l₂ = m₁ ++ x :: m₂) (notL : x ∉ l₁)
    (notL' : x ∉ l₂) : l₁ = m₁ ∧ l₂ = m₂ := by
  rcases List.append_eq_append_iff.1 same with ⟨a, rfl, split⟩ | ⟨a, rfl, split⟩
  · cases a with
    | nil => exact ⟨(List.append_nil _).symm, (List.cons.inj split).2⟩
    | cons y a =>
      obtain ⟨-, rest⟩ := List.cons.inj split
      exact absurd (by rw [rest]; simp) notL'
  · cases a with
    | nil => exact ⟨List.append_nil _, (List.cons.inj split).2.symm⟩
    | cons y a =>
      obtain ⟨e, -⟩ := List.cons.inj split
      exact absurd (by rw [← e]; simp) notL

end Sys2Proof.Machine
end

section
/-! How a sample event ends (R25), and the period starts at which nothing holds it up but an ANGLE_LOST. -/

namespace Sys2Proof.Machine

open Sys2Proof Relation

/-! ## Items do not read the instant's work -/

theorem partnerReact_withMoment (c : Chan) (s : State) (m : Option InstantWork) :
    partnerReact c (s.withMoment m) = (partnerReact c s).withMoment m := by
  have ramped : enterRampdown c false true (s.withMoment m) = (enterRampdown c false true s).withMoment m := by
    unfold enterRampdown
    dsimp only
    by_cases along : (pairedLeader s c &&
        runOrHold ((s.modChan c (toRampdown false true)).chan (partnerOf c)).state) = true
    · refine (if_pos along).trans ?_
      rw [if_pos along]
      rfl
    · refine (if_neg along).trans ?_
      rw [if_neg along]
      rfl
  unfold partnerReact
  rw [State.withMoment_chan]
  cases (s.chan c).state with
  | run | hold => exact ramped
  | rampdown | fault | off | calibrate | ready => rfl

theorem enterFault_withMoment (c : Chan) (k : Cause) (m : Word) (ia ib : Int) (v : Nat) (s : State)
    (w : Option InstantWork) :
    enterFault c k m ia ib v (s.withMoment w) = (enterFault c k m ia ib v s).withMoment w := by
  show tellPartner c ((enterFaultAlone c k m ia ib v s).withMoment w) = _
  unfold enterFault tellPartner
  rw [partnerReact_withMoment]
  exact (apply_ite (State.withMoment · w) _ _ _).symm

/-- The item makes an ANGLE_LOST due. -/
def ItemLoses (s : State) (i : WalkItem) : Prop := ∃ c, i = .sample c ∧ LosesAngle s c

theorem takeItem_withMoment (v : Nat) (i : WalkItem) (s : State) (w : InstantWork) :
    (∀ c, i = .sample c → LosesAngle s c →
      takeItem v i (s.withMoment (some w)) = (takeItem v i s).withMoment (some { w with angleDue := some c })) ∧
    (¬ ItemLoses s i → takeItem v i (s.withMoment (some w)) = (takeItem v i s).withMoment (some w)) := by
  cases i with
  | record => exact ⟨nofun, fun _ => rfl⟩
  | sample c =>
    have same : LosesAngle (s.withMoment (some w)) c ↔ LosesAngle s c :=
      ⟨fun ⟨state, free, invalid, third⟩ => ⟨state, free, invalid, third⟩,
        fun ⟨state, free, invalid, third⟩ => ⟨state, free, invalid, third⟩⟩
    refine ⟨?_, fun keeps => ?_⟩
    · rintro _ ⟨⟩ loses
      show sampleChannel v c (s.withMoment (some w)) = (sampleChannel v c s).withMoment _
      rw [(sampleChannel_free v loses.free).1 loses,
        (sampleChannel_free v (s := s.withMoment (some w)) loses.free).1 (same.2 loses)]
      rfl
    · have keeps : ¬ LosesAngle s c := fun loses => keeps ⟨c, rfl, loses⟩
      show sampleChannel v c (s.withMoment (some w)) = (sampleChannel v c s).withMoment _
      by_cases found : HasFinding (s.chan c) s.sense[c]
      · rw [sampleChannel_finding v found, sampleChannel_finding v (s := s.withMoment (some w)) found,
          ← enterFault_withMoment]
        rfl
      · rw [(sampleChannel_free v found).2 keeps,
          (sampleChannel_free v (s := s.withMoment (some w)) found).2 (mt same.1 keeps)]
        rfl

/-! ## How a sample event ends -/

/-- Nothing holds a sample event up but the work of its instant. -/
structure Unheld (s : State) : Prop where
  bus : s.bus.count ≤ 3
  calibrations : ∀ c, calibrationDue (s.chan c) = false
  armed : armedEntryDue s.trace = false
  segment : segmentDue s.trace = false

/-- No period-start work of the instant is left. -/
structure WorkDone (w : InstantWork) : Prop where
  timeout : w.timeoutDue = false
  validation : w.validationDue = false
  switch : w.switchDue = false

theorem blocked_begun {s : State} {w : InstantWork} (done : WorkDone w) (ends : w.rampEnds = [])
    (moment : s.moment = some w) : blocked s w = true ↔ w.angleDue ≠ none ∨ ¬ Unheld s := by
  have noEnds : ¬ ∃ c, rampEndDue s c = true := by
    rintro ⟨c, due⟩
    obtain ⟨w', moment', ends', -⟩ := rampEndDue_iff.1 due
    rw [moment] at moment'
    cases moment'
    rw [ends] at ends'
    cases ends'
  rw [blocked_iff, done.timeout, done.validation, done.switch]
  constructor
  · rintro (h | h | h | bus | h | angle | ⟨c, due⟩ | armed | segment)
    iterate 3 cases h
    · exact .inr fun free => absurd free.bus (by omega)
    · exact absurd h noEnds
    · exact .inl angle
    · exact .inr fun free => by rw [free.calibrations] at due; cases due
    · exact .inr fun free => by rw [free.armed] at armed; cases armed
    · exact .inr fun free => by rw [free.segment] at segment; cases segment
  · rintro (angle | held)
    · simp [angle]
    · by_contra free
      simp only [not_or, not_exists, Bool.not_eq_true] at free
      obtain ⟨-, -, -, bus, -, -, calibrations, armed, segment⟩ := free
      exact held ⟨by omega, calibrations, armed, segment⟩

/-- How a sample event with the items `l` to come goes from `s` to `t`: it is over, or it is held up after an item, by
an ANGLE_LOST or by something else. -/
inductive SampleEvent (v : Nat) : List WalkItem → State → State → Prop
  | finished (s : State) : SampleEvent v [] s (s.withMoment none)
  | next {i : WalkItem} {l : List WalkItem} {s t : State} (calm : ¬ ItemLoses s i)
      (rest : SampleEvent v l (takeItem v i s) t) : SampleEvent v (i :: l) s t
  | lost {c : Chan} {l : List WalkItem} {s : State} {w : InstantWork} (loses : LosesAngle s c)
      (due : w.angleDue = some c) : SampleEvent v (.sample c :: l) s ((takeItem v (.sample c) s).withMoment (some w))
  | held {i : WalkItem} {l : List WalkItem} {s : State} {w : InstantWork} (held : ¬ Unheld (takeItem v i s)) :
      SampleEvent v (i :: l) s ((takeItem v i s).withMoment (some w))

theorem runWalk_cons (v : Nat) (i : WalkItem) (l : List WalkItem) {s u : State} {w w' : InstantWork}
    (taken : takeItem v i (s.withMoment (some (beginWalk l w))) = u.withMoment (some w')) :
    runWalk v (i :: l) (s.withMoment (some w)) =
      if blocked (u.withMoment (some w')) w' then u.withMoment (some w') else runWalk v l (u.withMoment (some w')) := by
  have step : runWalk v (i :: l) (s.withMoment (some w)) =
      match (takeItem v i (s.withMoment (some (beginWalk l w)))).moment with
      | none => takeItem v i (s.withMoment (some (beginWalk l w)))
      | some w' => if blocked (takeItem v i (s.withMoment (some (beginWalk l w)))) w' then
          takeItem v i (s.withMoment (some (beginWalk l w)))
        else runWalk v l (takeItem v i (s.withMoment (some (beginWalk l w)))) := by
    conv_lhs => unfold runWalk
    rfl
  rw [step, taken]
  rfl

theorem runWalk_event (v : Nat) (l : List WalkItem) (s : State) {w : InstantWork} (done : WorkDone w)
    (none : w.angleDue = .none) : SampleEvent v l s (runWalk v l (s.withMoment (some w))) := by
  induction l generalizing s w with
  | nil => exact .finished s
  | cons i l ih =>
    obtain ⟨lost, kept⟩ := takeItem_withMoment v i s (beginWalk l w)
    have done' : WorkDone (beginWalk l w) := ⟨done.timeout, done.validation, done.switch⟩
    by_cases loses : ItemLoses s i
    · obtain ⟨c, rfl, loses⟩ := loses
      rw [runWalk_cons v _ l (lost c rfl loses), if_pos]
      · exact .lost loses rfl
      · exact (blocked_begun (w := { beginWalk l w with angleDue := some c })
          ⟨done.timeout, done.validation, done.switch⟩ rfl rfl).2 (.inl nofun)
    · rw [runWalk_cons v _ l (kept loses)]
      have blocks := blocked_begun (s := (takeItem v i s).withMoment (some (beginWalk l w))) done' rfl rfl
      split
      · next held =>
        refine .held fun free => ?_
        rcases blocks.1 held with angle | held
        · exact angle none
        · exact held ⟨free.bus, free.calibrations, free.armed, free.segment⟩
      · exact .next loses (ih (takeItem v i s) done' none)

/-- Where nothing else holds it up, a sample event is over with all its items, or stops after the first item that
makes an ANGLE_LOST due. -/
theorem SampleEvent.of_unheld {v : Nat} {l : List WalkItem} {s t : State} (event : SampleEvent v l s t)
    (free : ∀ l₁ l₂, l = l₁ ++ l₂ → Unheld (takeItems v l₁ s)) :
    ((∀ l₁ c l₂, l = l₁ ++ .sample c :: l₂ → ¬ LosesAngle (takeItems v l₁ s) c) ∧
      t = (takeItems v l s).withMoment none) ∨
    ∃ l₁ c l₂ w, l = l₁ ++ .sample c :: l₂ ∧ LosesAngle (takeItems v l₁ s) c ∧ w.angleDue = some c ∧
      t = (takeItems v (l₁ ++ [.sample c]) s).withMoment (some w) := by
  induction event with
  | finished s => exact .inl ⟨fun l₁ c l₂ e => by simp at e, rfl⟩
  | held stuck => exact absurd (free [_] _ rfl) stuck
  | lost loses due => exact .inr ⟨[], _, _, _, rfl, loses, due, rfl⟩
  | @next i l s t calm _ ih =>
    rcases ih fun l₁ l₂ e => free (i :: l₁) l₂ (by rw [e]; rfl) with ⟨rest, result⟩ | ⟨l₁, c, l₂, w, split, rest⟩
    · refine .inl ⟨fun l₁ c l₂ e => ?_, result⟩
      cases l₁ with
      | nil => exact fun loses => calm ⟨c, (List.cons.inj e).1, loses⟩
      | cons j l₁ =>
        obtain ⟨head, tail⟩ := List.cons.inj e
        subst head
        exact rest l₁ c l₂ tail
    · exact .inr ⟨i :: l₁, c, l₂, w, by rw [split]; rfl, rest⟩

/-! ## Calm period starts -/

/-- The state `u` in which the sample event of a period start from `s` begins, with the values `x` presented. -/
structure Started (x : SampleInputs) (s u : State) : Prop where
  chan : ∀ d, u.chan d = { s.chan d with last := (u.chan d).last, comp := (u.chan d).comp }
  idle : ∀ d, (s.chan d).comp = none → u.chan d = s.chan d
  enable : ∀ d, (u.gate d).enable = (s.gate d).enable
  trace : u.trace = s.trace
  sense : u.sense = x.chans
  station : u.station = s.station
  active : u.active = s.active
  latches : u.latches = s.latches
  pairs : u.pairs = s.pairs
  timer : u.timer = s.timer
  half : u.carrier.h = s.station.carrierH
  minp : u.carrier.minp = s.station.minp
  bus : u.bus.state = s.bus.state
  count : u.bus.count ≤ s.bus.count + 1

theorem classifyBus_kept (a b v : Nat) (m : BusMonitor) :
    (classifyBus a b v m).state = m.state ∧ (classifyBus a b v m).count ≤ m.count + 1 := by
  unfold classifyBus
  dsimp only
  split
  · exact ⟨rfl, Nat.zero_le _⟩
  · split
    · exact ⟨rfl, le_rfl⟩
    · exact ⟨rfl, Nat.le_add_left 1 _⟩

theorem periodWork_started (x : SampleInputs) (o : SampleOrder) (s : State) :
    Started x s (periodWork x o (completeAll s)) := by
  have completed := completeAll_completed s
  generalize completeAll s = u at *
  obtain ⟨state, count⟩ := classifyBus_kept u.station.underLim u.station.overLim (unsigned x.vbus) u.bus
  refine ⟨completed.chan, fun d h => (completed.idle d h).1, fun d => ?_, completed.trace, rfl,
    completed.keeps.station, completed.keeps.active, completed.keeps.latches, completed.keeps.pairs,
    completed.keeps.timer, congrArg StationSettings.carrierH completed.keeps.station,
    congrArg StationSettings.minp completed.keeps.station, ?_, ?_⟩
  · rw [periodWork_gate, gateLevels_enable, gateApply_enable, completed.gate d]
  · exact state.trans (congrArg BusMonitor.state completed.keeps.bus)
  · refine count.trans (le_of_eq ?_)
    rw [completed.keeps.bus]

theorem countPeriod_idle {b : BankCommit} (h : b.state ≠ .validating) : countPeriod b = b := if_neg h

theorem countIdle_closed {u : ServiceUnit} (h : u.stream = none) : countIdle u = u := by unfold countIdle; rw [h]

/-- The work of the instant that a period start opens. -/
theorem periodWork_moment (x : SampleInputs) (o : SampleOrder) (s : State) : ∃ w,
    (periodWork x o s).moment = some w ∧ w.vbus = x.vbus.toNat ∧ w.walk = walkOf o ∧ w.angleDue = none ∧
      (s.service.stream = none → w.timeoutDue = false) ∧
      (s.commit.state ≠ .validating → w.validationDue = false) ∧
      (s.commit.state ≠ .switchPending → w.switchDue = false) := by
  refine ⟨_, rfl, rfl, rfl, rfl, fun closed => ?_, fun idle => ?_, fun idle => ?_⟩
  · show ((countIdle s.service).stream.isSome && _) = false
    rw [countIdle_closed closed, closed]
    rfl
  · show ((countPeriod s.commit).state == .validating && _) = false
    rw [countPeriod_idle idle, beq_eq_false_iff_ne.2 idle]
    rfl
  · exact beq_eq_false_iff_ne.2 idle

/-- Nothing holds up the sample event of a calm period start. -/
theorem calm_unblocked {x : SampleInputs} {s u : State} {w : InstantWork} (calm : CalmStart s) (started : Started x s u)
    (armed : armedEntryDue s.trace = false) (segment : segmentDue s.trace = false) (done : WorkDone w)
    (none : w.angleDue = .none) : blocked u w = false := by
  rw [← Bool.not_eq_true, blocked_iff, done.timeout, done.validation, done.switch, none, started.trace, armed, segment]
  rintro (h | h | h | bus | ⟨c, due⟩ | h | ⟨c, due⟩ | h | h)
  iterate 3 cases h
  · have := started.count
    have := calm.bus
    omega
  · obtain ⟨-, -, -, ramp, complete⟩ := rampEndDue_iff.1 due
    rw [started.chan c] at ramp complete
    have short := calm.ramps c ramp
    have complete : (s.chan c).rampComplete = true := complete
    rw [short] at complete
    cases complete
  · exact h rfl
  · obtain ⟨state, full⟩ := (calibrationDue_iff _).1 due
    rw [started.chan c] at state full
    have short := calm.calibrations c state
    have full : (s.chan c).calCount = 64 := full
    omega
  · cases h
  · cases h

/-- At a calm period start the sample event begins at once. -/
theorem calmStart_event {s : State} (calm : CalmStart s) (armed : armedEntryDue s.trace = false)
    (segment : segmentDue s.trace = false) (x : SampleInputs) (o : SampleOrder) :
    ∃ t u, exec (.periodStart x o) s = .next t ∧ Started x s u ∧ SampleEvent x.vbus.toNat (walkOf o) u t := by
  have started := periodWork_started x o s
  have kept := (completeAll_completed s).keeps
  have result := exec_periodStart calm.released calm.settled x o
  obtain ⟨w, moment, vbus, walk, angle, timeout, validation, switch⟩ := periodWork_moment x o (completeAll s)
  rw [kept.service] at timeout
  rw [kept.commit] at validation switch
  generalize periodWork x o (completeAll s) = u at *
  have done : WorkDone w := ⟨timeout calm.stream, validation calm.commit.1, switch calm.commit.2⟩
  refine ⟨_, u, result, started, ?_⟩
  rw [resume_runs moment (calm_unblocked calm started armed segment done angle), vbus, walk]
  have event := runWalk_event x.vbus.toNat (walkOf o) u done angle
  rw [← moment] at event
  exact event

/-! ## Sample events that nothing else holds up -/

theorem calCount_faultFree : FaultFree Channel.calCount := by constructor <;> intros <;> rfl

theorem sampledChannel_calCount (s : State) (v : Nat) (c : Chan) :
    (sampledChannel s v c).calCount ≤ (s.chan c).calCount + 1 := by
  have ramped (ch : Channel) : (rampStep ch).calCount = ch.calCount := by unfold rampStep; split <;> rfl
  have turned (x : SenseIn) (ch : Channel) : (angleStep x ch).calCount = ch.calCount := by unfold angleStep; split <;> rfl
  show (beforeReferences s.sense[c] (s.chan c)).calCount ≤ _
  unfold beforeReferences
  rw [ramped, turned]
  unfold accumulate
  split
  · exact le_rfl
  · exact Nat.le_succ _

/-- A channel takes at most one calibration sample for each of its items. -/
theorem takeItems_calCount (v : Nat) (l : List WalkItem) (s : State) (d : Chan) :
    ((takeItems v l s).chan d).calCount ≤ (s.chan d).calCount + l.count (.sample d) := by
  induction l generalizing s with
  | nil => exact le_rfl
  | cons i l ih =>
    refine (ih (takeItem v i s)).trans ?_
    cases i with
    | record => exact Nat.add_le_add_left List.count_le_count_cons _
    | sample c =>
      rw [show ((takeItem v (.sample c) s).chan d).calCount = _ from calCount_faultFree.sampleChannel v c s d]
      by_cases e : d = c
      · subst e
        rw [State.setChan_chan_same, List.count_cons_self]
        have := sampledChannel_calCount s v d
        omega
      · rw [State.setChan_chan_other s _ e]
        exact Nat.add_le_add_left List.count_le_count_cons _

theorem walk_calibrate {a b : Channel × Gate} (chain : ReflTransGen WalkTurn a b) (h : b.1.state = .calibrate) :
    a.1.state = .calibrate := by
  refine keeps_of_chain (p := fun y : Channel × Gate => y.1.state = .calibrate → a.1.state = .calibrate)
    (fun turn before => ?_) chain id h
  cases turn with
  | sampled e x ch g => rw [sampled_state]; exact before
  | faulted | ramped => exact nofun
  | later | pended => exact before

/-- No capture runs but one that waits in ARMED for a manual trigger. -/
def Waits (u : TraceUnit) : Prop := u.capture = .idle ∨ (u.capture = .armed ∧ u.armedCfg.source = 0)

theorem Waits.nothing_due {u : TraceUnit} (h : Waits u) : armedEntryDue u = false ∧ segmentDue u = false := by
  rcases h with capture | ⟨capture, -⟩ <;> simp [armedEntryDue, segmentDue, capture]

theorem traceTurn_waits {a b : TraceUnit} (turn : TraceTurn a b) (h : Waits a) : Waits b := by
  cases turn with
  | fault c u =>
    rcases h with capture | ⟨capture, source⟩
    · unfold faultTrigger
      split
      · rw [takeTrigger_unarmed (by rw [capture]; nofun)]; exact .inl capture
      · exact .inl capture
    · unfold faultTrigger
      rw [if_neg (by rw [source]; simp)]
      exact .inr ⟨capture, source⟩
  | sample last u =>
    rcases h with capture | ⟨capture, source⟩
    · unfold traceSample; rw [capture]; exact .inl capture
    · have quiet (r : TraceRec) : levelCrossing a r = false := by simp [levelCrossing, source]
      unfold traceSample
      rw [capture]
      simp only [capturing, if_true, recordNow, quiet, Bool.false_eq_true, if_false]
      split
      · exact .inr ⟨capture, source⟩
      · exact .inr ⟨rfl, source⟩
  | armed u => unfold enterArmed; rw [h.nothing_due.1]; exact h
  | complete u => unfold completeSegment; rw [h.nothing_due.2]; exact h

theorem waits_of_chain {a b : TraceUnit} (chain : ReflTransGen TraceTurn a b) (h : Waits a) : Waits b :=
  keeps_of_chain (p := Waits) traceTurn_waits chain h

theorem count_walkOf_start {o : SampleOrder} {l₁ l₂ : List WalkItem} (split : walkOf o = l₁ ++ l₂) (c : Chan) :
    l₁.count (.sample c) ≤ 1 := by
  obtain ⟨before, after, items, notBefore, notAfter⟩ := walkOf_once o c
  have once : (walkOf o).count (.sample c) = 1 := by
    rw [items, List.count_append, List.count_cons_self, List.count_eq_zero_of_not_mem notBefore,
      List.count_eq_zero_of_not_mem notAfter]
  rw [split, List.count_append] at once
  omega

/-- At a calm period start nothing but an ANGLE_LOST holds the sample event up, as far as the Trace Unit waits. -/
theorem unheld_of_calm {x : SampleInputs} {o : SampleOrder} {s u : State} (calm : CalmStart s) (started : Started x s u)
    {v : Nat} {l₁ l₂ : List WalkItem} (split : walkOf o = l₁ ++ l₂)
    (armed : armedEntryDue (takeItems v l₁ u).trace = false) (segment : segmentDue (takeItems v l₁ u).trace = false) :
    Unheld (takeItems v l₁ u) := by
  have turned := takeItems_turned v l₁ u
  refine ⟨?_, fun c => ?_, armed, segment⟩
  · rw [turned.keeps.bus]
    exact started.count.trans (Nat.add_le_add_right calm.bus 1)
  · rw [← Bool.not_eq_true, calibrationDue_iff]
    rintro ⟨state, full⟩
    have before := walk_calibrate (turned.turns c) state
    have count := takeItems_calCount v l₁ u c
    have once := count_walkOf_start split c
    rw [started.chan c] at before
    have same : (u.chan c).calCount = (s.chan c).calCount := by rw [started.chan c]
    have short := calm.calibrations c before
    omega

/-- A calm period start with every angle word valid and no capture that runs: the whole sample event takes place. -/
theorem quietStart_event {x : SampleInputs} {s : State} (quiet : QuietStart s x) (o : SampleOrder) :
    ∃ u, exec (.periodStart x o) s = .next ((takeItems x.vbus.toNat (walkOf o) u).withMoment none) ∧ Started x s u := by
  have waits : Waits s.trace := quiet.capture
  obtain ⟨t, u, result, started, event⟩ := calmStart_event quiet.toCalmStart waits.nothing_due.1 waits.nothing_due.2 x o
  have free (l₁ l₂ : List WalkItem) (split : walkOf o = l₁ ++ l₂) : Unheld (takeItems x.vbus.toNat l₁ u) := by
    have after := waits_of_chain (takeItems_turned x.vbus.toNat l₁ u).trace (by rw [started.trace]; exact waits)
    exact unheld_of_calm quiet.toCalmStart started split after.nothing_due.1 after.nothing_due.2
  refine ⟨u, ?_, started⟩
  rcases event.of_unheld free with ⟨-, rfl⟩ | ⟨l₁, c, -, -, -, loses, -⟩
  · exact result
  · have invalid := loses.invalid
    simp only [(takeItems_turned x.vbus.toNat l₁ u).keeps.sense, started.sense, quiet.angles c] at invalid
    cases invalid

end Sys2Proof.Machine
end

section
/-! What the sample of one channel gives (R28 to R37), and the statements about channels at rest (R3) and lost angles
(R34, R71). -/

namespace Sys2Proof.Machine

open Sys2Proof Relation

/-! ## The sample of one channel -/

theorem accumulate_frame (x : SenseIn) (ch : Channel) : accumulate x ch = { ch with
    sumA := (accumulate x ch).sumA, sumB := (accumulate x ch).sumB, calCount := (accumulate x ch).calCount } := by
  unfold accumulate; split <;> rfl

theorem angleStep_frame (x : SenseIn) (ch : Channel) : angleStep x ch = { ch with
    speed := (angleStep x ch).speed, prevAngle := (angleStep x ch).prevAngle
    invalidCount := (angleStep x ch).invalidCount } := by
  unfold angleStep; split <;> rfl

theorem rampStep_frame (ch : Channel) : rampStep ch = { ch with
    rampD := (rampStep ch).rampD, rampQ := (rampStep ch).rampQ, rampComplete := (rampStep ch).rampComplete } := by
  unfold rampStep; split <;> rfl

/-- Angle and speed at a valid angle word (R32, R33). -/
theorem beforeReferences_valid {x : SenseIn} {ch : Channel} (valid : x.valid = true) :
    (beforeReferences x ch).prevAngle = (x.angle.toNat * ch.record.pp + ch.record.angOffs) % 65536 ∧
      (beforeReferences x ch).invalidCount = 0 ∧
      (beforeReferences x ch).speed = ch.speed + rshift ch.record.spdFilt
        (sat (angleDiff (beforeReferences x ch).prevAngle ch.prevAngle) - ch.speed) := by
  unfold beforeReferences
  rw [rampStep_frame, accumulate_frame]
  unfold angleStep
  rw [if_pos valid]
  exact ⟨rfl, rfl, rfl⟩

/-- Angle and speed at an invalid angle word (R34). -/
theorem beforeReferences_invalid {x : SenseIn} {ch : Channel} (invalid : x.valid = false) :
    ((beforeReferences x ch).prevAngle : Int) = (ch.prevAngle + ch.speed) % 65536 ∧
      (beforeReferences x ch).invalidCount = bump ch.invalidCount ∧ (beforeReferences x ch).speed = ch.speed := by
  unfold beforeReferences
  rw [rampStep_frame, accumulate_frame]
  unfold angleStep
  rw [if_neg (by rw [invalid]; nofun)]
  exact ⟨Int.toNat_of_nonneg (Int.emod_nonneg _ (by decide)), rfl, rfl⟩

/-- The sums of a calibration (R30). -/
theorem beforeReferences_sums (x : SenseIn) (ch : Channel) :
    (ch.state = .calibrate → (beforeReferences x ch).calCount = ch.calCount + 1 ∧
      (beforeReferences x ch).sumA = ch.sumA + x.aRaw.toInt ∧ (beforeReferences x ch).sumB = ch.sumB + x.bRaw.toInt) ∧
    (ch.state ≠ .calibrate → (beforeReferences x ch).calCount = ch.calCount ∧
      (beforeReferences x ch).sumA = ch.sumA ∧ (beforeReferences x ch).sumB = ch.sumB) := by
  unfold beforeReferences
  rw [rampStep_frame, angleStep_frame]
  unfold accumulate
  constructor <;> intro state
  · rw [if_pos state]
    exact ⟨rfl, rfl, rfl⟩
  · rw [if_neg state]
    exact ⟨rfl, rfl, rfl⟩

theorem towardZero_steps (n : Nat) (y : Int) : StepsToZero n y (towardZero n y) := by
  unfold towardZero
  refine ⟨fun small => if_pos ?_, fun above => ?_, fun below => ?_⟩
  · rw [Int.abs_eq_natAbs] at small; omega
  · rw [if_neg (by omega), if_pos (by omega)]
  · rw [if_neg (by omega), if_neg (by omega)]

/-- The ramp of a sample (R11). -/
theorem beforeReferences_ramp (x : SenseIn) (ch : Channel) :
    (ch.state = .rampdown → StepsToZero ch.record.ramp ch.rampD (beforeReferences x ch).rampD ∧
      StepsToZero ch.record.ramp ch.rampQ (beforeReferences x ch).rampQ ∧
      ((beforeReferences x ch).rampComplete = true ↔
        ch.rampComplete = true ∨ ((beforeReferences x ch).rampD = 0 ∧ (beforeReferences x ch).rampQ = 0))) ∧
    (ch.state ≠ .rampdown → (beforeReferences x ch).rampD = ch.rampD ∧ (beforeReferences x ch).rampQ = ch.rampQ ∧
      (beforeReferences x ch).rampComplete = ch.rampComplete) := by
  unfold beforeReferences
  rw [angleStep_frame, accumulate_frame]
  unfold rampStep
  constructor <;> intro state
  · rw [if_pos state]
    refine ⟨towardZero_steps _ _, towardZero_steps _ _, ?_⟩
    simp
  · rw [if_neg state]
    exact ⟨rfl, rfl, rfl⟩

section

variable {s : State} {v : Nat} {c : Chan}

theorem sampledChannel_valid (valid : s.sense[c].valid = true) :
    (sampledChannel s v c).prevAngle =
        (s.sense[c].angle.toNat * (s.chan c).record.pp + (s.chan c).record.angOffs) % 65536 ∧
      (sampledChannel s v c).invalidCount = 0 ∧
      (sampledChannel s v c).speed = (s.chan c).speed + rshift (s.chan c).record.spdFilt
        (sat (angleDiff (sampledChannel s v c).prevAngle (s.chan c).prevAngle) - (s.chan c).speed) :=
  beforeReferences_valid valid

theorem sampledChannel_invalid (invalid : s.sense[c].valid = false) :
    ((sampledChannel s v c).prevAngle : Int) = ((s.chan c).prevAngle + (s.chan c).speed) % 65536 ∧
      (sampledChannel s v c).invalidCount = bump (s.chan c).invalidCount ∧
      (sampledChannel s v c).speed = (s.chan c).speed :=
  beforeReferences_invalid invalid

theorem sampledChannel_sums :
    ((s.chan c).state = .calibrate → (sampledChannel s v c).calCount = (s.chan c).calCount + 1 ∧
      (sampledChannel s v c).sumA = (s.chan c).sumA + s.sense[c].aRaw.toInt ∧
      (sampledChannel s v c).sumB = (s.chan c).sumB + s.sense[c].bRaw.toInt) ∧
    ((s.chan c).state ≠ .calibrate → (sampledChannel s v c).calCount = (s.chan c).calCount ∧
      (sampledChannel s v c).sumA = (s.chan c).sumA ∧ (sampledChannel s v c).sumB = (s.chan c).sumB) :=
  beforeReferences_sums s.sense[c] (s.chan c)

theorem sampledChannel_ramp :
    ((s.chan c).state = .rampdown →
      StepsToZero (s.chan c).record.ramp (s.chan c).rampD (sampledChannel s v c).rampD ∧
      StepsToZero (s.chan c).record.ramp (s.chan c).rampQ (sampledChannel s v c).rampQ ∧
      ((sampledChannel s v c).rampComplete = true ↔ (s.chan c).rampComplete = true ∨
        ((sampledChannel s v c).rampD = 0 ∧ (sampledChannel s v c).rampQ = 0))) ∧
    ((s.chan c).state ≠ .rampdown → (sampledChannel s v c).rampD = (s.chan c).rampD ∧
      (sampledChannel s v c).rampQ = (s.chan c).rampQ ∧
      (sampledChannel s v c).rampComplete = (s.chan c).rampComplete) :=
  beforeReferences_ramp s.sense[c] (s.chan c)

/-- A sample touches no integrator and no last effective reference of a channel that does not drive (R3, R45). -/
theorem sampledChannel_idle (idle : drives (s.chan c).state = false) :
    (sampledChannel s v c).accD = (s.chan c).accD ∧ (sampledChannel s v c).accQ = (s.chan c).accQ ∧
      (sampledChannel s v c).lastRefD = (s.chan c).lastRefD ∧ (sampledChannel s v c).lastRefQ = (s.chan c).lastRefQ :=
  ((sampled_contextKept (loopEnv s v c (beforeReferences s.sense[c] (s.chan c))) s.sense[c] (s.chan c)).idle idle).2

end

/-- What a computation has measured (R28, R35, R37) and whether it may hand on its compare values (R25). -/
structure Measured (s : State) (v : Nat) (c : Chan) (k : Computation) : Prop where
  state : k.results.state = (s.chan c).state
  ia : k.results.ia = sat (s.sense[c].aRaw.toInt - (s.chan c).offA)
  ib : k.results.ib = sat (s.sense[c].bRaw.toInt - (s.chan c).offB)
  angle : k.results.angle = (sampledChannel s v c).prevAngle
  speed : k.results.speed = (sampledChannel s v c).speed
  vbus : k.results.vbus = v
  rotor : ∃ be, be = sat (rshift 15 ((k.results.ia + 2 * k.results.ib) * 18919)) ∧
    k.results.id = sat (rshift 15 (k.results.ia * cosOf k.results.angle + be * sinOf k.results.angle)) ∧
    k.results.iq = sat (rshift 15 (be * cosOf k.results.angle - k.results.ia * sinOf k.results.angle))
  handOn : k.handOn = (drives (s.chan c).state && !(sampledChannel s v c).rampComplete)

theorem sampledChannel_measured (s : State) (v : Nat) (c : Chan) :
    ∃ k, (sampledChannel s v c).comp = some k ∧ Measured s v c k := by
  have state := beforeReferences_state s.sense[c] (s.chan c)
  refine ⟨_, rfl, ?_⟩
  constructor
  · exact state
  · show sat (s.sense[c].aRaw.toInt - (beforeReferences s.sense[c] (s.chan c)).offA) = _
    rw [beforeReferences_frame]
  · show sat (s.sense[c].bRaw.toInt - (beforeReferences s.sense[c] (s.chan c)).offB) = _
    rw [beforeReferences_frame]
  · rfl
  · rfl
  · rfl
  · exact ⟨_, rfl, rfl, rfl⟩
  · show (drives (beforeReferences s.sense[c] (s.chan c)).state && _) = _
    rw [state]
    rfl

/-- The computation that waits, but for whether it may hand on its compare values. -/
def waitingResults (ch : Channel) : Option LastResults := ch.comp.map Computation.results

theorem waitingResults_faultFree : FaultFree waitingResults where
  fault k m ia ib v n ch := by
    unfold waitingResults toFault
    cases ch.comp <;> rfl
  later _ _ := rfl
  ramp _ _ _ := rfl
  pend _ := rfl

theorem waitingResults_eq_some {ch : Channel} {r : LastResults} (h : waitingResults ch = some r) :
    ∃ k, ch.comp = some k ∧ k.results = r := Option.map_eq_some_iff.1 h

/-- The items of other channels keep a field that no fault changes. -/
theorem FaultFree.takeItems {α : Type} {π : Channel → α} (free : FaultFree π) (v : Nat) {l : List WalkItem} {c : Chan}
    (absent : .sample c ∉ l) (s : State) : π ((takeItems v l s).chan c) = π (s.chan c) :=
  keeps_of_chain (p := fun y : Channel × Gate => π y.1 = π (s.chan c))
    (fun r h => by
      cases r with
      | ramped => exact (free.ramp ..).trans h
      | pended => exact (free.pend _).trans h
      | later => exact (free.later ..).trans h)
    (takeItems_reactions v absent s) rfl

/-! ## A channel as its sample reaches it -/

/-- What of a channel's context no reaction changes, and no completion of a computation. -/
structure ContextSame (a b : Channel) : Prop where
  offA : b.offA = a.offA
  offB : b.offB = a.offB
  calCount : b.calCount = a.calCount
  sumA : b.sumA = a.sumA
  sumB : b.sumB = a.sumB
  accD : b.accD = a.accD
  accQ : b.accQ = a.accQ
  lastRefD : b.lastRefD = a.lastRefD
  lastRefQ : b.lastRefQ = a.lastRefQ
  band : b.band = a.band
  speed : b.speed = a.speed
  prevAngle : b.prevAngle = a.prevAngle
  invalidCount : b.invalidCount = a.invalidCount
  i2t : b.i2t = a.i2t
  foldback : b.foldback = a.foldback
  record : b.record = a.record

theorem reactions_context {a b : Channel × Gate} (chain : ReflTransGen Reaction a b) :
    ContextSame a.1 b.1 ∧ b.1.comp = a.1.comp ∧ b.2 = a.2 := by
  obtain ⟨gate, chan⟩ := reactions_keep chain
  rw [chan]
  exact ⟨by constructor <;> rfl, rfl, gate⟩

theorem ContextSame.isOvercurrent {a b : Channel} (h : ContextSame a b) (x : SenseIn) :
    IsOvercurrent b x ↔ IsOvercurrent a x := by
  unfold IsOvercurrent
  rw [h.offA, h.offB, h.record]

/-- The state `u` in which the sample of channel `c` is taken at a period start from `s`. -/
structure AtSample (x : SampleInputs) (s u : State) (c : Chan) : Prop where
  sense : u.sense[c] = x.chans[c]
  station : u.station = s.station
  active : u.active = s.active
  latches : u.latches = s.latches
  pairs : u.pairs = s.pairs
  timer : u.timer = s.timer
  half : u.carrier.h = s.station.carrierH
  minp : u.carrier.minp = s.station.minp
  bus : u.bus.state = s.bus.state
  context : ContextSame (s.chan c) (u.chan c)
  drives : drives (s.chan c).state = true → drives (u.chan c).state = true
  fault : (s.chan c).state = .fault → (u.chan c).state = .fault
  rest : Resting (s.chan c).state → (u.chan c).state = (s.chan c).state
  findings : HasFinding (u.chan c) u.sense[c] → HasFinding (s.chan c) x.chans[c]

theorem atSample {x : SampleInputs} {s u : State} (started : Started x s u) (v : Nat) {l : List WalkItem} {c : Chan}
    (absent : .sample c ∉ l) : AtSample x s (takeItems v l u) c := by
  have turned := takeItems_turned v l u
  have told := takeItems_reactions v absent u
  have waits := awaits_of_reactions (.refl (u.chan c, u.gate c)) told
  obtain ⟨kept, -, -⟩ := reactions_context told
  have chan := started.chan c
  have state : (u.chan c).state = (s.chan c).state := by rw [chan]
  have sense : (takeItems v l u).sense[c] = x.chans[c] := by simp only [turned.keeps.sense, started.sense]
  refine ⟨sense, turned.keeps.station.trans started.station, turned.keeps.active.trans started.active,
    turned.keeps.latches.trans started.latches, turned.keeps.pairs.trans started.pairs,
    turned.keeps.timer.trans started.timer, by rw [turned.keeps.carrier, started.half],
    by rw [turned.keeps.carrier, started.minp], by rw [turned.keeps.bus, started.bus], ?_, fun h => (waits.driven (by rw [state]; exact h)).1, fun h => (waits.faulted (state.trans h)).state,
    fun h => ?_, fun found => ?_⟩
  · rw [chan] at kept
    obtain ⟨⟩ := kept
    constructor <;> assumption
  · have same := waits.rested (by rw [state]; exact h)
    exact (congrArg (fun y : Channel × Gate => y.1.state) same).trans state
  · obtain ⟨drv, which⟩ := walk_findings (turned.turns c) found
    rw [sense, chan] at which
    exact ⟨by rw [← state]; exact drv, which⟩

/-- A partner without a finding before the sample event has none within it. -/
theorem Started.partner_free {x : SampleInputs} {s u u' : State} {c : Chan} (started : Started x s u)
    (turned : WalkTurned u u')
    (calm : paired s c = true → ¬ HasFinding (s.chan (partnerOf c)) x.chans[partnerOf c]) (isPair : paired u' c = true) :
    ¬ HasFinding (u'.chan (partnerOf c)) u'.sense[partnerOf c] := fun found => by
  have found := walkTurned_findings turned found
  simp only [started.sense] at found
  rw [started.chan] at found
  rw [paired_of_pairs (turned.keeps.pairs.trans started.pairs)] at isPair
  exact calm isPair found

/-- A quiet period start in a channel without a finding: the sample gives the channel its new context, and its
partner's FAULT entry reaches it by reactions, before the sample or after it. -/
theorem quiet_free {x : SampleInputs} {s : State} {c : Chan} (quiet : QuietStart s x) (o : SampleOrder)
    (free : ¬ HasFinding (s.chan c) x.chans[c]) : ∃ t u, exec (.periodStart x o) s = .next t ∧ AtSample x s u c ∧
      ReflTransGen Reaction (sampledChannel u x.vbus.toNat c, u.gate c) (t.chan c, t.gate c) ∧
      ((paired s c = true → ¬ HasFinding (s.chan (partnerOf c)) x.chans[partnerOf c]) →
        u.chan c = { s.chan c with last := (u.chan c).last, comp := (u.chan c).comp } ∧
          t.chan c = sampledChannel u x.vbus.toNat c) := by
  obtain ⟨w, result, started⟩ := quietStart_event quiet o
  obtain ⟨before, after, items, notBefore, notAfter⟩ := walkOf_once o c
  have here := atSample started x.vbus.toNat notBefore
  have free : ¬ HasFinding ((takeItems x.vbus.toNat before w).chan c) (takeItems x.vbus.toNat before w).sense[c] :=
    mt here.findings free
  obtain ⟨chans, gates, -⟩ := sampleChannel_free_view x.vbus.toNat free
  have own := (chans c).trans (State.setChan_chan_same ..)
  have told := takeItems_reactions x.vbus.toNat notAfter (sampleChannel x.vbus.toNat c (takeItems x.vbus.toNat before w))
  rw [own, gates c] at told
  rw [items, takeItems_append] at result
  refine ⟨_, _, result, here, told, fun calm => ?_⟩
  refine ⟨?_, ?_⟩
  · rw [(takeItems_apart x.vbus.toNat notBefore fun _ isPair => started.partner_free (.refl w) calm isPair).1]
    exact started.chan c
  · have turned := (takeItems_turned x.vbus.toNat before w).trans (sampleChannel_turned x.vbus.toNat c _)
    exact ((takeItems_apart x.vbus.toNat notAfter fun _ isPair => started.partner_free turned calm isPair).1).trans own

/-! ## Channels at rest (R3) -/

/-- Settles O10: a channel at rest has no finding, so that its sample gives its new context, and the reactions that may
reach it before and after add to a fault record alone. -/
theorem restingChannelSamples : Obligations.RestingChannelSamples := by
  unfold Obligations.RestingChannelSamples
  intro x o s c quiet idle
  obtain ⟨f, u, result, here, told, -⟩ := quiet_free quiet o (c := c) fun found => by
    have drv := found.1
    rw [idle] at drv
    cases drv
  have before : (u.chan c).state = (s.chan c).state := by
    rcases state_cases (s.chan c).state with drv | fault | rest
    · rw [idle] at drv; cases drv
    · exact (here.fault fault).trans fault.symm
    · exact here.rest rest
  have sampled : (sampledChannel u x.vbus.toNat c).state = (s.chan c).state :=
    (sampledChannel_state u x.vbus.toNat c).trans before
  have waits := awaits_of_reactions (.refl _) told
  have state : (f.chan c).state = (s.chan c).state := by
    rcases state_cases (s.chan c).state with drv | fault | rest
    · rw [idle] at drv; cases drv
    · exact (waits.faulted (sampled.trans fault)).state.trans fault.symm
    · have same := waits.rested (show Resting (sampledChannel u x.vbus.toNat c).state by rw [sampled]; exact rest)
      exact (congrArg (fun y : Channel × Gate => y.1.state) same).trans sampled
  obtain ⟨after, comp', -⟩ := reactions_context told
  obtain ⟨k, comp, measured⟩ := sampledChannel_measured u x.vbus.toNat c
  obtain ⟨accD, accQ, refD, refQ⟩ :=
    sampledChannel_idle (v := x.vbus.toNat) (show drives (u.chan c).state = false by rw [before]; exact idle)
  obtain ⟨angle, count, speed⟩ := sampledChannel_valid (v := x.vbus.toNat)
    (show u.sense[c].valid = true by rw [here.sense]; exact quiet.angles c)
  obtain ⟨summed, unsummed⟩ := sampledChannel_sums (s := u) (v := x.vbus.toNat) (c := c)
  have same := here.context
  rw [before] at summed unsummed
  rw [here.sense, same.record] at angle
  rw [same.record, same.speed, same.prevAngle] at speed
  rw [here.sense, same.calCount, same.sumA, same.sumB] at summed
  rw [same.calCount, same.sumA, same.sumB] at unsummed
  refine ⟨f, k, result, comp'.trans comp, ?_, state, after.accD.trans (accD.trans same.accD),
    after.accQ.trans (accQ.trans same.accQ), after.lastRefD.trans (refD.trans same.lastRefD),
    after.lastRefQ.trans (refQ.trans same.lastRefQ), measured.state.trans before, ?_, ?_, after.prevAngle.trans angle,
    measured.angle.trans after.prevAngle.symm, after.invalidCount.trans count, ?_, measured.speed.trans after.speed.symm,
    measured.vbus, measured.rotor, fun state => ?_, fun state => ?_⟩
  · rw [measured.handOn, before, idle]; rfl
  · rw [measured.ia, here.sense, same.offA]
  · rw [measured.ib, here.sense, same.offB]
  · rw [after.speed, after.prevAngle]; exact speed
  · rw [after.calCount, after.sumA, after.sumB]; exact summed state
  · rw [after.calCount, after.sumA, after.sumB]; exact unsummed state

end Sys2Proof.Machine
end

section
/-! Invalid angle words and ANGLE_LOST (R16, R34, R71, R82). -/

namespace Sys2Proof.Machine

open Sys2Proof Relation

/-! ## ANGLE_LOST -/

theorem exec_angleLost {s : State} {c : Chan} {w : InstantWork} (open_ : s.moment = some w)
    (due : w.angleDue = some c) :
    exec (.angleLost c) s = .next (resume (detectAngle c (s.withMoment (some { w with angleDue := none })))) := by
  have unfolded : exec (.angleLost c) s = .next (whenDue (angleDueFor s c) takeAngle s) := rfl
  have isDue : angleDueFor s c = true := by unfold angleDueFor; rw [open_]; simp [due]
  have taken : takeAngle s = detectAngle c (s.withMoment (some { w with angleDue := none })) := by
    unfold takeAngle; rw [open_]; dsimp only; rw [due]
  rw [unfolded, whenDue_of_due isDue, taken]

/-- ANGLE_LOST is taken by the state of the channel (R71, R82). -/
theorem detectAngle_cases (c : Chan) (s : State) :
    (drives (s.chan c).state = true → ∃ ia ib v, detectAngle c s = enterFault c .angleLost 0 ia ib v s) ∧
      ((s.chan c).state = .fault → detectAngle c s = s.modChan c (laterFault .angleLost)) ∧
      (Resting (s.chan c).state → detectAngle c s = s) := by
  unfold detectAngle
  dsimp only
  cases (s.chan c).state with
  | run | hold | rampdown => exact ⟨fun _ => ⟨_, _, _, rfl⟩, nofun, fun rest => by simp [Resting] at rest⟩
  | fault => exact ⟨nofun, fun _ => rfl, fun rest => by simp [Resting] at rest⟩
  | off | calibrate | ready => exact ⟨nofun, nofun, fun _ => rfl⟩

theorem detectAngle_moment (c : Chan) (s : State) : (detectAngle c s).moment = s.moment := by
  obtain ⟨driven, faulted, rested⟩ := detectAngle_cases c s
  rcases state_cases (s.chan c).state with drv | fault | rest
  · obtain ⟨ia, ib, v, e⟩ := driven drv
    rw [e, enterFault_moment]
  · rw [faulted fault]; rfl
  · rw [rested rest]

/-! ## Samples with an invalid angle word -/

/-- A calm period start with valid angle words in the other channels: the sample of channel `c` is taken, and the
sample event is over or stops there. -/
theorem calmStart_angle {x : SampleInputs} {s : State} {c : Chan} (calm : CalmStart s) (capture : CaptureWaits s)
    (others : ∀ d : Chan, d ≠ c → (x.chans[d]).valid = true ∨ (s.chan d).invalidCount ≠ 2) (o : SampleOrder) :
    ∃ t u after m, exec (.periodStart x o) s = .next t ∧ AtSample x s u c ∧ .sample c ∉ after ∧
      t = (takeItems x.vbus.toNat after (sampleChannel x.vbus.toNat c u)).withMoment m ∧
      (LosesAngle u c → ∃ w, m = some w ∧ w.angleDue = some c) ∧ (¬ LosesAngle u c → m = none) ∧
      ((paired s c = true → ¬ HasFinding (s.chan (partnerOf c)) x.chans[partnerOf c]) →
        u.chan c = { s.chan c with last := (u.chan c).last, comp := (u.chan c).comp } ∧
          t.chan c = (sampleChannel x.vbus.toNat c u).chan c ∧ t.gate c = (sampleChannel x.vbus.toNat c u).gate c) := by
  have waits : Waits s.trace := capture
  obtain ⟨t, u, result, started, event⟩ := calmStart_event calm waits.nothing_due.1 waits.nothing_due.2 x o
  have free (l₁ l₂ : List WalkItem) (split : walkOf o = l₁ ++ l₂) : Unheld (takeItems x.vbus.toNat l₁ u) := by
    have after := waits_of_chain (takeItems_turned x.vbus.toNat l₁ u).trace (by rw [started.trace]; exact waits)
    exact unheld_of_calm calm started split after.nothing_due.1 after.nothing_due.2
  obtain ⟨before, after, items, notBefore, notAfter⟩ := walkOf_once o c
  refine ⟨t, takeItems x.vbus.toNat before u, ?_⟩
  have here := atSample started x.vbus.toNat notBefore
  have reached (calm : paired s c = true → ¬ HasFinding (s.chan (partnerOf c)) x.chans[partnerOf c]) :
      (takeItems x.vbus.toNat before u).chan c = { s.chan c with
        last := ((takeItems x.vbus.toNat before u).chan c).last, comp := ((takeItems x.vbus.toNat before u).chan c).comp } := by
    rw [(takeItems_apart x.vbus.toNat notBefore fun _ isPair => started.partner_free (.refl u) calm isPair).1]
    exact started.chan c
  rcases event.of_unheld free with ⟨keeps, rfl⟩ | ⟨l₁, d, l₂, w, split, loses, due, rfl⟩
  · have stays : takeItems x.vbus.toNat (walkOf o) u =
        takeItems x.vbus.toNat after (sampleChannel x.vbus.toNat c (takeItems x.vbus.toNat before u)) := by
      rw [items, takeItems_append]
      rfl
    refine ⟨after, none, result, here, notAfter, by rw [stays], fun loses => absurd loses (keeps before c after items),
      fun _ => rfl, fun calm => ⟨reached calm, ?_⟩⟩
    have turned := (takeItems_turned x.vbus.toNat before u).trans (sampleChannel_turned x.vbus.toNat c _)
    rw [stays]
    exact takeItems_apart x.vbus.toNat notAfter fun _ isPair => started.partner_free turned calm isPair
  · obtain ⟨dBefore, dAfter, dItems, dNotBefore, dNotAfter⟩ := walkOf_once o d
    obtain ⟨rfl, rfl⟩ := once_split (dItems.symm.trans split) dNotBefore dNotAfter
    have atD := atSample started x.vbus.toNat dNotBefore
    obtain rfl : d = c := by
      by_contra other
      rcases others d other with valid | count
      · have invalid := loses.invalid
        rw [atD.sense, valid] at invalid
        cases invalid
      · exact count (atD.context.invalidCount.symm.trans loses.third)
    obtain ⟨rfl, rfl⟩ := once_split (items.symm.trans split) notBefore notAfter
    have stops : takeItems x.vbus.toNat (before ++ [.sample d]) u =
        sampleChannel x.vbus.toNat d (takeItems x.vbus.toNat before u) := by
      rw [takeItems_append]
      rfl
    refine ⟨[], some w, result, here, by simp, by rw [stops]; rfl, fun _ => ⟨w, rfl, due⟩,
      fun keeps => absurd loses keeps, fun calm => ⟨reached calm, ?_⟩⟩
    rw [stops]
    exact ⟨rfl, rfl⟩

theorem prevAngle_faultFree : FaultFree Channel.prevAngle := by constructor <;> intros <;> rfl

theorem speed_faultFree : FaultFree Channel.speed := by constructor <;> intros <;> rfl

theorem invalidCount_faultFree : FaultFree Channel.invalidCount := by constructor <;> intros <;> rfl

/-- Settles O13. -/
theorem angleLossIsTakenByTheChannelsState : Obligations.AngleLossIsTakenByTheChannelsState := by
  unfold Obligations.AngleLossIsTakenByTheChannelsState
  refine ⟨fun s c w open_ due unpaired => ?_, fun s c q w open_ due last isPair hq => ?_,
    fun x o s c calm capture invalid others => ?_⟩
  · refine ⟨_, exec_angleLost open_ due, ?_⟩
    obtain ⟨u, hu⟩ : ∃ u, u = s.withMoment (some { w with angleDue := none }) := ⟨_, rfl⟩
    have chan : u.chan c = s.chan c := by rw [hu]; rfl
    have unpaired : paired u c = false := by rw [hu]; exact unpaired
    rw [← hu, ← chan]
    obtain ⟨driven, faulted, rested⟩ := detectAngle_cases c u
    refine ⟨fun drv => ?_, fun fault => ?_, fun rest => ?_⟩
    · obtain ⟨ia, ib, v, taken⟩ := driven drv
      obtain ⟨chan, gate, -⟩ := enterFault_chans c .angleLost 0 ia ib v u
      have pairs := (enterFault_turned drv .angleLost 0 ia ib v).keeps.pairs
      rw [taken]
      obtain ⟨state, record, gate'⟩ := resume_fault_unpaired (c := c) ((paired_of_pairs pairs c).trans unpaired)
        (by rw [chan]; rfl)
      rw [record, gate', chan, gate]
      exact ⟨state, rfl, rfl, gateSwitchOff_switchedOff _ _⟩
    · have chan : (u.modChan c (laterFault .angleLost)).chan c = laterFault .angleLost (u.chan c) :=
        State.modChan_chan_same ..
      rw [faulted fault]
      obtain ⟨state, record, -⟩ := resume_fault_unpaired (s := u.modChan c (laterFault .angleLost)) (c := c) unpaired
        (by rw [chan]; exact fault)
      rw [record, chan]
      refine ⟨state, rfl, ?_, rfl⟩
      rw [causeIn_laterFault, causeIn_causeBit_self, Bool.or_true]
    · rw [rested rest]
      have kept := walk_restKept ((resume_turned u).turns c) rest
      exact ⟨kept.state, kept.fault⟩
  · refine ⟨_, exec_angleLost open_ due, ?_⟩
    have moment := detectAngle_moment c (s.withMoment (some { w with angleDue := none }))
    rw [resume_of_walk_nil fun w' h => by rw [moment] at h; cases h; exact last]
    generalize (resume _).moment = m
    obtain ⟨driven, faulted, rested⟩ := detectAngle_cases c (s.withMoment (some { w with angleDue := none }))
    have qc : q ≠ c := by rw [hq]; exact partnerOf_ne c
    rcases state_cases (s.chan c).state with drv | fault | rest
    · obtain ⟨ia, ib, v, taken⟩ := driven drv
      obtain ⟨chan, gate, -, rest, -, told⟩ :=
        enterFault_chans c .angleLost 0 ia ib v (s.withMoment (some { w with angleDue := none }))
      rw [taken]
      simp only [State.withMoment_chan, State.withMoment_gate] at chan gate rest told ⊢
      rw [chan, gate, hq]
      exact ⟨fun _ => ⟨rfl, rfl, rfl, gateSwitchOff_switchedOff _ _, told isPair⟩,
        fun idle => by (rw [drv] at idle; cases idle), rest⟩
    · rw [faulted fault]
      refine ⟨fun drv => by (rw [fault] at drv; cases drv), fun _ => State.modChan_chan_other s _ qc,
        fun d dc _ => State.modChan_chan_other s _ dc⟩
    · rw [rested rest]
      exact ⟨fun drv => by (rw [resting_not_drives rest] at drv; cases drv), fun _ => rfl, fun _ _ _ => rfl⟩
  · obtain ⟨t, u, after, m, result, here, notAfter, ht, lost, kept, -⟩ := calmStart_angle calm capture others o
    have same := here.context
    have field {α : Type} {π : Channel → α} (free : FaultFree π) :
        π (t.chan c) = π (sampledChannel u x.vbus.toNat c) := by
      rw [ht, State.withMoment_chan, free.takeItems _ notAfter, free.sampleChannel, State.setChan_chan_same]
    obtain ⟨k', comp, measured⟩ := sampledChannel_measured u x.vbus.toNat c
    have waiting := field waitingResults_faultFree
    rw [show waitingResults (sampledChannel u x.vbus.toNat c) = some k'.results by
      unfold waitingResults; rw [comp]; rfl] at waiting
    obtain ⟨k, hk, results⟩ := waitingResults_eq_some waiting
    obtain ⟨angle, count, speed⟩ := sampledChannel_invalid (v := x.vbus.toNat)
      (show u.sense[c].valid = false by rw [here.sense]; exact invalid)
    have moment : t.moment = m := by rw [ht]; rfl
    refine ⟨t, k, result, hk, ?_, ?_, ?_, ?_, ?_, fun third state => ?_, fun free => ?_⟩
    · rw [field prevAngle_faultFree, angle, same.prevAngle, same.speed]
    · rw [field speed_faultFree, speed, same.speed]
    · rw [field invalidCount_faultFree, count, same.invalidCount]
    · rw [results, measured.angle, field prevAngle_faultFree]
    · rw [results, measured.speed, speed, same.speed]
    · rw [moment]
      refine lost ⟨?_, fun found => ?_, by rw [here.sense]; exact invalid, same.invalidCount.trans third⟩
      · rcases state with fault | ⟨drv, -⟩
        · exact .inr (here.fault fault)
        · exact .inl (here.drives drv)
      · have found := here.findings found
        rcases state with fault | ⟨-, free⟩
        · have drv := found.1
          rw [fault] at drv
          cases drv
        · exact free found
    · rw [moment]
      refine kept fun loses => ?_
      rcases free with count | rest
      · exact count (same.invalidCount.symm.trans loses.third)
      · have state := here.rest rest
        rcases loses.state with drv | fault
        · rw [state, resting_not_drives rest] at drv; cases drv
        · exact resting_not_fault rest (state.symm.trans fault)

end Sys2Proof.Machine
end

section
/-! Overrange and overcurrent findings (R16, R70, R72, R81) and the partner's reaction before or after its own sample
(R10, R112, R113). -/

namespace Sys2Proof.Machine

open Sys2Proof Relation

/-! ## The FAULT entry of a sample -/

theorem causeIn_pendingOthers_other {k c : Cause} (refLoss : c ≠ .refLoss) (partner : c ≠ .partner) (ch : Channel) :
    causeIn c (pendingOthers k ch) = false := by
  rw [pendingOthers, causeIn_or, causeIn_causeIf_other _ refLoss, causeIn_causeIf_other _ partner]
  rfl

theorem causeIn_alsoFound (ch : Channel) (x : SenseIn) :
    causeIn .refLoss (alsoFound ch x) = false ∧ causeIn .partner (alsoFound ch x) = false ∧
      (causeIn .overcurrent (alsoFound ch x) = true ↔ IsOverrange x ∧ IsOvercurrent ch x) ∧
      (causeIn .angleLost (alsoFound ch x) = true ↔ x.valid = false ∧ ch.invalidCount = 2) := by
  unfold alsoFound
  refine ⟨?_, ?_, ?_, ?_⟩
  · rw [causeIn_or, causeIn_causeIf_other _ (by decide), causeIn_causeIf_other _ (by decide)]; rfl
  · rw [causeIn_or, causeIn_causeIf_other _ (by decide), causeIn_causeIf_other _ (by decide)]; rfl
  · rw [causeIn_or, causeIn_causeIf, causeIn_causeIf_other _ (by decide), Bool.or_false, Bool.and_eq_true,
      overrangeFinding_iff, overcurrentFinding_iff]
  · rw [causeIn_or, causeIn_causeIf, causeIn_causeIf_other _ (by decide), Bool.false_or, angleReached_iff]

theorem sampledChannel_pending (s : State) (v : Nat) (c : Chan) :
    (sampledChannel s v c).pendRefLoss = (s.chan c).pendRefLoss ∧
      (sampledChannel s v c).pendPartner = (s.chan c).pendPartner := by
  have refLoss : (beforeReferences s.sense[c] (s.chan c)).pendRefLoss = (s.chan c).pendRefLoss := by
    rw [beforeReferences_frame]
  have partner : (beforeReferences s.sense[c] (s.chan c)).pendPartner = (s.chan c).pendPartner := by
    rw [beforeReferences_frame]
  exact ⟨refLoss, partner⟩

/-- The channel whose sample in state `u` has a finding (R16, R70, R72, R81). -/
theorem sampleChannel_faults {u : State} {c : Chan} (v : Nat) (found : HasFinding (u.chan c) u.sense[c]) :
    (sampleChannel v c u).chan c = toFault (foundCause u.sense[c]) (alsoFound (u.chan c) u.sense[c])
        (sat (u.sense[c].aRaw.toInt - (u.chan c).offA)) (sat (u.sense[c].bRaw.toInt - (u.chan c).offB)) v u.timer.stamp
        (sampledChannel u v c) ∧
      SwitchedOff ((sampleChannel v c u).gate c) ∧
      (∀ d, d ≠ c → (sampleChannel v c u).gate d = u.gate d) ∧
      (paired u c = true → Reacted (u.chan (partnerOf c)) ((sampleChannel v c u).chan (partnerOf c))) := by
  obtain ⟨chan, gate, gates, -, -, told⟩ := enterFault_chans c (foundCause u.sense[c]) (alsoFound (u.chan c) u.sense[c])
    (phaseCurrent u.sense[c].aRaw (u.chan c).offA) (phaseCurrent u.sense[c].bRaw (u.chan c).offB) v
    (u.setChan c (sampledChannel u v c))
  rw [State.setChan_chan_same] at chan
  rw [State.setChan_chan_other _ _ (partnerOf_ne c)] at told
  rw [sampleChannel_finding v found]
  exact ⟨chan, by rw [gate]; exact gateSwitchOff_switchedOff _ _, gates, told⟩

/-- What a finding leaves of the channel and its fault record. -/
structure FaultTaken (s : State) (x : SampleInputs) (c : Chan) (ch : Channel) : Prop where
  state : ch.state = .fault
  cleared : ch.accD = 0 ∧ ch.accQ = 0 ∧ ch.lastRefD = 0 ∧ ch.lastRefQ = 0
  first : ch.fault.firstCause = some (foundCause x.chans[c])
  overcurrent : causeIn .overcurrent ch.fault.alsoSeen = true ↔ IsOverrange x.chans[c] ∧ IsOvercurrent (s.chan c) x.chans[c]
  angleLost : causeIn .angleLost ch.fault.alsoSeen = true ↔ (x.chans[c]).valid = false ∧ (s.chan c).invalidCount = 2
  refLoss : causeIn .refLoss ch.fault.alsoSeen = (s.chan c).pendRefLoss
  partner : causeIn .partner ch.fault.alsoSeen = (s.chan c).pendPartner
  trip : ch.fault.tripState = (s.chan c).state
  ia : ch.fault.tripIa = sat ((x.chans[c]).aRaw.toInt - (s.chan c).offA)
  ib : ch.fault.tripIb = sat ((x.chans[c]).bRaw.toInt - (s.chan c).offB)
  vbus : ch.fault.tripVbus = x.vbus.toNat
  stamp : ch.fault.stamp = s.timer.stamp
  total : ch.fault.totalCount = bump (s.chan c).fault.totalCount
  later : ch.fault.laterCount = (s.chan c).fault.laterCount

theorem foundCause_ne (x : SenseIn) : foundCause x ≠ .refLoss ∧ foundCause x ≠ .partner := by
  unfold foundCause
  split <;> exact ⟨nofun, nofun⟩

theorem foundCause_eq (x : SenseIn) :
    (IsOverrange x → foundCause x = .overrange) ∧ (¬ IsOverrange x → foundCause x = .overcurrent) := by
  rw [← overrangeFinding_iff]
  exact ⟨fun h => if_pos h, fun h => if_neg h⟩

theorem sampleChannel_faultTaken {x : SampleInputs} {s u : State} {c : Chan} (here : AtSample x s u c)
    (chan : u.chan c = { s.chan c with last := (u.chan c).last, comp := (u.chan c).comp })
    (found : HasFinding (s.chan c) x.chans[c]) :
    FaultTaken s x c ((sampleChannel x.vbus.toNat c u).chan c) ∧ SwitchedOff ((sampleChannel x.vbus.toNat c u).gate c) := by
  have state : (u.chan c).state = (s.chan c).state := by rw [chan]
  have fault : (u.chan c).fault = (s.chan c).fault := by rw [chan]
  have refLoss : (u.chan c).pendRefLoss = (s.chan c).pendRefLoss := by rw [chan]
  have partner : (u.chan c).pendPartner = (s.chan c).pendPartner := by rw [chan]
  have same := here.context
  have foundHere : HasFinding (u.chan c) u.sense[c] := by
    obtain ⟨drv, which⟩ := found
    rw [here.sense]
    exact ⟨by rw [state]; exact drv, which.imp_right (same.isOvercurrent _).2⟩
  obtain ⟨taken, off, -, -⟩ := sampleChannel_faults x.vbus.toNat foundHere
  rw [here.sense, same.offA, same.offB, here.timer] at taken
  obtain ⟨noRefLoss, noPartner, overcurrent, angleLost⟩ := causeIn_alsoFound (u.chan c) x.chans[c]
  rw [same.isOvercurrent] at overcurrent
  rw [same.invalidCount] at angleLost
  obtain ⟨refLoss', partner'⟩ := sampledChannel_pending u x.vbus.toNat c
  obtain ⟨neRefLoss, nePartner⟩ := foundCause_ne x.chans[c]
  have record := sampledChannel_fault u x.vbus.toNat c
  refine ⟨?_, off⟩
  rw [taken]
  refine ⟨rfl, ⟨rfl, rfl, rfl, rfl⟩, rfl, ?_, ?_, ?_, ?_, (sampledChannel_state u x.vbus.toNat c).trans state, rfl, rfl, rfl,
    rfl, ?_, ?_⟩
  · rw [causeIn_toFault, causeIn_pendingOthers_other (c := .overcurrent) nofun nofun, Bool.false_or]
    exact overcurrent
  · rw [causeIn_toFault, causeIn_pendingOthers_other (c := .angleLost) nofun nofun, Bool.false_or]
    exact angleLost
  · rw [causeIn_toFault, causeIn_pendingOthers_refLoss, noRefLoss, Bool.or_false, refLoss', refLoss,
      bne_iff_ne.2 neRefLoss, Bool.and_true]
  · rw [causeIn_toFault, causeIn_pendingOthers_partner, noPartner, Bool.or_false, partner', partner,
      bne_iff_ne.2 nePartner, Bool.and_true]
  · show bump (sampledChannel u x.vbus.toNat c).fault.totalCount = _
    rw [record, fault]
  · show (sampledChannel u x.vbus.toNat c).fault.laterCount = _
    rw [record, fault]

/-! ## The partner's reaction, after its own sample or before it -/

/-- What the reaction to a FAULT entry makes of the partner's channel `a` on the way to its sampled form or after it,
as far as the state of `a` names it. -/
structure PartnerTook (s : State) (q : Chan) (first : Prop) (ch : Channel) (k : Computation) : Prop where
  run : runOrHold (s.chan q).state = true →
    ch.state = .rampdown ∧ ch.pendPartner = true ∧ ch.pendRefLoss = (s.chan q).pendRefLoss ∧
      (first → k.results.state = (s.chan q).state ∧ ch.rampD = ch.lastRefD ∧ ch.rampQ = ch.lastRefQ ∧
        ch.rampComplete = false) ∧
      (¬ first → k.results.state = .rampdown ∧
        StepsToZero (s.chan q).record.ramp (s.chan q).lastRefD ch.rampD ∧
        StepsToZero (s.chan q).record.ramp (s.chan q).lastRefQ ch.rampQ ∧
        (ch.rampComplete = true ↔ ch.rampD = 0 ∧ ch.rampQ = 0))
  ramp : (s.chan q).state = .rampdown →
    ch.state = .rampdown ∧ ch.pendPartner = true ∧ ch.pendRefLoss = (s.chan q).pendRefLoss ∧
      StepsToZero (s.chan q).record.ramp (s.chan q).rampD ch.rampD ∧
      StepsToZero (s.chan q).record.ramp (s.chan q).rampQ ch.rampQ
  fault : (s.chan q).state = .fault → ch.state = .fault ∧
    ch.fault = { (s.chan q).fault with
      alsoSeen := (s.chan q).fault.alsoSeen ||| causeBit .partner
      laterCount := bumpTo 255 (s.chan q).fault.laterCount
      lastLater := some .partner }
  rest : Resting (s.chan q).state → ch.state = (s.chan q).state ∧ ch.fault = (s.chan q).fault

/-- The partner has taken its sample before the reaction reaches it. -/
theorem partnerTook_after {s u : State} {v : Nat} {q : Chan} {ch : Channel}
    (chan : u.chan q = { s.chan q with last := (u.chan q).last, comp := (u.chan q).comp })
    (told : Reacted (sampledChannel u v q) ch) : ∃ k, ch.comp = some k ∧ PartnerTook s q True ch k := by
  obtain ⟨k, comp, measured⟩ := sampledChannel_measured u v q
  have state : (sampledChannel u v q).state = (s.chan q).state := (sampledChannel_state u v q).trans (by rw [chan])
  have fault : (sampledChannel u v q).fault = (s.chan q).fault := (sampledChannel_fault u v q).trans (by rw [chan])
  have refLoss : (sampledChannel u v q).pendRefLoss = (s.chan q).pendRefLoss :=
    (sampledChannel_pending u v q).1.trans (by rw [chan])
  have results : k.results.state = (s.chan q).state := measured.state.trans (by rw [chan])
  obtain ⟨steps, -⟩ := sampledChannel_ramp (s := u) (v := v) (c := q)
  obtain ⟨run, ramp, faulted, rest⟩ := told
  rw [state] at run ramp faulted rest
  have kept : ch.comp = (sampledChannel u v q).comp := by
    rcases state_cases (s.chan q).state with drv | f | r
    · cases e : (s.chan q).state <;> rw [e] at drv run ramp
      case run | hold => rw [run rfl]
      case rampdown => rw [ramp rfl]
      all_goals cases drv
    · rw [faulted f]
    · rw [rest r]
  refine ⟨k, kept.trans comp, fun runs => ?_, fun ramps => ?_, fun stands => ?_, fun rests => ?_⟩
  · rw [run runs]
    exact ⟨rfl, rfl, refLoss, fun _ => ⟨results, rfl, rfl, rfl⟩, fun no => absurd trivial no⟩
  · obtain ⟨d, q', -⟩ := steps (by rw [chan]; exact ramps)
    rw [chan] at d q'
    rw [ramp ramps]
    exact ⟨ramps, rfl, refLoss, d, q'⟩
  · rw [faulted stands]
    refine ⟨stands, ?_⟩
    rw [fault]
  · rw [rest rests]
    exact ⟨state, fault⟩

/-- The reaction reaches the partner before it takes its sample. -/
theorem partnerTook_before {s u w : State} {v : Nat} {q : Chan}
    (chan : w.chan q = { s.chan q with last := (w.chan q).last, comp := (w.chan q).comp })
    (told : Reacted (w.chan q) (u.chan q)) :
    ∃ k, (sampledChannel u v q).comp = some k ∧ PartnerTook s q False (sampledChannel u v q) k := by
  obtain ⟨k, comp, measured⟩ := sampledChannel_measured u v q
  have state := sampledChannel_state u v q
  have fault := sampledChannel_fault u v q
  obtain ⟨refLoss, partner⟩ := sampledChannel_pending u v q
  obtain ⟨steps, -⟩ := sampledChannel_ramp (s := u) (v := v) (c := q)
  have before : (w.chan q).state = (s.chan q).state := by rw [chan]
  obtain ⟨run, ramp, faulted, rest⟩ := told
  rw [before] at run ramp faulted rest
  refine ⟨k, comp, fun runs => ?_, fun ramps => ?_, fun stands => ?_, fun rests => ?_⟩
  · have after := run runs
    rw [chan] at after
    have results := measured.state
    obtain ⟨d, q', complete⟩ := steps (by rw [after])
    rw [after] at state refLoss partner results d q' complete
    refine ⟨state, partner, refLoss, False.elim, fun _ => ⟨results, d, q', ?_⟩⟩
    rw [complete]
    simp
  · have after := ramp ramps
    rw [chan] at after
    obtain ⟨d, q', -⟩ := steps (by rw [after]; exact ramps)
    rw [after] at state refLoss partner d q'
    exact ⟨state.trans ramps, partner, refLoss, d, q'⟩
  · have after := faulted stands
    rw [chan] at after
    rw [after] at state fault
    exact ⟨state.trans stands, fault⟩
  · have after := rest rests
    rw [chan] at after
    rw [after] at state fault
    exact ⟨state, fault⟩

/-- A finding in channel `c` of a configured pair at a quiet period start, whose partner `q` has none. -/
theorem quiet_partner {x : SampleInputs} {s : State} {c q : Chan} (quiet : QuietStart s x) (o : SampleOrder)
    (found : HasFinding (s.chan c) x.chans[c]) (isPair : paired s c = true) (hq : q = partnerOf c)
    (free : ¬ HasFinding (s.chan q) x.chans[q]) : ∃ t k, exec (.periodStart x o) s = .next t ∧
      (t.chan q).comp = some k ∧ PartnerTook s q (OwnFirst o q) (t.chan q) k ∧ (t.gate q).enable = (s.gate q).enable := by
  obtain ⟨w, result, started⟩ := quietStart_event quiet o
  obtain ⟨before, after, items, apart⟩ := walkOf_split o q
  have qc : q ≠ c := by rw [hq]; exact partnerOf_ne c
  have back : partnerOf q = c := by rw [hq, partnerOf_partnerOf]
  have pair : pairOf c = pairOf q := by rw [hq, pairOf_partnerOf]
  obtain ⟨qBefore, qAfter⟩ := apart q rfl
  obtain ⟨cBefore, cAfter⟩ := apart c pair
  have turned := takeItems_turned x.vbus.toNat before w
  obtain ⟨qChan, qGate⟩ := takeItems_apart x.vbus.toNat qBefore (s := w) fun mem => absurd mem (by rw [back]; exact cBefore)
  obtain ⟨cChan, -⟩ := takeItems_apart x.vbus.toNat cBefore (s := w) fun mem => absurd mem (by rw [← hq]; exact qBefore)
  have last (u : State) := takeItems_apart x.vbus.toNat qAfter (s := u) fun mem => absurd mem (by rw [back]; exact cAfter)
  have sense : (takeItems x.vbus.toNat before w).sense = x.chans := turned.keeps.sense.trans started.sense
  have pairs : paired (takeItems x.vbus.toNat before w) c = true :=
    (paired_of_pairs (turned.keeps.pairs.trans started.pairs) c).trans isPair
  rw [started.chan c] at cChan
  have qStart := started.chan q
  rw [← qChan] at qStart
  have enable := started.enable q
  rw [← qGate] at enable
  rw [items, takeItems_append, takeItems_append] at result
  generalize takeItems x.vbus.toNat before w = u at *
  have cFound : HasFinding (u.chan c) u.sense[c] := by rw [cChan]; simp only [sense]; exact found
  have qFree : ¬ HasFinding (u.chan q) u.sense[q] := by rw [qStart]; simp only [sense]; exact free
  obtain ⟨own, second⟩ := pairItems_order o q
  by_cases first : OwnFirst o q
  · have taken : takeItems x.vbus.toNat (pairItems o (pairOf q)) u =
        sampleChannel x.vbus.toNat c (sampleChannel x.vbus.toNat q u) := by rw [own first, back]; rfl
    rw [taken] at result
    obtain ⟨chans, gates, -⟩ := sampleChannel_free_view x.vbus.toNat qFree
    have keeps := (sampleChannel_turned x.vbus.toNat q u).keeps
    have cFound : HasFinding ((sampleChannel x.vbus.toNat q u).chan c) (sampleChannel x.vbus.toNat q u).sense[c] := by
      rw [chans, State.setChan_chan_other _ _ qc.symm]
      simp only [keeps.sense]
      exact cFound
    obtain ⟨-, -, gates', told⟩ := sampleChannel_faults x.vbus.toNat cFound
    have told := told ((paired_of_pairs keeps.pairs c).trans pairs)
    rw [← hq, chans, State.setChan_chan_same] at told
    obtain ⟨chan, gate⟩ := last (sampleChannel x.vbus.toNat c (sampleChannel x.vbus.toNat q u))
    obtain ⟨k, comp, took⟩ := partnerTook_after qStart told
    refine ⟨_, k, result, ?_, ?_, ?_⟩
    · rw [State.withMoment_chan, chan]; exact comp
    · rw [State.withMoment_chan, chan, eq_true first]; exact took
    · rw [State.withMoment_gate, gate, gates' q qc, gates]; exact enable
  · have taken : takeItems x.vbus.toNat (pairItems o (pairOf q)) u =
        sampleChannel x.vbus.toNat q (sampleChannel x.vbus.toNat c u) := by rw [second first, back]; rfl
    rw [taken] at result
    obtain ⟨-, -, gates', told⟩ := sampleChannel_faults x.vbus.toNat cFound
    have told := told pairs
    rw [← hq] at told
    have qFree : ¬ HasFinding ((sampleChannel x.vbus.toNat c u).chan q) (sampleChannel x.vbus.toNat c u).sense[q] :=
      mt (walkTurned_findings (sampleChannel_turned x.vbus.toNat c u)) qFree
    obtain ⟨chans, gates, -⟩ := sampleChannel_free_view x.vbus.toNat qFree
    obtain ⟨chan, gate⟩ := last (sampleChannel x.vbus.toNat q (sampleChannel x.vbus.toNat c u))
    obtain ⟨k, comp, took⟩ := partnerTook_before (v := x.vbus.toNat) qStart told
    rw [chans, State.setChan_chan_same] at chan
    refine ⟨_, k, result, ?_, ?_, ?_⟩
    · rw [State.withMoment_chan, chan]; exact comp
    · rw [State.withMoment_chan, chan, eq_false first]; exact took
    · rw [State.withMoment_gate, gate, gates, gates' q qc]; exact enable

/-- Settles O12. -/
theorem currentFindingsTakeADrivingChannelIntoFault : Obligations.CurrentFindingsTakeADrivingChannelIntoFault := by
  unfold Obligations.CurrentFindingsTakeADrivingChannelIntoFault
  refine ⟨fun x o s c quiet found calm => ?_, fun x o s c q quiet found isPair hq free => ?_,
    fun x o s c calm capture found unpaired invalid third others => ?_⟩
  · obtain ⟨t, u, -, -, result, here, -, -, -, -, alone⟩ :=
      calmStart_angle (c := c) quiet.toCalmStart quiet.capture (fun d _ => .inl (quiet.angles d)) o
    obtain ⟨chan, chan', gate'⟩ := alone calm
    obtain ⟨took, off⟩ := sampleChannel_faultTaken here chan found
    rw [← chan'] at took
    obtain ⟨accD, accQ, refD, refQ⟩ := took.cleared
    obtain ⟨overrange, overcurrent⟩ := foundCause_eq x.chans[c]
    refine ⟨t, result, took.state, by rw [gate']; exact off, accD, accQ, refD, refQ, fun range => ⟨?_, ?_⟩, fun range => ?_,
      took.refLoss, took.partner, took.trip, took.ia, took.ib, took.vbus, took.stamp, took.total, took.later⟩
    · rw [took.first, overrange range]
    · rw [took.overcurrent]
      exact ⟨fun h => ⟨range, h⟩, fun h => h.2⟩
    · rw [took.first, overcurrent range]
  · obtain ⟨t, k, result, comp, took, enable⟩ := quiet_partner quiet o found isPair hq free
    have pair : pairOf c = pairOf q := by rw [hq, pairOf_partnerOf]
    rw [pair]
    refine ⟨t, k, result, comp, fun runs => ?_, took.ramp, took.fault, took.rest⟩
    obtain ⟨state, partner, refLoss, first, second⟩ := took.run (by rcases runs with e | e <;> rw [e] <;> rfl)
    exact ⟨state, partner, refLoss, enable, first, second⟩
  · obtain ⟨t, u, -, -, result, here, -, -, -, -, alone⟩ := calmStart_angle (c := c) calm capture others o
    obtain ⟨chan, chan', -⟩ := alone fun isPair => by rw [unpaired] at isPair; cases isPair
    obtain ⟨took, -⟩ := sampleChannel_faultTaken here chan found
    rw [← chan'] at took
    refine ⟨t, result, took.state, ?_, took.angleLost.2 ⟨invalid, third⟩⟩
    rw [took.first]
    obtain ⟨overrange, overcurrent⟩ := foundCause_eq x.chans[c]
    split
    · next range => rw [overrange range]
    · next range => rw [overcurrent range]

end Sys2Proof.Machine
end

section
/-! The computation of a sample event (chapter 2, sections 3.1, 4.1, 4.2 and 5.4) as the statements write it, and the
limits of its vectors and compare values. -/

namespace Sys2Proof.Machine

open Sys2Proof Relation

/-! ## Limits (R44, R65) -/

theorem clampedTo_clamp {m : Int} (pos : 0 ≤ m) (y : Int) : ClampedTo m y (clamp (-m) m y) := by
  unfold ClampedTo clamp
  refine ⟨fun above => ?_, fun below => if_pos below, fun low high => ?_⟩
  · rw [if_neg (by omega), if_pos above]
  · rw [if_neg (by omega), if_neg (by omega)]

theorem rshift_fifteen (y : Int) : rshift 15 y = (y + 16384) / 32768 := rfl

/-- A product with a factor of at most 1 in Q15. -/
theorem scaled_bounds {p k : Int} (p0 : 0 ≤ p) (p1 : p ≤ 32767) (k0 : 0 ≤ k) (k1 : k ≤ 32768) :
    0 ≤ rshift 15 (p * k) ∧ rshift 15 (p * k) ≤ 32767 := by
  have low : 0 ≤ p * k := mul_nonneg p0 k0
  have high : p * k ≤ 32767 * 32768 := mul_le_mul p1 k1 k0 (by decide)
  rw [rshift_fifteen]
  omega

/-- The room of the q axis is the floor square root of what the d axis leaves. -/
theorem qRoom_spec {m d : Int} (low : -m ≤ d) (high : d ≤ m) (bound : m ≤ 32767) :
    qRoom m d ^ 2 ≤ m ^ 2 - d ^ 2 ∧ m ^ 2 - d ^ 2 < (qRoom m d + 1) ^ 2 := by
  have left : 0 ≤ m * m - d * d := by nlinarith
  have size : m * m - d * d < 2 ^ 32 := by nlinarith
  have cast : ((m * m - d * d).toNat : Int) = m * m - d * d := Int.toNat_of_nonneg left
  obtain ⟨below, above⟩ := floorSqrt_spec (n := (m * m - d * d).toNat) (by omega)
  have below : ((floorSqrt (m * m - d * d).toNat : Nat) : Int) * (floorSqrt (m * m - d * d).toNat : Nat) ≤ m * m - d * d := by
    rw [← cast]; exact_mod_cast below
  have above : m * m - d * d < ((floorSqrt (m * m - d * d).toNat : Nat) + 1 : Int) * ((floorSqrt (m * m - d * d).toNat : Nat) + 1) := by
    rw [← cast]; exact_mod_cast above
  have room : qRoom m d = (floorSqrt (m * m - d * d).toNat : Nat) := rfl
  rw [room]
  constructor <;> simp only [pow_two]
  · exact below
  · exact above

theorem qRoom_nonneg (m d : Int) : 0 ≤ qRoom m d := Int.natCast_nonneg _

/-- The limited vector is the unlimited one cut to the limit, the d axis first. -/
theorem limit_cutTo {m : Int} (pos : 0 ≤ m) (bound : m ≤ 32767) (d q : Int) :
    CutTo m d q (limitD m d) (limitQ m d q) := by
  obtain ⟨low, high⟩ := clamp_bounds (lo := -m) (hi := m) d (by omega)
  obtain ⟨below, above⟩ := qRoom_spec low high bound
  exact ⟨clampedTo_clamp pos d, _, qRoom_nonneg m _, below, above, clampedTo_clamp (qRoom_nonneg m _) q⟩

theorem limit_length {m : Int} (pos : 0 ≤ m) (bound : m ≤ 32767) (d q : Int) :
    |limitD m d| ≤ m ∧ limitD m d ^ 2 + limitQ m d q ^ 2 ≤ m ^ 2 := by
  obtain ⟨low, high⟩ := clamp_bounds (lo := -m) (hi := m) d (by omega)
  obtain ⟨below, -⟩ := qRoom_spec low high bound
  have room := qRoom_nonneg m (limitD m d)
  obtain ⟨qLow, qHigh⟩ := clamp_bounds (lo := -qRoom m (limitD m d)) (hi := qRoom m (limitD m d)) q (by omega)
  have square : limitQ m d q ^ 2 ≤ qRoom m (limitD m d) ^ 2 := sq_le_sq' qLow qHigh
  refine ⟨abs_le.2 ⟨low, high⟩, ?_⟩
  have below : qRoom m (limitD m d) ^ 2 ≤ m ^ 2 - limitD m d ^ 2 := below
  omega

theorem voltageMax_bounds {vlim : Nat} (h : vlim ≤ 32767) : 0 ≤ voltageMax vlim ∧ voltageMax vlim ≤ 32767 :=
  scaled_bounds (by omega) (by omega) (by decide) (by decide)

/-- The current limit (R64). -/
theorem currentLimit_spec {ch : Channel} (peak : ch.record.peak ≤ 32767) (scale : Nat) :
    IsCurrentLimit ch scale (currentLimit ch.record.peak ch.record.cont scale ch.foldback) ∧
      0 ≤ currentLimit ch.record.peak ch.record.cont scale ch.foldback ∧
      currentLimit ch.record.peak ch.record.cont scale ch.foldback ≤ 32767 := by
  have clamped : clampNat 0 32768 scale = min scale 32768 := by rw [clampNat_zero, min_comm]
  obtain ⟨low, high⟩ := scaled_bounds (p := ch.record.peak) (k := ((min scale 32768 : Nat) : Int)) (by omega) (by omega)
    (by omega) (by omega)
  have form : currentLimit ch.record.peak ch.record.cont scale ch.foldback =
      if ch.foldback then min (rshift 15 ((ch.record.peak : Int) * (min scale 32768 : Nat))) (ch.record.cont : Int)
      else rshift 15 ((ch.record.peak : Int) * (min scale 32768 : Nat)) := by
    unfold currentLimit
    rw [clamped]
  refine ⟨⟨_, by push_cast; rfl, form⟩, ?_, ?_⟩ <;> rw [form] <;> split <;> omega

/-! ## Band, modulation, integrators and thermal model -/

theorem fallBand_falls (sch : Schedule) (w n b : Nat) (enough : b ≤ n) :
    fallBand sch w n b ≤ b ∧ (∀ j, fallBand sch w n b < j → j ≤ b → w < threshold sch j - sch.hy) ∧
      (0 < fallBand sch w n b → threshold sch (fallBand sch w n b) - sch.hy ≤ w) := by
  induction n generalizing b with
  | zero =>
    have zero : b = 0 := by omega
    subst zero
    exact ⟨le_rfl, fun j above below => absurd above (not_lt.2 below), fun pos => absurd pos (lt_irrefl 0)⟩
  | succ n ih =>
    unfold fallBand
    split
    · next falls =>
      obtain ⟨down, steps, stops⟩ := ih (b - 1) (by omega)
      refine ⟨by omega, fun j above below => ?_, stops⟩
      by_cases last : j = b
      · subst last; exact falls.2
      · exact steps j above (by omega)
    · next stays =>
      exact ⟨le_rfl, fun j above below => absurd above (not_lt.2 below), fun pos =>
        not_lt.1 fun low => stays ⟨pos, low⟩⟩

/-- The band of a computation (R91). -/
theorem selectBand_moves {sch : Schedule} {b : Nat} (band : b ≤ 3) (used : sch.used ≤ 4) (speed : Int) :
    BandMoves sch speed.natAbs b (selectBand sch speed b) := by
  have rises := riseBand_rises sch speed.natAbs 3 b (by omega)
  have top : riseBand sch speed.natAbs 3 b ≤ 3 := by
    obtain ⟨up, steps, -⟩ := rises
    by_contra high
    have := (steps _ (by omega) le_rfl).1
    omega
  exact ⟨_, rises, fallBand_falls sch speed.natAbs 3 _ top⟩

/-- A compare value (R54). -/
theorem minPulse_cases (h minp n : Nat) :
    minPulse h minp n = 0 ∨ minPulse h minp n = h ∨ (minp ≤ minPulse h minp n ∧ minPulse h minp n ≤ h - minp) := by
  unfold minPulse
  split
  · exact .inl rfl
  · split
    · exact .inr (.inl rfl)
    · exact .inr (.inr (by omega))

theorem dutyClamped_iff (val vbe : Int) :
    dutyClamped val vbe = true ↔ ∃ l, rawDuty val vbe l < 0 ∨ 32768 < rawDuty val vbe l := by
  have leg (l : Leg) : duty val vbe l ≠ rawDuty val vbe l ↔ rawDuty val vbe l < 0 ∨ 32768 < rawDuty val vbe l := by
    unfold duty clamp
    split
    · omega
    · split <;> omega
  unfold dutyClamped
  simp only [Bool.or_eq_true, decide_eq_true_eq, leg]
  constructor
  · rintro ((h | h) | h)
    · exact ⟨.a, h⟩
    · exact ⟨.b, h⟩
    · exact ⟨.c, h⟩
  · rintro ⟨l, h⟩
    cases l with
    | a => exact .inl (.inl h)
    | b => exact .inl (.inr h)
    | c => exact .inr h

theorem natCast_busFactor (vnom : Nat) (vbus : Word) : ((busFactor vnom vbus.toNat : Nat) : Int) =
    if vbus = 0 then 65535 else clamp 16384 65535 ((vnom : Int) * 32768 / vbus.toNat) := by
  have zero : vbus.toNat = 0 ↔ vbus = 0 := by
    rw [← BitVec.toNat_inj]; rfl
  unfold busFactor
  simp only [zero]
  split
  · rfl
  · rw [natCast_clampNat]
    push_cast
    rfl

theorem compensatedVoltages_eq (s : State) (vbus : Word) (k : Computation) : compensatedVoltages s vbus k =
    (compensated (inverseAlpha k.results.vd k.results.vq (sinOf k.results.angle) (cosOf k.results.angle))
        (busFactor s.station.vnom vbus.toNat),
      compensated (inverseBeta k.results.vd k.results.vq (sinOf k.results.angle) (cosOf k.results.angle))
        (busFactor s.station.vnom vbus.toNat)) := by
  unfold compensatedVoltages compensated
  rw [natCast_busFactor]
  rfl

theorem integrate_eq (ki : Nat) (e u v acc : Int) : integrate (v != u) ki e u acc = accumulated ki e u v acc := by
  unfold integrate accumulated sameSign accBound
  refine if_congr ?_ rfl rfl
  rw [Bool.and_eq_true, Bool.or_eq_true, decide_eq_true_iff, decide_eq_true_iff, bne_iff_ne, ne_comm]

theorem foldbackStep_iff (before : Bool) (lim t : Nat) : foldbackStep before lim t = true ↔
    0 < lim ∧ ((before = false ∧ t = lim * 65536) ∨ (before = true ∧ lim * 57344 < t)) := by
  unfold foldbackStep
  cases before <;> split <;> simp <;> omega

/-! ## The computation of a channel that no reaction reaches -/

/-- What a computation reads at a period start from `s` (R26): carrier settings as the period start puts them in
force. -/
def startEnv (s : State) (v : Nat) (c : Chan) (ch : Channel) : LoopEnv :=
  { loopEnv s v c ch with h := s.station.carrierH, minp := s.station.minp }

/-- Channel `c` of `s` after a sample `x` at the bus value `v`. -/
def computedChannel (s : State) (x : SenseIn) (v : Nat) (c : Chan) : Channel :=
  regulate (startEnv s v c (beforeReferences x (s.chan c))) x (beforeReferences x (s.chan c))

theorem beforeReferences_parts (x : SenseIn) (ch : Channel) (l : LastResults) (k : Option Computation) :
    beforeReferences x { ch with last := l, comp := k } = { beforeReferences x ch with last := l, comp := k } := by
  have summed (ch : Channel) : accumulate x { ch with last := l, comp := k } =
      { accumulate x ch with last := l, comp := k } := by
    unfold accumulate; dsimp only; split <;> rfl
  have turned (ch : Channel) : angleStep x { ch with last := l, comp := k } =
      { angleStep x ch with last := l, comp := k } := by
    unfold angleStep; dsimp only; split <;> rfl
  have ramped (ch : Channel) : rampStep { ch with last := l, comp := k } =
      { rampStep ch with last := l, comp := k } := by
    unfold rampStep; dsimp only; split <;> rfl
  unfold beforeReferences
  rw [summed, turned, ramped]

theorem sampledChannel_computed {x : SampleInputs} {s u : State} {c : Chan} (here : AtSample x s u c) (v : Nat)
    (chan : u.chan c = { s.chan c with last := (u.chan c).last, comp := (u.chan c).comp }) :
    sampledChannel u v c = { computedChannel s x.chans[c] v c with last := (u.chan c).last } := by
  have latch (d : Chan) : u.latch d = s.latch d := by unfold State.latch; simp only [here.latches]
  have follower : pairedFollower u c = pairedFollower s c := by unfold pairedFollower; rw [paired_of_pairs here.pairs]
  have env (ch : Channel) (l : LastResults) (k : Option Computation) :
      loopEnv u v c { ch with last := l, comp := k } = startEnv s v c ch := by
    unfold startEnv loopEnv
    congr 1
    · unfold referenceD; rw [latch]
    · unfold referenceQ; rw [latch, latch, follower]
    · rw [latch]
    · rw [here.active]
    · rw [here.active]
    · rw [here.station]
    · exact here.half
    · exact here.minp
    · rw [here.bus]
  unfold sampledChannel computedChannel
  rw [here.sense, chan, beforeReferences_parts]
  dsimp only
  rw [env]
  rfl

theorem beforeReferences_kept (x : SenseIn) (ch : Channel) :
    (beforeReferences x ch).record = ch.record ∧ (beforeReferences x ch).offA = ch.offA ∧
      (beforeReferences x ch).offB = ch.offB ∧ (beforeReferences x ch).accD = ch.accD ∧
      (beforeReferences x ch).accQ = ch.accQ ∧ (beforeReferences x ch).lastRefD = ch.lastRefD ∧
      (beforeReferences x ch).lastRefQ = ch.lastRefQ ∧ (beforeReferences x ch).band = ch.band ∧
      (beforeReferences x ch).i2t = ch.i2t ∧ (beforeReferences x ch).foldback = ch.foldback := by
  rw [beforeReferences_frame]
  exact ⟨rfl, rfl, rfl, rfl, rfl, rfl, rfl, rfl, rfl, rfl⟩

/-- The references by the state of the channel (R38, R107). -/
theorem references_callsFor {s : State} {c : Chan} {b ch' : Channel} (state : b.state = (s.chan c).state)
    (record : b.record = (s.chan c).record) (rampD : ch'.rampD = b.rampD) (rampQ : ch'.rampQ = b.rampQ) :
    CallsFor s c ch' (referenceD s c b) (referenceQ s c b) := by
  unfold CallsFor referenceD referenceQ
  rw [state, record, rampD, rampQ]
  cases (s.chan c).state with
  | run | hold =>
    refine ⟨fun _ => ⟨rfl, fun alone => if_neg (by rw [alone]; nofun), fun follows => if_pos follows⟩, nofun, nofun⟩
  | rampdown => exact ⟨nofun, fun _ => ⟨rfl, rfl⟩, nofun⟩
  | off | calibrate | ready | fault => exact ⟨nofun, nofun, fun _ => ⟨rfl, rfl⟩⟩

section

variable {s : State} {x : SenseIn} {v : Nat} {c : Chan} {k : Computation}

/-- Steps 1 to 7. -/
theorem computedChannel_references (valid : x.valid = true)
    (ramps : (s.chan c).state = .rampdown → (s.chan c).rampComplete = false) (peak : (s.chan c).record.peak ≤ 32767)
    (hk : (computedChannel s x v c).comp = some k) (l : LastResults) :
    TakesReferences s x c { computedChannel s x v c with last := l } k := by
  obtain ⟨record, offA, offB, -, -, lastRefD, lastRefQ, -, -, foldback⟩ := beforeReferences_kept x (s.chan c)
  have state := beforeReferences_state x (s.chan c)
  obtain ⟨angle, count, speed⟩ := beforeReferences_valid (ch := s.chan c) valid
  obtain ⟨steps, still⟩ := beforeReferences_ramp x (s.chan c)
  unfold computedChannel at hk ⊢
  generalize beforeReferences x (s.chan c) = b at *
  obtain rfl := Option.some.inj hk
  obtain ⟨isLimit, low, high⟩ := currentLimit_spec peak (s.latch c).ilimScale
  rw [← record, ← foldback] at low high
  refine ⟨⟨state, state⟩, ⟨?_, ?_⟩, ⟨angle, rfl, count⟩, ⟨speed, rfl⟩, ⟨_, rfl, rfl, rfl⟩, fun ramp => ?_, still,
    ⟨referenceD s c b, referenceQ s c b, _, references_callsFor state record rfl rfl, isLimit, ?_, ?_⟩, ?_⟩
  · rw [← offA]; rfl
  · rw [← offB]; rfl
  · obtain ⟨d, q, complete⟩ := steps ramp
    rw [ramps ramp] at complete
    exact ⟨d, q, complete.trans (by simp only [Bool.false_eq_true, false_or]; rfl)⟩
  · rw [← record, ← foldback]
    exact limit_cutTo low high _ _
  · show (_ != _ || _ != _) = true ↔ _
    rw [Bool.or_eq_true, bne_iff_ne, bne_iff_ne]
    rfl
  · cases drv : drives (s.chan c).state with
    | true =>
      rw [← state] at drv
      exact ⟨if_pos drv, if_pos drv⟩
    | false =>
      rw [← state] at drv
      rw [← lastRefD, ← lastRefQ]
      exact ⟨if_neg (by rw [drv]; nofun), if_neg (by rw [drv]; nofun)⟩

/-- Steps 8 to 11. -/
theorem computedChannel_regulators (vbus : Word) (band : (s.chan c).band ≤ 3) (used : (s.active.scheds[c]).used ≤ 4)
    (vlim : ∀ g : Fin 16, s.active.gains[g].vlim ≤ 32767)
    (hk : (computedChannel s x vbus.toNat c).comp = some k) (l : LastResults) :
    TakesRegulators s vbus c { computedChannel s x vbus.toNat c with last := l } k := by
  obtain ⟨-, -, -, accD, accQ, -, -, band', -, -⟩ := beforeReferences_kept x (s.chan c)
  have state := beforeReferences_state x (s.chan c)
  unfold computedChannel at hk ⊢
  generalize beforeReferences x (s.chan c) = b at *
  obtain rfl := Option.some.inj hk
  refine ⟨⟨?_, rfl⟩, ?_⟩
  · rw [← band'] at band ⊢
    exact selectBand_moves band used b.speed
  · rintro g rfl
    obtain ⟨low, high⟩ := voltageMax_bounds (vlim (bandGain s.active.scheds[c] (selectBand s.active.scheds[c] b.speed b.band)))
    rw [← accD, ← accQ, ← state]
    refine ⟨_, _, _, _, _, _, rfl, rfl, rfl, rfl, rfl, rfl, limit_cutTo low high _ _, ?_, ?_⟩
    · show ((_ != _ || _ != _) || _) = true ↔ _
      rw [Bool.or_eq_true, Bool.or_eq_true, bne_iff_ne, bne_iff_ne, dutyClamped_iff, or_assoc]
      unfold unclampedDuty
      rw [compensatedVoltages_eq]
      rfl
    · cases drv : drives b.state with
      | true => exact ⟨(if_pos drv).trans (integrate_eq ..), (if_pos drv).trans (integrate_eq ..)⟩
      | false => exact ⟨if_neg (by rw [drv]; nofun), if_neg (by rw [drv]; nofun)⟩

/-- Steps 12 to 16. -/
theorem computedChannel_compares (vbus : Word) (hk : (computedChannel s x vbus.toNat c).comp = some k) :
    TakesCompares s vbus k := by
  unfold computedChannel at hk
  generalize beforeReferences x (s.chan c) = b at *
  obtain rfl := Option.some.inj hk
  refine ⟨fun l => ?_, rfl, ?_⟩
  · have leg (d : Int) (low : 0 ≤ d) : ∃ n : Nat, (n : Int) = rshift 15 (d * s.station.carrierH) ∧
        compareValue s.station.carrierH s.station.minp d = minPulse s.station.carrierH s.station.minp n := by
      refine ⟨_, Int.toNat_of_nonneg ?_, rfl⟩
      have : 0 ≤ d * (s.station.carrierH : Int) := mul_nonneg low (Int.natCast_nonneg _)
      rw [rshift_fifteen]
      omega
    unfold unclampedDuty
    rw [compensatedVoltages_eq]
    cases l with
    | a | b | c => exact leg _ (clamp_bounds _ (by decide)).1
  · show (s.bus.state != .normal) = _
    cases s.bus.state <;> rfl

/-- Step 17. -/
theorem computedChannel_heat (hk : (computedChannel s x v c).comp = some k) (l : LastResults) :
    TakesHeat s c { computedChannel s x v c with last := l } k := by
  obtain ⟨record, -, -, -, -, -, -, -, i2t, foldback⟩ := beforeReferences_kept x (s.chan c)
  unfold computedChannel at hk ⊢
  generalize beforeReferences x (s.chan c) = b at *
  obtain rfl := Option.some.inj hk
  refine ⟨⟨_, rfl, ?_⟩, ⟨rfl, rfl⟩, ?_⟩
  · simp only [pow_two]
    rw [← record, ← i2t]
    exact Int.toNat_of_nonneg (clamp_bounds _ (by positivity)).1
  · rw [← record, ← foldback]
    exact foldbackStep_iff ..

end

/-! ## Whatever reaches the channel -/

/-- A computation keeps the limits of the voltage vector (R44) and of the compare values (R54). -/
structure KeepsLimits (s : State) (c : Chan) (k : Computation) : Prop where
  length : |k.results.vd| ≤ voltageMax s.active.gains[bandGain s.active.scheds[c] k.band].vlim
  square : k.results.vd ^ 2 + k.results.vq ^ 2 ≤ voltageMax s.active.gains[bandGain s.active.scheds[c] k.band].vlim ^ 2
  bound : voltageMax s.active.gains[bandGain s.active.scheds[c] k.band].vlim ≤ 32767
  compares : ∀ l, tripleLeg k.triple l = 0 ∨ tripleLeg k.triple l = s.station.carrierH ∨
    (s.station.minp ≤ tripleLeg k.triple l ∧ tripleLeg k.triple l ≤ s.station.carrierH - s.station.minp)

theorem keepsLimits_withhold {s : State} {c : Chan} {k : Computation} :
    KeepsLimits s c (withhold k) ↔ KeepsLimits s c k :=
  ⟨fun ⟨length, square, bound, compares⟩ => ⟨length, square, bound, compares⟩,
    fun ⟨length, square, bound, compares⟩ => ⟨length, square, bound, compares⟩⟩

theorem sampledChannel_keepsLimits {x : SampleInputs} {s u : State} {c : Chan} (here : AtSample x s u c) (v : Nat)
    (vlim : ∀ g : Fin 16, s.active.gains[g].vlim ≤ 32767) :
    ∃ k, (sampledChannel u v c).comp = some k ∧ KeepsLimits s c k := by
  have gains (b : Nat) : u.active.gains[bandGain u.active.scheds[c] b] = s.active.gains[bandGain s.active.scheds[c] b] := by
    simp only [here.active]
  have limits (b : Nat) := voltageMax_bounds (vlim (bandGain s.active.scheds[c] b))
  obtain ⟨k, comp⟩ : ∃ k, (sampledChannel u v c).comp = some k := ⟨_, rfl⟩
  refine ⟨k, comp, ?_⟩
  have vector : ∃ d q, k.results.vd = limitD (voltageMax u.active.gains[bandGain u.active.scheds[c] k.band].vlim) d ∧
      k.results.vq = limitQ (voltageMax u.active.gains[bandGain u.active.scheds[c] k.band].vlim) d q := by
    obtain rfl := Option.some.inj comp
    exact ⟨_, _, rfl, rfl⟩
  have pulses (l : Leg) : ∃ n, tripleLeg k.triple l = minPulse u.carrier.h u.carrier.minp n := by
    obtain rfl := Option.some.inj comp
    cases l <;> exact ⟨_, rfl⟩
  obtain ⟨d, q, hd, hq⟩ := vector
  rw [gains] at hd hq
  obtain ⟨length, square⟩ := limit_length (limits k.band).1 (limits k.band).2 d q
  rw [← hd] at length square
  rw [← hq] at square
  refine ⟨length, square, (limits k.band).2, fun l => ?_⟩
  obtain ⟨n, leg⟩ := pulses l
  rw [leg, here.half, here.minp]
  exact minPulse_cases ..

/-- The computation that waits, with its compare values withheld. -/
def withheldComp (ch : Channel) : Option Computation := ch.comp.map withhold

theorem withheldComp_faultFree : FaultFree withheldComp where
  fault k m ia ib v n ch := by
    unfold withheldComp toFault
    cases ch.comp <;> rfl
  later _ _ := rfl
  ramp _ _ _ := rfl
  pend _ := rfl

/-- Settles O11: a channel without a finding that its partner leaves alone takes exactly its computed context; in every
channel a FAULT entry or a reaction leaves the computation but for handing on its compare values. -/
theorem computedVectorsAndComparesKeepTheirLimits : Obligations.ComputedVectorsAndComparesKeepTheirLimits := by
  unfold Obligations.ComputedVectorsAndComparesKeepTheirLimits
  refine ⟨fun x o s c quiet peak band used vlim free => ?_, fun x o s quiet vlim _ => ?_⟩
  · obtain ⟨t, u, result, here, -, alone⟩ := quiet_free quiet o (free c (.inl rfl))
    obtain ⟨chan, chan'⟩ := alone fun isPair => free _ (.inr ⟨isPair, rfl⟩)
    obtain ⟨k, comp, measured⟩ := sampledChannel_measured u x.vbus.toNat c
    have state : (u.chan c).state = (s.chan c).state := by rw [chan]
    have handOn := measured.handOn
    rw [state, ← chan'] at handOn
    rw [sampledChannel_computed here x.vbus.toNat chan] at comp chan'
    have comp : (computedChannel s x.chans[c] x.vbus.toNat c).comp = some k := comp
    refine ⟨t, k, result, ?_, ?_, ?_, computedChannel_compares x.vbus comp, ?_, handOn⟩
    · rw [chan']; exact comp
    · rw [chan']; exact computedChannel_references (quiet.angles c) (quiet.ramps c) peak comp _
    · rw [chan']; exact computedChannel_regulators x.vbus band used vlim comp _
    · rw [chan']; exact computedChannel_heat comp _
  · obtain ⟨w, result, started⟩ := quietStart_event quiet o
    refine ⟨_, result, fun c => ?_⟩
    obtain ⟨before, after, items, notBefore, notAfter⟩ := walkOf_once o c
    have here := atSample started x.vbus.toNat notBefore
    obtain ⟨k', comp', limits⟩ := sampledChannel_keepsLimits here x.vbus.toNat vlim
    have same : withheldComp (((takeItems x.vbus.toNat (walkOf o) w).withMoment none).chan c) = some (withhold k') := by
      rw [State.withMoment_chan, items, takeItems_append]
      refine (withheldComp_faultFree.takeItems x.vbus.toNat notAfter
        (sampleChannel x.vbus.toNat c (takeItems x.vbus.toNat before w))).trans ?_
      rw [withheldComp_faultFree.sampleChannel, State.setChan_chan_same, withheldComp, comp']
      rfl
    obtain ⟨k, comp, kept⟩ := Option.map_eq_some_iff.1 same
    obtain ⟨length, square, bound, compares⟩ :=
      keepsLimits_withhold.1 (by rw [kept]; exact keepsLimits_withhold.2 limits)
    exact ⟨k, _, comp, rfl, length, square, bound, compares⟩

end Sys2Proof.Machine
end

section
/-! The recording of a sample event (R173 to R175). -/

namespace Sys2Proof.Machine

open Sys2Proof Relation

/-! ## The record's place in the sample event -/

/-- No FAULT entry triggers the capture (R174). -/
def Deaf (u : TraceUnit) : Prop := u.capture = .armed → u.armedCfg.source ≠ 2

theorem Deaf.faultTrigger {u : TraceUnit} (h : Deaf u) (c : Chan) : faultTrigger c u = u := by
  by_cases armed : u.capture = .armed
  · exact faultTrigger_unmasked (.inl (h armed))
  · unfold Machine.faultTrigger
    rw [takeTrigger_unarmed armed, ite_self]

theorem enterFault_trace (c : Chan) (k : Cause) (m : Word) (ia ib : Int) (v : Nat) (s : State) :
    (enterFault c k m ia ib v s).trace = faultTrigger c s.trace := by
  show (tellPartner c (enterFaultAlone c k m ia ib v s)).trace = _
  unfold tellPartner
  split
  · exact (partnerReact_moment _ _).2
  · rfl

theorem sampleChannel_trace {s : State} (deaf : Deaf s.trace) (v : Nat) (c : Chan) :
    (sampleChannel v c s).trace = s.trace := by
  by_cases found : HasFinding (s.chan c) s.sense[c]
  · rw [sampleChannel_finding v found, enterFault_trace]
    exact deaf.faultTrigger c
  · exact (sampleChannel_free_view v found).2.2

theorem last_faultFree : FaultFree Channel.last := by constructor <;> intros <;> rfl

theorem sampledChannel_last (s : State) (v : Nat) (c : Chan) : (sampledChannel s v c).last = (s.chan c).last := by
  show (beforeReferences s.sense[c] (s.chan c)).last = _
  rw [beforeReferences_frame]

/-- No item of a sample event changes last results. -/
theorem takeItem_last (v : Nat) (i : WalkItem) (s : State) (d : Chan) :
    ((takeItem v i s).chan d).last = (s.chan d).last := by
  cases i with
  | record => rfl
  | sample c =>
    refine (last_faultFree.sampleChannel v c s d).trans ?_
    by_cases e : d = c
    · subst e
      rw [State.setChan_chan_same, sampledChannel_last]
    · rw [State.setChan_chan_other s _ e]

theorem takeItems_last (v : Nat) (l : List WalkItem) (s : State) (d : Chan) :
    ((takeItems v l s).chan d).last = (s.chan d).last := by
  induction l generalizing s with
  | nil => rfl
  | cons i l ih => exact (ih (takeItem v i s)).trans (takeItem_last v i s d)

/-- Samples leave a deaf Trace Unit. -/
theorem takeItems_trace {v : Nat} {l : List WalkItem} (absent : .record ∉ l) {s : State} (deaf : Deaf s.trace) :
    (takeItems v l s).trace = s.trace := by
  induction l generalizing s with
  | nil => rfl
  | cons i l ih =>
    obtain ⟨ne, others⟩ := not_or.1 (mt List.mem_cons.2 absent)
    cases i with
    | record => exact absurd rfl ne
    | sample c =>
      have same : (takeItem v (.sample c) s).trace = s.trace := sampleChannel_trace deaf v c
      exact (ih others (s := takeItem v (.sample c) s) (by rw [same]; exact deaf)).trans same

theorem walkOf_record (o : SampleOrder) : ∃ before after,
    walkOf o = before ++ .record :: after ∧ .record ∉ before ∧ .record ∉ after := by
  have samples : WalkItem.record ∉ allPairs.flatMap (pairItems o) := by
    intro mem
    obtain ⟨p, -, here⟩ := List.mem_flatMap.1 mem
    unfold pairItems at here
    split at here <;> simp at here
  have items : walkOf o = if o.recordFirst then .record :: allPairs.flatMap (pairItems o)
      else allPairs.flatMap (pairItems o) ++ [.record] := rfl
  cases first : o.recordFirst with
  | true => exact ⟨[], _, by rw [items, first]; rfl, by simp, samples⟩
  | false => exact ⟨_, [], by rw [items, first]; rfl, samples, by simp⟩

/-- A sample event goes as far as it does, and stops before its end only where something holds it up. -/
theorem SampleEvent.as_far {v : Nat} {l : List WalkItem} {s t : State} (event : SampleEvent v l s t) :
    ∃ l₁ l₂ m, l = l₁ ++ l₂ ∧ t = (takeItems v l₁ s).withMoment m ∧
      (l₂ = [] ∨ ¬ Unheld (takeItems v l₁ s) ∨ ∃ l₀ c, LosesAngle (takeItems v l₀ s) c) := by
  induction event with
  | finished s => exact ⟨[], [], none, rfl, rfl, .inl rfl⟩
  | held stuck => exact ⟨[_], _, _, rfl, rfl, .inr (.inl stuck)⟩
  | lost loses _ => exact ⟨[_], _, _, rfl, rfl, .inr (.inr ⟨[], _, loses⟩)⟩
  | @next i l s t _ _ ih =>
    obtain ⟨l₁, l₂, m, split, result, ends⟩ := ih
    refine ⟨i :: l₁, l₂, m, by rw [split]; rfl, result, ends.imp_right (Or.imp_right ?_)⟩
    rintro ⟨l₀, c, loses⟩
    exact ⟨i :: l₀, c, loses⟩

/-- At a calm period start with valid angle words the Trace Unit takes its sample event once, whatever falls due
after it. -/
theorem calmStart_trace {x : SampleInputs} {s : State} (calm : CalmStart s) (valid : ∀ c : Chan, (x.chans[c]).valid = true)
    (deaf : Deaf s.trace) (deafAfter : ∀ last, Deaf (traceSample last s.trace))
    (armed : armedEntryDue s.trace = false) (segment : segmentDue s.trace = false) (o : SampleOrder) :
    ∃ t last, exec (.periodStart x o) s = .next t ∧ t.trace = traceSample last s.trace ∧
      ∀ d, (s.chan d).comp = none → last d = (s.chan d).last := by
  obtain ⟨t, u, result, started, event⟩ := calmStart_event calm armed segment x o
  refine ⟨t, fun d => (u.chan d).last, result, ?_, fun d idle => by
    show (u.chan d).last = _
    rw [started.idle d idle]⟩
  obtain ⟨l₁, l₂, m, split, rfl, ends⟩ := event.as_far
  obtain ⟨before, after, items, notBefore, notAfter⟩ := walkOf_record o
  have deafStart : Deaf u.trace := by rw [started.trace]; exact deaf
  rw [State.withMoment_trace]
  by_cases reached : .record ∈ l₁
  · obtain ⟨a, b, rfl⟩ := List.append_of_mem reached
    obtain ⟨rfl, rest⟩ := once_split (items.symm.trans (split.trans (List.append_assoc a _ l₂))) notBefore notAfter
    have notB : WalkItem.record ∉ b := fun mem => notAfter (by rw [rest]; exact List.mem_append_left _ mem)
    have first := takeItems_trace (v := x.vbus.toNat) notBefore deafStart
    have recorded : (takeItem x.vbus.toNat .record (takeItems x.vbus.toNat before u)).trace =
        traceSample (fun d => (u.chan d).last) s.trace := by
      show traceSample (fun d => ((takeItems x.vbus.toNat before u).chan d).last) _ = _
      rw [first, started.trace]
      congr 1
      exact funext fun d => takeItems_last ..
    rw [takeItems_append]
    refine (takeItems_trace (v := x.vbus.toNat) notB
      (s := takeItem x.vbus.toNat .record (takeItems x.vbus.toNat before u)) ?_).trans recorded
    rw [recorded]
    exact deafAfter _
  · have same := takeItems_trace (v := x.vbus.toNat) reached deafStart
    rw [started.trace] at same
    rcases ends with none | stuck | ⟨l₀, c, loses⟩
    · rw [none, List.append_nil] at split
      rw [← split, items] at reached
      exact absurd (by simp) reached
    · exact absurd (unheld_of_calm calm started split (by rw [same]; exact armed) (by rw [same]; exact segment)) stuck
    · have invalid := loses.invalid
      simp only [(takeItems_turned x.vbus.toNat l₀ u).keeps.sense, started.sense, valid c] at invalid
      cases invalid

/-! ## One record -/

theorem periodNext_zero {u : TraceUnit} (start : u.period = 0) :
    periodNext u = if u.armedCfg.decim ≤ 1 then 0 else 1 := by
  unfold periodNext
  rw [start]
  split <;> split <;> omega

/-- A record is written into a unit `w` that differs from `u` by a taken trigger at most. -/
theorem writeRecord_written {u w : TraceUnit} (r : TraceRec) (wf : TraceMem.wf u.mem = true) (start : u.period = 0)
    (same : w = { u with capture := w.capture, segs := w.segs }) (segs : ∀ k : Fin 4, k ≠ u.seg → w.segs[k] = u.segs[k]) :
    RecordWritten u { writeRecord r w with period := periodNext u } r
      (segmentAfter w ((u.pointer + 1) % traceL u)).valid (segmentAfter w ((u.pointer + 1) % traceL u)).oldest := by
  have cfg : w.armedCfg = u.armedCfg := by rw [same]
  have seg : w.seg = u.seg := by rw [same]
  have pointer : w.pointer = u.pointer := by rw [same]
  have mem : w.mem = u.mem := by rw [same]
  have length : traceL w = traceL u := by unfold traceL; rw [cfg]
  have read (n : Nat) : traceRead (writeRecord r w).mem n =
      if n = (if u.armedCfg.segmented then 1024 * u.seg.val else 0) + u.pointer then r else traceRead u.mem n := by
    unfold writeRecord segmentBase
    rw [cfg, seg, pointer, mem]
    exact traceRead_write _ _ _ wf
  have segments : (writeRecord r w).segs = w.segs.set u.seg (segmentAfter w ((u.pointer + 1) % traceL u)) := by
    show w.segs.set w.seg (segmentAfter w ((w.pointer + 1) % traceL w)) = _
    simp only [seg, pointer, length]
  have active : (writeRecord r w).segs[w.seg] = segmentAfter w ((u.pointer + 1) % traceL u) := by
    rw [segments]
    simp only [seg]
    exact Vector.getElem_set_self ..
  constructor
  · exact (read _).trans (if_pos rfl)
  · exact fun n other => (read n).trans (if_neg other)
  · show (w.pointer + 1) % traceL w = _
    rw [pointer, length]
  · exact congrArg Segment.valid active
  · exact congrArg (fun x : Segment => (x.oldest : Int)) active
  · intro k other
    show (writeRecord r w).segs[k] = _
    rw [segments, ← segs k other]
    exact Vector.getElem_set_ne _ _ fun e => other (Fin.ext e.symm)
  · exact periodNext_zero start
  · exact seg
  · exact ⟨show w.cfg = _ by rw [same], cfg⟩

/-- The segment after a record, with the oldest record following (R173). -/
theorem segmentAfter_following {u : TraceUnit} (capture : u.capture ≠ .post) :
    (segmentAfter u ((u.pointer + 1) % traceL u)).valid = min (u.segs[u.seg].valid + 1) (traceL u) ∧
      ((segmentAfter u ((u.pointer + 1) % traceL u)).oldest : Int) =
        ((u.pointer : Int) + 1 - (min (u.segs[u.seg].valid + 1) (traceL u) : Nat)) % (traceL u : Int) := by
  have form : segmentAfter u ((u.pointer + 1) % traceL u) =
      ⟨min (u.segs[u.seg].valid + 1) (traceL u),
        offsetBack (traceL u) ((u.pointer + 1) % traceL u) (min (u.segs[u.seg].valid + 1) (traceL u))⟩ := by
    unfold segmentAfter
    cases h : u.capture with
    | post => exact absurd h capture
    | idle | pre | armed | done => rfl
  rw [form]
  refine ⟨rfl, ?_⟩
  dsimp only
  rw [offsetBack_eq (traceL_pos u)]
  push_cast
  rw [Int.sub_emod, Int.emod_emod, ← Int.sub_emod]

/-- The segment after a record in POST, with its oldest record fixed (R173). -/
theorem segmentAfter_post {u : TraceUnit} (capture : u.capture = .post) (p : Nat) :
    segmentAfter u p = { u.segs[u.seg] with valid := min (u.segs[u.seg].valid + 1) (traceL u) } := by
  unfold segmentAfter
  rw [capture]
  rfl

theorem traceSample_recording {u : TraceUnit} (last : Chan → LastResults) (runs : capturing u.capture = true)
    (start : u.period = 0) :
    traceSample last u = { recordNow (formRecord u.armedCfg last) u with period := periodNext u } := by
  unfold traceSample
  rw [if_pos runs, if_pos start]

theorem traceSample_between {u : TraceUnit} (last : Chan → LastResults) (runs : capturing u.capture = true)
    (between : u.period ≠ 0) : traceSample last u = { u with period := periodNext u } := by
  unfold traceSample
  rw [if_pos runs, if_neg between]

theorem recordNow_uncrossed {u : TraceUnit} {r : TraceRec} (h : levelCrossing u r = false) :
    recordNow r u = writeRecord r u := by
  unfold recordNow; rw [h]; rfl

theorem recordNow_crossed {u : TraceUnit} {r : TraceRec} (h : levelCrossing u r = true) :
    recordNow r u = writeRecord r (takeTrigger u) := by
  unfold recordNow; rw [h]; rfl

theorem levelCrossing_of_ne {u : TraceUnit} (h : u.capture ≠ .armed ∨ u.armedCfg.source ≠ 1) (r : TraceRec) :
    levelCrossing u r = false := by
  unfold levelCrossing
  rcases h with h | h <;> simp [h]

/-- Without a crossing the record is written and the capture goes on as it is. -/
theorem recordNow_written {u : TraceUnit} {r : TraceRec} (wf : TraceMem.wf u.mem = true) (start : u.period = 0)
    (none : levelCrossing u r = false) :
    ({ recordNow r u with period := periodNext u } : TraceUnit).capture = u.capture ∧
      RecordWritten u { recordNow r u with period := periodNext u } r
        (segmentAfter u ((u.pointer + 1) % traceL u)).valid (segmentAfter u ((u.pointer + 1) % traceL u)).oldest := by
  rw [recordNow_uncrossed none]
  exact ⟨rfl, writeRecord_written r wf start rfl fun _ _ => rfl⟩

/-- With a crossing the trigger is taken first (R175). -/
theorem recordNow_triggered {u : TraceUnit} {r : TraceRec} (wf : TraceMem.wf u.mem = true) (start : u.period = 0)
    (room : u.armedCfg.preCount < traceL u) (crossing : levelCrossing u r = true) :
    ({ recordNow r u with period := periodNext u } : TraceUnit).capture = .post ∧
      RecordWritten u { recordNow r u with period := periodNext u } r (u.armedCfg.preCount + 1)
        (((u.pointer : Int) - u.armedCfg.preCount) % (traceL u : Int)) := by
  have armed : u.capture = .armed := by
    by_contra other
    rw [levelCrossing_of_ne (.inl other)] at crossing
    cases crossing
  have taken := takeTrigger_armed armed
  have written := writeRecord_written (w := takeTrigger u) r wf start (by rw [taken]) fun k other => by
    rw [taken]
    exact Vector.getElem_set_ne u.seg.isLt k.isLt fun e => other (Fin.ext e.symm)
  rw [segmentAfter_post (by rw [taken])] at written
  have active : (takeTrigger u).segs[(takeTrigger u).seg] =
      ⟨u.armedCfg.preCount, offsetBack (traceL u) u.pointer u.armedCfg.preCount⟩ := by
    simp only [taken]
    exact Vector.getElem_set_self ..
  have length : traceL (takeTrigger u) = traceL u := by unfold traceL; rw [takeTrigger_armedCfg]
  rw [active, length] at written
  dsimp only at written
  rw [offsetBack_eq (traceL_pos u), Nat.min_eq_left (by omega)] at written
  rw [recordNow_crossed crossing]
  exact ⟨by show (takeTrigger u).capture = _; rw [taken], written⟩

/-- The crossing test (R175). -/
theorem levelCrossing_iff {u : TraceUnit} {r : TraceRec} (armed : u.capture = .armed) (source : u.armedCfg.source = 1)
    {value : Word → Int} (hv : value = fun y => if u.armedCfg.sel0Q ≤ 8 then y.toInt else (y.toNat : Int)) {prev : Word}
    (hp : prev = (traceRead u.mem ((if u.armedCfg.segmented then 1024 * u.seg.val else 0) +
      (u.pointer + traceL u - 1) % traceL u)).w0) :
    levelCrossing u r = true ↔ u.segs[u.seg].valid ≠ 0 ∧
      (u.armedCfg.sourceArg = 0 → value prev < value u.armedCfg.threshold ∧ value u.armedCfg.threshold ≤ value r.w0) ∧
      (u.armedCfg.sourceArg ≠ 0 → value u.armedCfg.threshold < value prev ∧ value r.w0 ≤ value u.armedCfg.threshold) := by
  have before : (lastWritten u).w0 = prev := by
    have one : 1 % traceL u = 1 := by unfold traceL captureLength; split <;> rfl
    rw [hp]
    unfold lastWritten offsetBack
    rw [one]
    rfl
  have read (y : Word) : levelValue u.armedCfg.sel0Q y = value y := by rw [hv]; rfl
  have crossing : crosses u.armedCfg (lastWritten u).w0 r.w0 = true ↔
      (u.armedCfg.sourceArg = 0 → value prev < value u.armedCfg.threshold ∧ value u.armedCfg.threshold ≤ value r.w0) ∧
      (u.armedCfg.sourceArg ≠ 0 → value u.armedCfg.threshold < value prev ∧ value r.w0 ≤ value u.armedCfg.threshold) := by
    unfold crosses
    simp only [read, before]
    split
    · next up => simp [up]
    · next down =>
      rw [decide_eq_true_iff]
      exact ⟨fun h => ⟨fun up => absurd up down, fun _ => h⟩, fun h => h.2 down⟩
  unfold levelCrossing
  rw [armed, source, Bool.and_eq_true, crossing]
  refine and_congr_left fun _ => ?_
  show ((true && true) && (u.segs[u.seg].valid != 0)) = true ↔ _
  simp

/-- Nothing falls due before the record, and no FAULT entry triggers the capture, before it or after it. -/
theorem recording_undisturbed {u : TraceUnit}
    (h : (u.capture = .pre ∧ u.segs[u.seg].valid < u.armedCfg.preCount) ∨
      (u.capture = .armed ∧ u.armedCfg.source ≠ 2) ∨ (u.capture = .post ∧ u.segs[u.seg].valid < traceL u)) :
    capturing u.capture = true ∧ Deaf u ∧ (∀ last, Deaf (traceSample last u)) ∧ armedEntryDue u = false ∧
      segmentDue u = false := by
  have runs : capturing u.capture = true := by rcases h with ⟨e, -⟩ | ⟨e, -⟩ | ⟨e, -⟩ <;> rw [e] <;> rfl
  have deaf : Deaf u := by
    rcases h with ⟨e, -⟩ | ⟨-, source⟩ | ⟨e, -⟩
    · exact fun armed => by rw [e] at armed; cases armed
    · exact fun _ => source
    · exact fun armed => by rw [e] at armed; cases armed
  refine ⟨runs, deaf, fun last => ?_, ?_, ?_⟩
  · have written (r : TraceRec) : Deaf (recordNow r u) := by
      cases crossing : levelCrossing u r with
      | false => rw [recordNow_uncrossed crossing]; exact deaf
      | true =>
        have armed : u.capture = .armed := by
          by_contra other
          rw [levelCrossing_of_ne (.inl other)] at crossing
          cases crossing
        rw [recordNow_crossed crossing]
        intro still
        have still : (takeTrigger u).capture = .armed := still
        rw [takeTrigger_armed armed] at still
        cases still
    by_cases start : u.period = 0
    · rw [traceSample_recording last runs start]; exact written _
    · rw [traceSample_between last runs start]; exact deaf
  · unfold armedEntryDue
    rcases h with ⟨-, less⟩ | ⟨e, -⟩ | ⟨e, -⟩
    · have less : (activeSegment u).valid < traceP u := less
      rw [beq_eq_false_iff_ne.2 (Nat.ne_of_lt less), Bool.and_false]
    · rw [e]; rfl
    · rw [e]; rfl
  · unfold segmentDue
    rcases h with ⟨e, -⟩ | ⟨e, -⟩ | ⟨-, less⟩
    · rw [e]; rfl
    · rw [e]; rfl
    · have less : (activeSegment u).valid < traceL u := less
      rw [beq_eq_false_iff_ne.2 (Nat.ne_of_lt less), Bool.and_false]

/-- A recording sample event of a calm period start (R173). -/
theorem calmStart_records {x : SampleInputs} {s : State} {r : TraceRec} (calm : CalmStart s)
    (valid : ∀ c : Chan, (x.chans[c]).valid = true) (idle : ∀ c, (s.chan c).comp = none) (start : s.trace.period = 0)
    (hr : r = formRecord s.trace.armedCfg fun c => (s.chan c).last)
    (h : (s.trace.capture = .pre ∧ s.trace.segs[s.trace.seg].valid < s.trace.armedCfg.preCount) ∨
      (s.trace.capture = .armed ∧ s.trace.armedCfg.source ≠ 2) ∨
      (s.trace.capture = .post ∧ s.trace.segs[s.trace.seg].valid < traceL s.trace)) (o : SampleOrder) :
    ∃ t, exec (.periodStart x o) s = .next t ∧
      t.trace = { recordNow r s.trace with period := periodNext s.trace } := by
  obtain ⟨runs, deaf, deafAfter, armed, segment⟩ := recording_undisturbed h
  obtain ⟨t, last, result, trace, lasts⟩ := calmStart_trace calm valid deaf deafAfter armed segment o
  have same : last = fun c => (s.chan c).last := funext fun c => lasts c (idle c)
  refine ⟨t, result, ?_⟩
  rw [trace, traceSample_recording last runs start, hr, same]

theorem quantityWord_words {q : Nat} {l : LastResults} {y : Word} (h : y = quantityWord q l) :
    (q = 0 → y = word l.ia) ∧ (q = 1 → y = word l.ib) ∧ (q = 2 → y = word l.id) ∧
      (q = 3 → y = word l.iq) ∧ (q = 4 → y = word l.idRef) ∧ (q = 5 → y = word l.iqRef) ∧
      (q = 6 → y = word l.vd) ∧ (q = 7 → y = word l.vq) ∧ (q = 8 → y = word l.speed) ∧
      (q = 9 → y = word l.angle) ∧ (q = 10 → y = word l.vbus) ∧
      (q = 11 → y = word (rshift 16 l.i2t)) ∧ (q = 12 → y = word (stateCode l.state)) ∧ (q = 13 → y = 0) := by
  subst h
  refine ⟨?_, ?_, ?_, ?_, ?_, ?_, ?_, ?_, ?_, ?_, ?_, ?_, ?_, ?_⟩ <;> rintro rfl <;> rfl

/-- Settles O54: nothing disturbs the record's item, which writes one record by the state of the capture. -/
theorem recordingSampleWritesOneRecord : Obligations.RecordingSampleWritesOneRecord := by
  unfold Obligations.RecordingSampleWritesOneRecord
  refine ⟨fun x o s r base V quiet capture start idle wf _ hr hbase hV => ?_,
    fun x o s r V calm valid idle wf _ start room hr hV => ?_,
    fun x o s calm valid between state => ?_, fun cfg last q l y => ⟨rfl, rfl, rfl, rfl, quantityWord_words⟩⟩
  · have source : s.trace.armedCfg.source = 0 := by
      rcases quiet.capture with e | ⟨-, source⟩
      · rw [e] at capture; cases capture
      · exact source
    obtain ⟨t, result, trace⟩ := calmStart_records quiet.toCalmStart quiet.angles idle start hr
      (.inr (.inl ⟨capture, by rw [source]; nofun⟩)) o
    obtain ⟨after, written⟩ := recordNow_written (r := r) wf start
      (levelCrossing_of_ne (.inr (by rw [source]; nofun)) r)
    obtain ⟨count, oldest⟩ := segmentAfter_following (u := s.trace) (by rw [capture]; nofun)
    rw [← trace] at after written
    obtain ⟨read, others, pointer, validCount, oldestAt, segments, period, seg, cfg, armedCfg⟩ := written
    rw [← hbase] at read others
    rw [count, ← hV] at validCount
    rw [oldest, ← hV] at oldestAt
    simp only [seg] at validCount oldestAt
    refine ⟨t, result, read, others, pointer, validCount, ?_, segments, period, after.trans capture, seg, cfg, armedCfg⟩
    rw [oldestAt, pointer]
    push_cast
    rw [Int.sub_emod (((s.trace.pointer : Int) + 1) % _), Int.emod_emod, ← Int.sub_emod]
  · by_cases applies : (s.trace.capture = .pre ∧ V < s.trace.armedCfg.preCount) ∨
        (s.trace.capture = .armed ∧ s.trace.armedCfg.source = 1) ∨ (s.trace.capture = .post ∧ V < traceL s.trace)
    · have state : (s.trace.capture = .pre ∧ s.trace.segs[s.trace.seg].valid < s.trace.armedCfg.preCount) ∨
          (s.trace.capture = .armed ∧ s.trace.armedCfg.source ≠ 2) ∨
          (s.trace.capture = .post ∧ s.trace.segs[s.trace.seg].valid < traceL s.trace) := by
        rw [← hV]
        exact applies.imp_right (Or.imp_left fun ⟨e, source⟩ => ⟨e, by rw [source]; nofun⟩)
      obtain ⟨t, result, trace⟩ := calmStart_records calm valid idle start hr state o
      refine ⟨t, result, fun capture short => ?_, fun capture short => ?_,
        fun capture source crossed value prev hv hp hc => ?_⟩
      · obtain ⟨after, written⟩ := recordNow_written (r := r) wf start
          (levelCrossing_of_ne (.inl (by rw [capture]; nofun)) r)
        obtain ⟨count, oldest⟩ := segmentAfter_following (u := s.trace) (by rw [capture]; nofun)
        rw [count, oldest, ← hV, Nat.min_eq_left (by omega)] at written
        rw [trace]
        exact ⟨after.trans capture, written⟩
      · obtain ⟨after, written⟩ := recordNow_written (r := r) wf start
          (levelCrossing_of_ne (.inl (by rw [capture]; nofun)) r)
        rw [segmentAfter_post capture] at written
        dsimp only at written
        rw [← hV, Nat.min_eq_left (by omega)] at written
        rw [trace]
        exact ⟨after.trans capture, written⟩
      · have test := levelCrossing_iff (r := r) capture source hv hp
        rw [← hV, ← hc] at test
        rw [trace]
        refine ⟨fun yes => recordNow_triggered wf start room (test.2 yes), fun no => ?_⟩
        obtain ⟨after, written⟩ := recordNow_written (r := r) wf start (Bool.eq_false_iff.2 (mt test.1 no))
        obtain ⟨count, oldest⟩ := segmentAfter_following (u := s.trace) (by rw [capture]; nofun)
        rw [count, oldest, ← hV] at written
        exact ⟨after.trans capture, written⟩
    · refine ⟨_, exec_periodStart calm.released calm.settled x o, fun capture short => ?_, fun capture short => ?_,
        fun capture source => ?_⟩
      · exact absurd (.inl ⟨capture, short⟩) applies
      · exact absurd (.inr (.inr ⟨capture, short⟩)) applies
      · exact absurd (.inr (.inl ⟨capture, source⟩)) applies
  · obtain ⟨runs, deaf, deafAfter, armed, segment⟩ := recording_undisturbed state
    obtain ⟨t, last, result, trace, -⟩ := calmStart_trace calm valid deaf deafAfter armed segment o
    exact ⟨t, result, by rw [trace, traceSample_between last runs between]; rfl⟩

end Sys2Proof.Machine
end
